-- ==== Sys2Proof/Word.lean ====
section
/-!
DEFINITION. The wire words of the VH-6240 and its number ranges (00_scope.md, Conventions, Numbering).
-/

namespace Sys2Proof

/-- One byte of a frame. -/
abbrev Byte := BitVec 8

/-- Serials, item codes, the confirm window and L_max on the wire (R198). -/
abbrev Word16 := BitVec 16

/-- Voucher numbers, label counters, stamps, counts and time base values on the wire (R198). -/
abbrev Word32 := BitVec 32

/-- Amounts and meter registers on the wire (R198). -/
abbrev Word48 := BitVec 48

/-- Meters are numbered 0 to 191, part-wide. -/
abbrev MeterId := Fin 192

/-- Branches are numbered 0 to 47. -/
abbrev BranchId := Fin 48

/-- Stock lines are numbered 0 to 11 within each branch. -/
abbrev LineNo := Fin 12

/-- Grant slots are numbered 0 to 7. -/
abbrev SlotId := Fin 8

/-- Requesters are numbered 0 to 47 for the branches and 48 for the List Unit (R59). -/
abbrev Requester := Fin 49

/-- Urgency levels run from 0 to 7. -/
abbrev Urgency := Fin 8

end Sys2Proof
end

