-- ==== Sys2Proof/Syntax.lean ====
section
/-!
DEFINITION. The commands of the VH-6240: one constructor of `Instr` for each row of spec/opcode_table.json.

A row that is a message carries the port it arrives on, its tag and its body.
The body is given by its fields in their wire widths (R198), or by the bytes of a body whose length is
not the one the kind's row of R198 gives (R197, check 2).
A row that is an event at a pin, at a line or at a timer carries the port, the byte, the meter or the slot concerned.
-/

namespace Sys2Proof

/-- The two ports (00_scope.md, The two ports). -/
inductive Port where
  | operations
  | audit
deriving DecidableEq, Repr

/-- A message body: the fields of the kind, or bytes of another length than the kind's row gives (R197). -/
inductive Body (α : Type) where
  | fields (f : α)
  | otherLength (bytes : List Byte)
deriving DecidableEq, Repr

/-- METER-STATUS and FINAL-READING: 17 bytes (R36, R133). -/
structure ReadingMsg where
  meter : Byte
  ar : Word48
  dr : Word48
  labels : Word32
deriving DecidableEq, Repr

/-- REFILL-REQUEST: 8 bytes (R54). -/
structure RefillMsg where
  meter : Byte
  q : Word48
  urgency : Byte
deriving DecidableEq, Repr

/-- GRANT-APPLIED: 19 bytes (R92). -/
structure AppliedMsg where
  meter : Byte
  serial : Word16
  ar : Word48
  dr : Word48
  labels : Word32
deriving DecidableEq, Repr

/-- GRANT-REJECTED: 20 bytes, with the reason after the serial (R92). -/
structure RejectedMsg where
  meter : Byte
  serial : Word16
  reason : Byte
  ar : Word48
  dr : Word48
  labels : Word32
deriving DecidableEq, Repr

/-- DEPOSIT: 10 bytes (R6). -/
structure DepositMsg where
  voucher : Word32
  amount : Word48
deriving DecidableEq, Repr

/-- ENROL-METER: 18 bytes (R24). -/
structure EnrolMsg where
  meter : Byte
  branch : Byte
  ar : Word48
  dr : Word48
  labels : Word32
deriving DecidableEq, Repr

/-- CONFIGURE-METER: 25 bytes; the no-link value of `link` is 255 (R27, R198). -/
structure ConfigureMeterMsg where
  meter : Byte
  ceiling : Word48
  step : Word48
  minimum : Word48
  holdOff : Word32
  hours : Byte
  link : Byte
deriving DecidableEq, Repr

/-- A body that is one meter number (R29, R42, R130, R189). -/
structure MeterMsg where
  meter : Byte
deriving DecidableEq, Repr

/-- CONFIGURE-BRANCH: 12 bytes (R46). -/
structure ConfigureBranchMsg where
  branch : Byte
  cls : Byte
  weight : Byte
  batch : Byte
  suspended : Byte
  allowancePresent : Byte
  allowance : Word48
deriving DecidableEq, Repr

/-- SET-URGENCY-MAP: 8 priority fields, one for each urgency in order (R53). -/
structure UrgencyMapMsg where
  entries : Vector Byte 8
deriving DecidableEq, Repr

/-- SET-ENGINE: 5 bytes (R88). -/
structure SetEngineMsg where
  window : Word16
  batchLimit : Byte
  lMax : Word16
deriving DecidableEq, Repr

/-- CONFIGURE-STOCK-LINE: 13 bytes (R145). -/
structure StockLineMsg where
  branch : Byte
  line : Byte
  item : Word16
  kind : Byte
  face : Word32
  level : Word32
deriving DecidableEq, Repr

/-- STOCK-RECEIPT: 7 bytes (R147). -/
structure ReceiptMsg where
  branch : Byte
  line : Byte
  count : Word32
  paid : Byte
deriving DecidableEq, Repr

/-- STOCK-SALE, STOCK-SPOIL and STOCK-COUNT: 6 bytes (R149, R152). -/
structure PiecesMsg where
  branch : Byte
  line : Byte
  count : Word32
deriving DecidableEq, Repr

/-- One entry of a LOAD-LIST body: 8 bytes (R116). -/
structure ListEntryMsg where
  meter : Byte
  q : Word48
  flags : Byte
deriving DecidableEq, Repr

/-- LOAD-LIST: 1 + 8n bytes; the count byte is the number of entries (R116). -/
structure LoadListMsg where
  entries : List ListEntryMsg
deriving DecidableEq, Repr

/-- START-LIST: 2 bytes (R117). -/
structure StartListMsg where
  cls : Byte
  batch : Byte
deriving DecidableEq, Repr

/-- CLOSE-PERIOD and COLLECT-PERIOD: 4 bytes (R165, R169). -/
structure StampMsg where
  stamp : Word32
deriving DecidableEq, Repr

/-- One pair of a SET-NOTICES body (R204). -/
structure NoticePairMsg where
  enabled : Byte
  route : Byte
deriving DecidableEq, Repr

/-- SET-NOTICES: 16 bytes, one pair for each class in code order (R204). -/
structure SetNoticesMsg where
  pairs : Vector NoticePairMsg 8
deriving DecidableEq, Repr

/-- REFUND: 6 bytes (R7). -/
structure RefundMsg where
  amount : Word48
deriving DecidableEq, Repr

/-- SET-POOL-LIMITS: 18 bytes, F, T and E (R8). -/
structure PoolLimitsMsg where
  floor : Word48
  threshold : Word48
  engagement : Word48
deriving DecidableEq, Repr

/-- SET-FAULT-POLICY: 1 byte (R182). -/
structure PolicyMsg where
  policy : Byte
deriving DecidableEq, Repr

/-- SET-TOLERANCE: 6 bytes (R154). -/
structure ToleranceMsg where
  tolerance : Word48
deriving DecidableEq, Repr

/-- QUERY-BRANCH: 1 byte (R68). -/
structure BranchMsg where
  branch : Byte
deriving DecidableEq, Repr

/-- QUERY-STOCK: 3 bytes (R159). -/
structure QueryStockMsg where
  branch : Byte
  first : Byte
  count : Byte
deriving DecidableEq, Repr

/-- QUERY-LIST: 2 bytes (R128). -/
structure QueryListMsg where
  first : Byte
  count : Byte
deriving DecidableEq, Repr

/-- QUERY-PERIOD: 3 bytes (R170). -/
structure QueryPeriodMsg where
  bank : Byte
  first : Byte
  count : Byte
deriving DecidableEq, Repr

/-- QUERY-LINE: 1 byte, the port selector (R202). -/
structure QueryLineMsg where
  port : Byte
  /-- The level at which the named port's ready-in pin stands when the query is taken: no byte of the body, but the
  environment's (DESIGN CHOICE, notes/assumptions/8.md). -/
  readyIn : Bool
deriving DecidableEq, Repr

/-- The two rate strapping pins of one port (R192); `true` is high. -/
structure StrapPins where
  first : Bool
  second : Bool
deriving DecidableEq, Repr

/-- The strapping pins of both ports, as sampled at a power-on (R192). -/
structure Straps where
  operations : StrapPins
  audit : StrapPins
deriving DecidableEq, Repr

/-- The commands: one constructor for each row of spec/opcode_table.json, in the table's order. -/
inductive Instr where
  | meterStatus (p : Port) (tag : Byte) (b : Body ReadingMsg)
  | refillRequest (p : Port) (tag : Byte) (b : Body RefillMsg)
  | grantApplied (p : Port) (tag : Byte) (b : Body AppliedMsg)
  | grantRejected (p : Port) (tag : Byte) (b : Body RejectedMsg)
  | deposit (p : Port) (tag : Byte) (b : Body DepositMsg)
  | enrolMeter (p : Port) (tag : Byte) (b : Body EnrolMsg)
  | configureMeter (p : Port) (tag : Byte) (b : Body ConfigureMeterMsg)
  | suspendMeter (p : Port) (tag : Byte) (b : Body MeterMsg)
  | retireMeter (p : Port) (tag : Byte) (b : Body MeterMsg)
  | finalReading (tag : Byte) (b : Body ReadingMsg)
  | adjustingFinalReading (tag : Byte) (b : Body ReadingMsg)
  | configureBranch (p : Port) (tag : Byte) (b : Body ConfigureBranchMsg)
  | setUrgencyMap (p : Port) (tag : Byte) (b : Body UrgencyMapMsg)
  | setEngine (p : Port) (tag : Byte) (b : Body SetEngineMsg)
  | engineRestart (p : Port) (tag : Byte) (b : Body Unit)
  | configureStockLine (p : Port) (tag : Byte) (b : Body StockLineMsg)
  | stockReceipt (p : Port) (tag : Byte) (b : Body ReceiptMsg)
  | stockSale (p : Port) (tag : Byte) (b : Body PiecesMsg)
  | stockSpoil (p : Port) (tag : Byte) (b : Body PiecesMsg)
  | stockCount (p : Port) (tag : Byte) (b : Body PiecesMsg)
  | loadList (p : Port) (tag : Byte) (b : Body LoadListMsg)
  | startList (p : Port) (tag : Byte) (b : Body StartListMsg)
  | haltList (p : Port) (tag : Byte) (b : Body Unit)
  | abortList (p : Port) (tag : Byte) (b : Body Unit)
  | clearList (p : Port) (tag : Byte) (b : Body Unit)
  | closePeriod (p : Port) (tag : Byte) (b : Body StampMsg)
  | collectPeriod (p : Port) (tag : Byte) (b : Body StampMsg)
  | setNotices (p : Port) (tag : Byte) (b : Body SetNoticesMsg)
  | commission (p : Port) (tag : Byte) (b : Body Unit)
  | refund (p : Port) (tag : Byte) (b : Body RefundMsg)
  | setPoolLimits (p : Port) (tag : Byte) (b : Body PoolLimitsMsg)
  | setFaultPolicy (p : Port) (tag : Byte) (b : Body PolicyMsg)
  | setTolerance (p : Port) (tag : Byte) (b : Body ToleranceMsg)
  | resumeMeter (p : Port) (tag : Byte) (b : Body MeterMsg)
  | release (p : Port) (tag : Byte) (b : Body Unit)
  | clearFaults (p : Port) (tag : Byte) (b : Body Unit)
  | queryPool (p : Port) (tag : Byte) (b : Body Unit)
  | queryMeter (p : Port) (tag : Byte) (b : Body MeterMsg)
  | queryBranch (p : Port) (tag : Byte) (b : Body BranchMsg)
  | queryStock (p : Port) (tag : Byte) (b : Body QueryStockMsg)
  | queryList (p : Port) (tag : Byte) (b : Body QueryListMsg)
  | queryPeriod (p : Port) (tag : Byte) (b : Body QueryPeriodMsg)
  | queryFaults (p : Port) (tag : Byte) (b : Body Unit)
  | queryLine (p : Port) (tag : Byte) (b : Body QueryLineMsg)
  | queryNotices (p : Port) (tag : Byte) (b : Body Unit)
  /-- A frame whose kind byte is no inbound kind (R197, check 2). -/
  | unknownKind (p : Port) (tag : Byte) (kind : Byte) (body : List Byte)
  /-- A byte between frames; `stop` says that its stop bit was received (R192, R194). -/
  | discardedByte (p : Port) (b : Byte) (stop : Bool)
  /-- The second length byte of a frame whose length is below 2 (R194). -/
  | shortLength (p : Port) (b : Byte) (stop : Bool)
  | silence (p : Port)
  /-- The last check byte of a frame being received (R195). -/
  | frameCheck (p : Port) (b : Byte) (stop : Bool)
  | overrun (p : Port)
  | lineBreak (p : Port)
  | breakEnd (p : Port)
  /-- The transmitter reads the level of ready-in, `readyIn`, before it starts a frame (R200). -/
  | frameTransmissionStart (p : Port) (readyIn : Bool)
  | fullyTransmitted (p : Port)
  | selection
  | queuingOpportunity (p : Port)
  | supervisionExpiry (m : MeterId)
  | holdOffExpiry (m : MeterId)
  | grantExpiry (k : SlotId)
  | powerOn (straps : Straps)
  | powerOnRetentionLost (straps : Straps)
  | startMarkerReceived (p : Port)
  | frameByteReceived (p : Port) (b : Byte) (stop : Bool)
  | powerLoss
deriving DecidableEq, Repr

end Sys2Proof
end

