-- ==== Sys2Proof/Decode.lean ====
section
/-!
DEFINITION. Table words. spec/opcode_table.json gives no row any bits, so no word spells a command
(notes/assumptions/7.md).
The bytes of a message are read and judged where they arrive, at the Line Interface and the Dispatcher.
-/

namespace Sys2Proof

/-- The command that a word spells by the table's bits: none, as the table gives no row any. -/
def decodeTableWord (_nbits _w : Nat) : Option Instr :=
  none

end Sys2Proof
end

