-- ==== Sys2Proof/Config.lean ====
section
/-!
DEFINITION. The figures that the manual fixes for every part: ranges, capacities and defaults.
The manual leaves no value of any command's result open, so no constant here is opaque.
-/

namespace Sys2Proof.Config

/-- 2^48 − 1, the top of every pool figure and of every unsigned amount of a period bank (R1, R15, R162). -/
def maxFigure : Nat := 281474976710655

/-- 10^12 − 1, the top of the floor, the ration threshold, a period allowance and the tolerance (R2, R44, R154). -/
def maxLimit : Nat := 999999999999

/-- The largest single refill request or grant, and the top of E, C and M (00_scope.md, Amounts; R2, R19). -/
def maxGrant : Nat := 99999999

/-- The largest deposit or refund (R6, R7). -/
def maxPayment : Nat := 99999999999

/-- 2^32 − 1, where the counts of stock lines and period banks saturate (R143, R162). -/
def maxCount : Nat := 4294967295

/-- 65,535, where the line counters and the fault counts saturate (R178, R202). -/
def maxTally : Nat := 65535

/-- The most pieces on hand in a stock line, and the top of a reorder level (R143). -/
def maxPieces : Nat := 999999

/-- The largest face value of a stock item (R143). -/
def maxFace : Nat := 9999999

/-- The signed fields of a bank run from −2^47 to 2^47 − 1 (R162, R163). -/
def minSigned : Int := -140737488355328

/-- The upper end of the signed fields of a bank (R162, R163). -/
def maxSigned : Int := 140737488355327

/-- Frames an outbound queue holds (R200). -/
def queuePlaces : Nat := 16

/-- Free places a selection needs on the Operations port (R60). -/
def selectionPlaces : Nat := 3

/-- Entries a distribution list holds (R113). -/
def listEntries : Nat := 32

/-- Enrolled meters a branch holds (R26). -/
def branchMeters : Nat := 8

/-- The pace a SHORT refusal loads (R51). -/
def fullPace : Nat := 15

/-- Seconds in an hour of the supervision period (00_scope.md, Time). -/
def secondsPerHour : Nat := 3600

/-- Seconds of silence within a frame that truncate it (R194). -/
def silenceSeconds : Nat := 3

/-- The start marker of every frame (R193). -/
def startMarker : Byte := 0xA5#8

/-- The generator of the frame check (R193). -/
def checkPolynomial : Word16 := 0x1021#16

/-- The initial value of the frame check (R193). -/
def checkInitial : Word16 := 0xFFFF#16

/-- Entries a SILENT notice carries at most (R33). -/
def silentPage : Nat := 32

/-- Entries a RETIRE or a REORDER notice carries at most (R141, R158). -/
def reportPage : Nat := 16

end Sys2Proof.Config
end

