-- ==== Sys2Proof/Machine/State.lean ====
section
/-!
DEFINITION. The state of the VH-6240: every register, table, timer, buffer, queue and pin that the manual
gives the part, block by block, and the queue of waiting commands.
Amounts, counts and limits are exact naturals or integers (00_scope.md, Integer arithmetic).
The time base, expiry times, label counters, serials and stamps wrap or are compared as words, so they are bit vectors.
-/

namespace Sys2Proof.Machine

/-! ## Pool Accounts (R1 to R5) -/

/-- The pool condition (R4), with its rank of constraint in the order of the constructors. -/
inductive PoolCondition where
  | opened
  | ration
  | dry
deriving DecidableEq, Repr

/-- The pool balance, the six totals, the settings, the last voucher and the two conditions (R1, R2, R4, R5). -/
structure Pool where
  /-- Pool balance. -/
  p : Nat
  /-- Total ever deposited. -/
  dep : Nat
  /-- Total of unresolved grants. -/
  g : Nat
  /-- Issued total. -/
  i : Nat
  /-- Total swept back. -/
  r : Nat
  /-- Total refunded. -/
  rf : Nat
  /-- Total paid for stock purchases. -/
  k : Nat
  /-- Floor F. -/
  floor : Nat
  /-- Ration threshold T. -/
  threshold : Nat
  /-- Engagement level E. -/
  engagement : Nat
  lastVoucher : Word32
  recorded : PoolCondition
  worst : PoolCondition
deriving DecidableEq, Repr

/-! ## The Meter Table (R18 to R20, R33, R141) -/

/-- The seven meter states (R22). -/
inductive MeterState where
  | vacant
  | active
  | silent
  | suspended
  | draining
  | awaitingReading
  | retired
deriving DecidableEq, Repr

/-- The phase of an unresolved grant; an OFFERED grant names its slot (R20, R91). -/
inductive GrantPhase where
  | offered (slot : SlotId)
  | doubtful
deriving DecidableEq, Repr

/-- The source of a grant; a LIST grant names its entry until CLEAR-LIST detaches it (R20, R126). -/
inductive GrantSource where
  | request
  | list (entry : Option Nat)
deriving DecidableEq, Repr

/-- A meter's unresolved grant (R20). -/
structure Grant where
  serial : Word16
  amount : Nat
  phase : GrantPhase
  source : GrantSource
deriving DecidableEq, Repr

/-- A meter's claim on an outcome; a REJECTED claim carries the meter's reason (R20, R92). -/
inductive Claim where
  | none
  | applied
  | rejected (reason : Byte)
deriving DecidableEq, Repr

/-- The result of a resolved grant (R20). -/
inductive GrantResult where
  | applied
  | reversed
deriving DecidableEq, Repr

/-- The last outcome of a meter record (R20). -/
structure LastOutcome where
  serial : Word16
  result : GrantResult
  claim : Claim
deriving DecidableEq, Repr

/-- A pair of reported registers (R20). -/
structure Reading where
  ar : Nat
  dr : Nat
deriving DecidableEq, Repr

/-- A waiting refill request (R20). -/
structure PendingRequest where
  q : Nat
  urgency : Urgency
deriving DecidableEq, Repr

/-- The six settings of a meter record (R19). -/
structure Settings where
  ceiling : Nat
  step : Nat
  minimum : Nat
  /-- Hold-off interval in seconds. -/
  holdOff : Nat
  /-- Supervision period in hours. -/
  hours : Nat
  link : Option LineNo
deriving DecidableEq, Repr

/-- The default settings (R19). -/
def Settings.default : Settings :=
  { ceiling := 500000, step := 100, minimum := 1000, holdOff := 600, hours := 26, link := none }

/-- One meter record (R18 to R20). A timer is its expiry time while it runs. -/
structure Meter where
  state : MeterState
  branch : BranchId
  base : Nat
  credited : Int
  ct : Nat
  arMirror : Nat
  drMirror : Nat
  lastLabels : Word32
  settings : Settings
  pendingReq : Option PendingRequest
  grant : Option Grant
  lastOutcome : Option LastOutcome
  rejected : Option Reading
  holdOff : Option Word32
  supervision : Option Word32
deriving DecidableEq, Repr

/-- A meter record after retention loss (R18 to R20). -/
def Meter.lost : Meter :=
  { state := .vacant, branch := 0, base := 0, credited := 0, ct := 0, arMirror := 0, drMirror := 0, lastLabels := 0,
    settings := Settings.default, pendingReq := none, grant := none, lastOutcome := none, rejected := none,
    holdOff := none, supervision := none }

/-- An entry of the silent list (R33). -/
structure SilentEntry where
  meter : MeterId
  time : Word32
deriving DecidableEq, Repr

/-- An entry of the retirement report list (R141). -/
structure RetireEntry where
  meter : MeterId
  branch : BranchId
  finalAr : Nat
  swept : Nat
  delta : Int
  time : Word32
  /-- An earlier retirement of the meter was not reported. -/
  unreported : Bool
  /-- The model's own mark: the entry stands, unreplaced, in the frame sampled last (R141). -/
  sampled : Bool
deriving DecidableEq, Repr

/-! ## Branch Table and Refill Arbiter (R44, R53, R63, R64, R66) -/

/-- A priority: of a branch, of an urgency or of the distribution list (R44, R53, R113). -/
inductive Priority where
  | low
  | high
deriving DecidableEq, Repr

/-- A period allowance with the allowance remaining A, which is present only beside it (R44). -/
structure Allowance where
  period : Nat
  remaining : Nat
deriving DecidableEq, Repr

/-- One branch record (R44). -/
structure Branch where
  configured : Bool
  cls : Priority
  weight : Nat
  batch : Bool
  suspended : Bool
  allowance : Option Allowance
  pace : Nat
  /-- Pending order, oldest first. -/
  order : List MeterId
deriving DecidableEq, Repr

/-- A branch record after retention loss (R44). -/
def Branch.lost : Branch :=
  { configured := false, cls := .low, weight := 16, batch := false, suspended := false, allowance := none, pace := 0,
    order := [] }

/-- The ring that chose a requester (R62, R66). -/
inductive Ring where
  | high
  | low
deriving DecidableEq, Repr

/-- The arbiter's own fields (R63, R64, R66). The holder carries the ring that began its batch. -/
structure Arbiter where
  high : Fin 50
  low : Fin 49
  holder : Option (Requester × Ring)
  counter : Nat
deriving DecidableEq, Repr

/-- The arbiter's fields after power-on or a restart (R69). -/
def Arbiter.cleared : Arbiter :=
  { high := 0, low := 0, holder := none, counter := 0 }

/-! ## Grant Engine (R86 to R88, R108) -/

/-- The engine states (R108). -/
inductive EngineState where
  | active
  | quiescing
  | stopped
deriving DecidableEq, Repr

/-- An occupied grant slot (R86). -/
structure Slot where
  serial : Word16
  meter : MeterId
  amount : Nat
  expiry : Word32
deriving DecidableEq, Repr

/-- The Grant Engine (R86 to R88, R108). -/
structure Engine where
  state : EngineState
  slots : Vector (Option Slot) 8
  nextSerial : Word16
  /-- Confirm window in seconds. -/
  window : Nat
  batchLimit : Nat
  lMax : Nat
deriving DecidableEq, Repr

/-! ## List Unit (R113 to R115) -/

/-- The list states (R115). -/
inductive ListState where
  | empty
  | loaded
  | running
  | halting
  | halted
  | drainingList
  | done
  | aborted
deriving DecidableEq, Repr

/-- The cause of a SHORT refusal or of a supersession (R78, R79, R84). -/
inductive Cause where
  | ceiling
  | allowance
  | pool
  | ration
  | minimum
  | superseded
deriving DecidableEq, Repr

/-- An entry's outcome, with its detail (R114). -/
inductive EntryOutcome where
  | waiting
  | offered
  | applied
  | reversed
  | skippedState (found : MeterState)
  | skippedBusy
  | short (cause : Cause)
  | abandoned
deriving DecidableEq, Repr

/-- One entry of the distribution list (R114). -/
structure Entry where
  meter : MeterId
  q : Nat
  quiet : Bool
  stopOnShort : Bool
  outcome : EntryOutcome
  serial : Option Word16
deriving DecidableEq, Repr

/-- The List Unit (R113). -/
structure ListUnit where
  state : ListState
  entries : List Entry
  next : Nat
  cls : Priority
  batch : Bool
deriving DecidableEq, Repr

/-! ## Stock Accounts (R143, R154, R157) -/

/-- The kinds of a stock line (R143). -/
inductive StockKind where
  | adhesive
  | label
  | other
deriving DecidableEq, Repr

/-- One stock line (R143). -/
structure StockLine where
  configured : Bool
  item : Word16
  kind : StockKind
  face : Nat
  onHand : Nat
  level : Nat
  raised : Bool
  receipts : Nat
  issues : Nat
  spoilage : Nat
  shortfall : Nat
deriving DecidableEq, Repr

/-- A stock line after retention loss (R143). -/
def StockLine.lost : StockLine :=
  { configured := false, item := 0, kind := .other, face := 0, onHand := 0, level := 0, raised := false, receipts := 0,
    issues := 0, spoilage := 0, shortfall := 0 }

/-- The Stock Accounts (R143, R154, R157). -/
structure Stock where
  lines : Vector (Vector StockLine 12) 48
  /-- The reorder report list, oldest pair first. -/
  reorder : List (BranchId × LineNo)
  tolerance : Nat
deriving DecidableEq, Repr

/-! ## Period Banks (R161 to R163) -/

/-- The activity fields of one branch in a bank (R162). -/
structure BranchBank where
  used : Nat
  appliedCount : Nat
  appliedAmount : Nat
  reversed : Nat
  short : Nat
  sales : Nat
  spoilage : Nat
  variance : Int
deriving DecidableEq, Repr

/-- No activity of a branch. -/
def BranchBank.zero : BranchBank :=
  { used := 0, appliedCount := 0, appliedAmount := 0, reversed := 0, short := 0, sales := 0, spoilage := 0, variance := 0 }

/-- One period bank (R161 to R163). -/
structure Bank where
  stamp : Word32
  spanned : Nat
  saturated : Bool
  poolAtClose : Option Nat
  branches : Vector BranchBank 48
  deposits : Nat
  refunds : Nat
  purchases : Nat
  sweeps : Nat
  adjustments : Int
deriving DecidableEq, Repr

/-- A bank that opens with a stamp and holds no activity (R161, R168). -/
def Bank.opened (stamp : Word32) : Bank :=
  { stamp := stamp, spanned := 1, saturated := false, poolAtClose := none, branches := Vector.replicate 48 BranchBank.zero,
    deposits := 0, refunds := 0, purchases := 0, sweeps := 0, adjustments := 0 }

/-- The Period Banks: both banks and the closing bank's two marks (R161). -/
structure Periods where
  current : Bank
  closing : Bank
  held : Bool
  collected : Bool
deriving DecidableEq, Repr

/-! ## Fault Monitor (R173, R177, R178) -/

/-- The operating states of the part (R173). -/
inductive PartState where
  | uncommissioned
  | inService
  | lockdown
deriving DecidableEq, Repr

/-- The severities (R177). -/
inductive Severity where
  | none
  | note
  | discrepancy
  | breach
deriving DecidableEq, Repr

/-- The fault kinds (R177). -/
inductive FaultKind where
  | totalMismatch
  | claimMismatch
  | finalMismatch
  | registerRegress
  | serialUnknown
  | stockVariance
  | retentionLost
deriving DecidableEq, Repr

/-- A fault as the raising block hands it over, and as the first fault record keeps it (R178).
An absent meter or reading is one whose mark is clear. -/
structure FaultRecord where
  kind : FaultKind
  time : Word32
  ct : Nat
  meter : Option MeterId
  serial : Word16
  amount : Nat
  grantValid : Bool
  reading : Option Reading
deriving DecidableEq, Repr

/-- The fault policy (R178, R180). -/
inductive Policy where
  | strict
  | advisory
deriving DecidableEq, Repr

/-- The fault log (R178). -/
structure FaultLog where
  severity : Severity
  first : Option FaultRecord
  later : Nat
  lastKind : Option FaultKind
  suppressed : Nat
deriving DecidableEq, Repr

/-- The emptied fault log (R178). -/
def FaultLog.empty : FaultLog :=
  { severity := .none, first := none, later := 0, lastKind := none, suppressed := 0 }

/-- The Fault Monitor (R173, R178). -/
structure Monitor where
  state : PartState
  policy : Policy
  log : FaultLog
deriving DecidableEq, Repr

/-! ## Notice Unit (R203) -/

/-- The eight notice classes, in code order (R203). -/
inductive NoticeClass where
  | started
  | fault
  | pool
  | reorder
  | silent
  | list
  | period
  | retire
deriving DecidableEq, Repr

/-- The phase of a notice class; a queued class names the port that holds its frame (R203, R205). -/
inductive NoticePhase where
  | idle
  | pending
  | queued (port : Port)
  | queuedAgain (port : Port)
deriving DecidableEq, Repr

/-- One notice class (R203). -/
structure NoticeEntry where
  enabled : Bool
  route : Port
  phase : NoticePhase
deriving DecidableEq, Repr

/-- The cause of a STARTED condition (R203). -/
inductive StartedCause where
  | power
  | commission
  | restart
deriving DecidableEq, Repr

/-- The Notice Unit: the classes in code order, the latest STARTED cause and the restart-completed mark (R203). -/
structure Notices where
  classes : Vector NoticeEntry 8
  cause : StartedCause
  completed : Bool
deriving DecidableEq, Repr

/-- An enabled class in phase IDLE (R203). -/
def NoticeEntry.idleTo (route : Port) : NoticeEntry :=
  { enabled := true, route := route, phase := .idle }

/-- The default settings of the classes in code order, every phase IDLE (R203). -/
def Notices.defaults : Vector NoticeEntry 8 :=
  #v[.idleTo .operations, .idleTo .audit, .idleTo .operations, .idleTo .operations, .idleTo .operations,
     .idleTo .operations, .idleTo .audit, .idleTo .operations]

/-! ## Line Interfaces (R192 to R196, R200 to R202) -/

/-- The status codes of a reply (R199). -/
inductive Status where
  | ok
  | queued
  | busy
  | unknownMeter
  | badState
  | outOfRange
  | locked
  | wrongPort
  | oversize
  | malformed
  | limit
  | full
  | silent
  | suspended
deriving DecidableEq, Repr

/-- A field of an outbound body with its width on the wire (R198): unsigned fields of 1, 2, 4 and 6 bytes,
and signed fields of 8 bytes. -/
inductive WireField where
  | u8 (v : Nat)
  | u16 (v : Nat)
  | u32 (v : Nat)
  | u48 (v : Nat)
  | s64 (v : Int)
deriving DecidableEq, Repr

/-- The list entries that a notice frame carries and that leave their list at its full transmission (R33, R141, R158). -/
inductive Carried where
  | nothing
  | meters (ms : List MeterId)
  | pairs (ps : List (BranchId × LineNo))
deriving DecidableEq, Repr

/-- An outbound frame (R193, R198). -/
inductive OutFrame where
  | reply (tag : Byte) (status : Status) (kind : Byte) (body : List WireField)
  | grantOffer (meter : MeterId) (serial : Word16) (amount : Nat) (window : Nat)
  | refillRefused (meter : MeterId) (cause : Cause)
  | notice (cls : NoticeClass) (body : List WireField) (carried : Carried)
deriving DecidableEq, Repr

/-- A complete frame in a receive buffer (R195, R196). `body` holds the body bytes kept of a frame longer than L_max. -/
structure RxFrame where
  kind : Byte
  tag : Byte
  body : List Byte
  /-- The length field: bytes of kind, tag and body together (R193). -/
  length : Nat
  oversize : Bool
deriving DecidableEq, Repr

/-- A frame being received (R194, R195). -/
structure RxProgress where
  /-- L_max in force when the start marker arrived (R89). -/
  lMax : Nat
  /-- The first L_max bytes, the start marker first. -/
  kept : List Byte
  /-- Bytes received so far, the start marker included. -/
  count : Nat
  /-- The length field as far as it has been received. -/
  length : Nat
  /-- The running check over length, kind, tag and body. -/
  crc : Word16
  /-- The check bytes received so far. -/
  check : Word16
  /-- A character came with a missing stop bit (R192). -/
  badStop : Bool
  /-- When the latest byte was received (R194). -/
  last : Word32
deriving DecidableEq, Repr

/-- An overrun frame being read and discarded (R196). -/
structure OverrunProgress where
  count : Nat
  length : Nat
  last : Word32
deriving DecidableEq, Repr

/-- What the receiver is doing (R194, R196). -/
inductive Receiver where
  | waiting
  | frame (f : RxProgress)
  | overrun (o : OverrunProgress)
deriving DecidableEq, Repr

/-- The strapped line rates (R192). -/
inductive LineRate where
  | r9600
  | r19200
  | r57600
  | r115200
deriving DecidableEq, Repr

/-- The seven line counters (R202). -/
structure LineCounters where
  discarded : Nat
  shortLength : Nat
  truncated : Nat
  garbled : Nat
  oversize : Nat
  overruns : Nat
  breaks : Nat
deriving DecidableEq, Repr

/-- Counters at 0 (R202). -/
def LineCounters.zero : LineCounters :=
  { discarded := 0, shortLength := 0, truncated := 0, garbled := 0, oversize := 0, overruns := 0, breaks := 0 }

/-- One Line Interface with its pins (R192 to R196, R200 to R202, R206).
Ready-out is a function of the state (`readyOut`, Flags.lean). -/
structure LineIf where
  rate : LineRate
  /-- The level of the ready-in pin, as the part last read it: before a frame, or for a QUERY-LINE reply
  (DESIGN CHOICE, notes/assumptions/8.md). -/
  readyIn : Bool
  /-- The receive data line has been at the low level long enough for a break and has not returned to idle (R201). -/
  breakNow : Bool
  receiver : Receiver
  buffer : Option RxFrame
  /-- The outbound queue, the frame to be sent first at its head (R200). -/
  queue : List OutFrame
  /-- The bytes on the transmit data line while the queue's head is being sent (R193, R200). -/
  sending : Option (List Byte)
  counters : LineCounters
deriving DecidableEq, Repr

/-- A Line Interface as a power-on leaves it (R196, R201, R202). -/
def LineIf.started (rate : LineRate) (readyIn : Bool) : LineIf :=
  { rate := rate, readyIn := readyIn, breakNow := false, receiver := .waiting, buffer := none, queue := [],
    sending := none, counters := LineCounters.zero }

/-! ## The whole part -/

/-- The state of the part (00_scope.md, Block overview), and the commands that wait for it. -/
structure State where
  /-- The supply is on (R206). -/
  powered : Bool
  /-- The count of seconds (00_scope.md, Time). -/
  timeBase : Word32
  pool : Pool
  meters : Vector Meter 192
  /-- Meters gone SILENT and not yet reported (R33). -/
  silentList : List SilentEntry
  /-- Retirements not yet reported (R141). -/
  retireList : List RetireEntry
  branches : Vector Branch 48
  /-- The priority of each urgency (R53). -/
  urgencyMap : Vector Priority 8
  arbiter : Arbiter
  engine : Engine
  list : ListUnit
  stock : Stock
  periods : Periods
  monitor : Monitor
  notices : Notices
  operations : LineIf
  audit : LineIf
  /-- The commands that wait, first in, first out. -/
  pending : List Instr
deriving DecidableEq, Repr

/-- The reasons a step may stop with a fault: there are none.
The manual gives every command an outcome in every state (00_scope.md), so no command of this part stops the model.
What the manual calls a fault is an effect on the state (R177 to R181). -/
inductive Fault where
deriving DecidableEq, Repr

/-- The reasons a step may be refused. -/
inductive Refusal where
  /-- A command that has no meaning in the model yet; raised by no arm of `exec`, since every command has its meaning. Safe. -/
  | notModelled (mnemonic : String)
deriving DecidableEq, Repr

/-- The pool after retention loss (R17). -/
def Pool.lost : Pool :=
  { p := 0, dep := 0, g := 0, i := 0, r := 0, rf := 0, k := 0, floor := 0, threshold := 0, engagement := 1,
    lastVoucher := 0, recorded := .dry, worst := .dry }

/-- The default urgency map: 0 to 5 LOW, 6 and 7 HIGH (R53). -/
def defaultUrgencyMap : Vector Priority 8 :=
  #v[.low, .low, .low, .low, .low, .low, .high, .high]

/-- The Grant Engine after retention loss (R88, R112). -/
def Engine.lost : Engine :=
  { state := .stopped, slots := Vector.replicate 8 none, nextSerial := 1, window := 180, batchLimit := 4, lMax := 512 }

/-- The List Unit after retention loss (R113). -/
def ListUnit.lost : ListUnit :=
  { state := .empty, entries := [], next := 0, cls := .high, batch := false }

/-- The Stock Accounts after retention loss (R143, R154, R160). -/
def Stock.lost : Stock :=
  { lines := Vector.replicate 48 (Vector.replicate 12 StockLine.lost), reorder := [], tolerance := 0 }

/-- The Period Banks after retention loss (R161). -/
def Periods.lost : Periods :=
  { current := Bank.opened 0, closing := Bank.opened 0, held := false, collected := true }

/-- The RETENTION-LOST fault as the first fault records it (R176). -/
def FaultRecord.retentionLost : FaultRecord :=
  { kind := .retentionLost, time := 0, ct := 0, meter := none, serial := 0, amount := 0, grantValid := false,
    reading := none }

/-- The Fault Monitor after retention loss: RETENTION-LOST stands in the log (R176, R178). -/
def Monitor.lost : Monitor :=
  { state := .uncommissioned, policy := .strict,
    log := { severity := .breach, first := some FaultRecord.retentionLost, later := 0, lastKind := some .retentionLost,
             suppressed := 0 } }

/-- The Notice Unit after retention loss: default settings, STARTED and FAULT pending (R176, R203). -/
def Notices.lost : Notices :=
  { classes := (Notices.defaults.set 0 { NoticeEntry.idleTo .operations with phase := .pending }).set 1
      { NoticeEntry.idleTo .audit with phase := .pending },
    cause := .power, completed := false }

/-- The machine right after reset: a power-on with the retention-lost input asserted (R176), both ports strapped low
and ready-in deasserted (DESIGN CHOICE, notes/assumptions/1.md), no command waiting. -/
def State.reset : State :=
  { powered := true, timeBase := 0, pool := Pool.lost, meters := Vector.replicate 192 Meter.lost, silentList := [],
    retireList := [], branches := Vector.replicate 48 Branch.lost, urgencyMap := defaultUrgencyMap,
    arbiter := Arbiter.cleared, engine := Engine.lost, list := ListUnit.lost, stock := Stock.lost,
    periods := Periods.lost, monitor := Monitor.lost, notices := Notices.lost, operations := LineIf.started .r9600 false,
    audit := LineIf.started .r9600 false, pending := [] }

end Sys2Proof.Machine
end

