-- ==== Sys2Proof/Machine/Operands.lean ====
section
/-!
DEFINITION. The operand forms: message kinds, codes, the wire encoding of every body and frame (R193, R197 to R199),
the frame check, and the reading of the number fields of a body.
-/

namespace Sys2Proof.Machine

/-! ## Bytes and the frame check (R193) -/

/-- The `n` low bytes of a natural, the most significant first (R193: big-endian). -/
def beBytes : Nat → Nat → List Byte
  | 0, _ => []
  | n + 1, v => BitVec.ofNat 8 (v / 256 ^ n) :: beBytes n v

/-- The bytes of a 2-byte field. -/
def word16Bytes (w : Word16) : List Byte := beBytes 2 w.toNat

/-- The bytes of a 4-byte field. -/
def word32Bytes (w : Word32) : List Byte := beBytes 4 w.toNat

/-- The bytes of a 6-byte field. -/
def word48Bytes (w : Word48) : List Byte := beBytes 6 w.toNat

/-- One step of the cyclic check on one bit, taken into the top of the register (R193). -/
def crcBit (crc : Word16) : Word16 :=
  if crc.msb then (crc <<< 1) ^^^ Config.checkPolynomial else crc <<< 1

/-- The check after one more byte, taken most significant bit first (R193). -/
def crcByte (crc : Word16) (b : Byte) : Word16 :=
  crcBit (crcBit (crcBit (crcBit (crcBit (crcBit (crcBit (crcBit (crc ^^^ (b.setWidth 16 <<< 8)))))))))

/-- The check over a list of bytes, from the initial value 0xFFFF (R193). -/
def checkOf (bytes : List Byte) : Word16 :=
  bytes.foldl crcByte Config.checkInitial

/-- The bytes of a field of an outbound body; signed fields are 8 bytes in two's complement (R198). -/
def WireField.bytes : WireField → List Byte
  | .u8 v => beBytes 1 v
  | .u16 v => beBytes 2 v
  | .u32 v => beBytes 4 v
  | .u48 v => beBytes 6 v
  | .s64 v => beBytes 8 (BitVec.ofInt 64 v).toNat

/-- A whole frame: start marker, length, kind, tag, body and check (R193). -/
def frameBytes (kind tag : Byte) (body : List Byte) : List Byte :=
  let checked := beBytes 2 (body.length + 2) ++ kind :: tag :: body
  Config.startMarker :: checked ++ beBytes 2 (checkOf checked).toNat

/-! ## Message kinds (R198) -/

/-- The inbound message kinds. The two forms of FINAL-READING are one kind (R133). -/
inductive Kind where
  | meterStatus
  | refillRequest
  | grantApplied
  | grantRejected
  | deposit
  | enrolMeter
  | configureMeter
  | suspendMeter
  | retireMeter
  | finalReading
  | configureBranch
  | setUrgencyMap
  | setEngine
  | engineRestart
  | configureStockLine
  | stockReceipt
  | stockSale
  | stockSpoil
  | stockCount
  | loadList
  | startList
  | haltList
  | abortList
  | clearList
  | closePeriod
  | collectPeriod
  | setNotices
  | commission
  | refund
  | setPoolLimits
  | setFaultPolicy
  | setTolerance
  | resumeMeter
  | release
  | clearFaults
  | queryPool
  | queryMeter
  | queryBranch
  | queryStock
  | queryList
  | queryPeriod
  | queryFaults
  | queryLine
  | queryNotices
deriving DecidableEq, Repr

/-- The code of a kind (R198). -/
def Kind.code : Kind → Byte
  | .meterStatus => 0x01
  | .refillRequest => 0x02
  | .grantApplied => 0x03
  | .grantRejected => 0x04
  | .deposit => 0x10
  | .enrolMeter => 0x11
  | .configureMeter => 0x12
  | .suspendMeter => 0x13
  | .retireMeter => 0x14
  | .finalReading => 0x15
  | .configureBranch => 0x16
  | .setUrgencyMap => 0x17
  | .setEngine => 0x18
  | .engineRestart => 0x19
  | .configureStockLine => 0x1A
  | .stockReceipt => 0x1B
  | .stockSale => 0x1C
  | .stockSpoil => 0x1D
  | .stockCount => 0x1E
  | .loadList => 0x20
  | .startList => 0x21
  | .haltList => 0x22
  | .abortList => 0x23
  | .clearList => 0x24
  | .closePeriod => 0x25
  | .collectPeriod => 0x26
  | .setNotices => 0x27
  | .commission => 0x30
  | .refund => 0x31
  | .setPoolLimits => 0x32
  | .setFaultPolicy => 0x33
  | .setTolerance => 0x34
  | .resumeMeter => 0x35
  | .release => 0x36
  | .clearFaults => 0x37
  | .queryPool => 0x40
  | .queryMeter => 0x41
  | .queryBranch => 0x42
  | .queryStock => 0x43
  | .queryList => 0x44
  | .queryPeriod => 0x45
  | .queryFaults => 0x46
  | .queryLine => 0x47
  | .queryNotices => 0x48

/-- Every inbound kind (R198). -/
def Kind.all : List Kind :=
  [.meterStatus, .refillRequest, .grantApplied, .grantRejected, .deposit, .enrolMeter, .configureMeter, .suspendMeter,
   .retireMeter, .finalReading, .configureBranch, .setUrgencyMap, .setEngine, .engineRestart, .configureStockLine,
   .stockReceipt, .stockSale, .stockSpoil, .stockCount, .loadList, .startList, .haltList, .abortList, .clearList,
   .closePeriod, .collectPeriod, .setNotices, .commission, .refund, .setPoolLimits, .setFaultPolicy, .setTolerance,
   .resumeMeter, .release, .clearFaults, .queryPool, .queryMeter, .queryBranch, .queryStock, .queryList, .queryPeriod,
   .queryFaults, .queryLine, .queryNotices]

/-- A kind byte of the kinds table's inbound rows (R197, R198). -/
def inboundCode (k : Byte) : Bool :=
  Kind.all.any (fun kind => kind.code == k)

/-- The ports a kind is permitted on (R198). -/
def Kind.permitted : Kind → Port → Bool
  | .commission, p | .refund, p | .setPoolLimits, p | .setFaultPolicy, p | .setTolerance, p | .resumeMeter, p
  | .release, p | .clearFaults, p => p == .audit
  | .finalReading, _ | .queryPool, _ | .queryMeter, _ | .queryBranch, _ | .queryStock, _ | .queryList, _
  | .queryPeriod, _ | .queryFaults, _ | .queryLine, _ | .queryNotices, _ => true
  | _, p => p == .operations

/-- The kinds taken in UNCOMMISSIONED (R197, check 4). -/
def Kind.takenUncommissioned : Kind → Bool
  | .configureMeter | .enrolMeter | .configureBranch | .configureStockLine | .setUrgencyMap | .setEngine | .setNotices
  | .setPoolLimits | .setFaultPolicy | .setTolerance | .commission | .queryPool | .queryMeter | .queryBranch
  | .queryStock | .queryList | .queryPeriod | .queryFaults | .queryLine | .queryNotices => true
  | _ => false

/-- The kinds the Dispatcher refuses in LOCKDOWN; FINAL-READING in its adjusting form only (R185). -/
def Kind.lockedOut : Kind → Port → Bool
  | .deposit, _ | .refund, _ | .setPoolLimits, _ | .refillRequest, _ | .engineRestart, _ | .loadList, _ | .startList, _
  | .resumeMeter, _ => true
  | .finalReading, p => p == .audit
  | _, _ => false

/-! ## Codes (R198, R199, R203) -/

def Status.code : Status → Nat
  | .ok => 0 | .queued => 1 | .busy => 2 | .unknownMeter => 3 | .badState => 4 | .outOfRange => 5 | .locked => 6
  | .wrongPort => 7 | .oversize => 8 | .malformed => 9 | .limit => 10 | .full => 11 | .silent => 12 | .suspended => 13

def MeterState.code : MeterState → Nat
  | .vacant => 0 | .active => 1 | .silent => 2 | .suspended => 3 | .draining => 4 | .awaitingReading => 5 | .retired => 6

def Cause.code : Cause → Nat
  | .ceiling => 1 | .allowance => 2 | .pool => 3 | .ration => 4 | .minimum => 5 | .superseded => 6

def GrantPhase.code : GrantPhase → Nat
  | .offered _ => 0 | .doubtful => 1

def GrantSource.code : GrantSource → Nat
  | .request => 0 | .list _ => 1

def Claim.code : Claim → Nat
  | .none => 0 | .applied => 1 | .rejected _ => 2

def ListState.code : ListState → Nat
  | .empty => 0 | .loaded => 1 | .running => 2 | .halting => 3 | .halted => 4 | .drainingList => 5 | .done => 6
  | .aborted => 7

def EntryOutcome.code : EntryOutcome → Nat
  | .waiting => 0 | .offered => 1 | .applied => 2 | .reversed => 3 | .skippedState _ => 4 | .skippedBusy => 5
  | .short _ => 6 | .abandoned => 7

def FaultKind.code : FaultKind → Nat
  | .totalMismatch => 1 | .claimMismatch => 2 | .finalMismatch => 3 | .registerRegress => 4 | .serialUnknown => 5
  | .stockVariance => 6 | .retentionLost => 7

def Severity.code : Severity → Nat
  | .none => 0 | .note => 1 | .discrepancy => 2 | .breach => 3

def PoolCondition.code : PoolCondition → Nat
  | .opened => 0 | .ration => 1 | .dry => 2

def PartState.code : PartState → Nat
  | .uncommissioned => 0 | .inService => 1 | .lockdown => 2

def EngineState.code : EngineState → Nat
  | .active => 0 | .quiescing => 1 | .stopped => 2

def NoticePhase.code : NoticePhase → Nat
  | .idle => 0 | .pending => 1 | .queued _ => 2 | .queuedAgain _ => 3

def StartedCause.code : StartedCause → Nat
  | .power => 0 | .commission => 1 | .restart => 2

/-- The result codes (R198). -/
inductive Result where
  | none
  | consistent
  | inconsistent
  | applied
  | reversed
  | unresolved
  | retired
  | moved
  | merged
  | repeated
deriving DecidableEq, Repr

def Result.code : Result → Nat
  | .none => 0 | .consistent => 1 | .inconsistent => 2 | .applied => 3 | .reversed => 4 | .unresolved => 5 | .retired => 6
  | .moved => 7 | .merged => 8 | .repeated => 9

/-- The code of a grant's result where a reply gives it as a result (R100, R140, R198). -/
def GrantResult.asResult : GrantResult → Result
  | .applied => .applied
  | .reversed => .reversed

def Priority.code : Priority → Nat
  | .low => 0 | .high => 1

def Policy.code : Policy → Nat
  | .strict => 0 | .advisory => 1

def StockKind.code : StockKind → Nat
  | .adhesive => 0 | .label => 1 | .other => 2

/-- The position of a class in code order (R203). -/
def NoticeClass.idx : NoticeClass → Fin 8
  | .started => 0 | .fault => 1 | .pool => 2 | .reorder => 3 | .silent => 4 | .list => 5 | .period => 6 | .retire => 7

/-- The classes in code order, lowest first (R203). -/
def NoticeClass.all : List NoticeClass :=
  [.started, .fault, .pool, .reorder, .silent, .list, .period, .retire]

/-! ## Outbound fields -/

/-- A two-valued field: 0 or 1 (R198). -/
def flag (b : Bool) : WireField :=
  .u8 (if b then 1 else 0)

/-- An optional part: a mark that none is present, or the mark and the part's fields.
DESIGN CHOICE (notes/assumptions/14.md): the mark is a byte, and an absent part has no fields. -/
def optional {α : Type} (x : Option α) (fields : α → List WireField) : List WireField :=
  match x with
  | none => [flag false]
  | some a => flag true :: fields a

/-- A kind of fault, or none (R198). -/
def faultField (k : Option FaultKind) : WireField :=
  .u8 (k.elim 0 FaultKind.code)

/-- A label link, 255 for no link (R198). -/
def linkField (l : Option LineNo) : WireField :=
  .u8 (l.elim 255 Fin.val)

/-- The kind byte, tag and body bytes of an outbound frame (R193, R198). -/
def OutFrame.content : OutFrame → Byte × Byte × List Byte
  | .reply tag status kind body => (0x80, tag, BitVec.ofNat 8 status.code :: kind :: body.flatMap WireField.bytes)
  | .grantOffer meter serial amount window =>
      (0x81, 0, beBytes 1 meter.val ++ beBytes 2 serial.toNat ++ beBytes 6 amount ++ beBytes 2 window)
  | .refillRefused meter cause => (0x82, 0, beBytes 1 meter.val ++ beBytes 1 cause.code)
  | .notice cls body _ => (0x83, 0, BitVec.ofNat 8 cls.idx.val :: body.flatMap WireField.bytes)

/-- The bytes of an outbound frame on the transmit data line (R193). -/
def OutFrame.bytes (f : OutFrame) : List Byte :=
  frameBytes f.content.1 f.content.2.1 f.content.2.2

end Sys2Proof.Machine

namespace Sys2Proof

open Machine (word16Bytes word32Bytes word48Bytes)

/-! ## Inbound bodies: the fields in the order their owning rule lists them (R193, R198) -/

def ReadingMsg.bytes (m : ReadingMsg) : List Byte :=
  m.meter :: word48Bytes m.ar ++ word48Bytes m.dr ++ word32Bytes m.labels

def RefillMsg.bytes (m : RefillMsg) : List Byte :=
  m.meter :: word48Bytes m.q ++ [m.urgency]

def AppliedMsg.bytes (m : AppliedMsg) : List Byte :=
  m.meter :: word16Bytes m.serial ++ word48Bytes m.ar ++ word48Bytes m.dr ++ word32Bytes m.labels

def RejectedMsg.bytes (m : RejectedMsg) : List Byte :=
  m.meter :: word16Bytes m.serial ++ m.reason :: word48Bytes m.ar ++ word48Bytes m.dr ++ word32Bytes m.labels

def DepositMsg.bytes (m : DepositMsg) : List Byte :=
  word32Bytes m.voucher ++ word48Bytes m.amount

def EnrolMsg.bytes (m : EnrolMsg) : List Byte :=
  m.meter :: m.branch :: word48Bytes m.ar ++ word48Bytes m.dr ++ word32Bytes m.labels

def ConfigureMeterMsg.bytes (m : ConfigureMeterMsg) : List Byte :=
  m.meter :: word48Bytes m.ceiling ++ word48Bytes m.step ++ word48Bytes m.minimum ++ word32Bytes m.holdOff ++
    [m.hours, m.link]

def MeterMsg.bytes (m : MeterMsg) : List Byte := [m.meter]

def ConfigureBranchMsg.bytes (m : ConfigureBranchMsg) : List Byte :=
  [m.branch, m.cls, m.weight, m.batch, m.suspended, m.allowancePresent] ++ word48Bytes m.allowance

def UrgencyMapMsg.bytes (m : UrgencyMapMsg) : List Byte := m.entries.toList

def SetEngineMsg.bytes (m : SetEngineMsg) : List Byte :=
  word16Bytes m.window ++ m.batchLimit :: word16Bytes m.lMax

def StockLineMsg.bytes (m : StockLineMsg) : List Byte :=
  m.branch :: m.line :: word16Bytes m.item ++ m.kind :: word32Bytes m.face ++ word32Bytes m.level

def ReceiptMsg.bytes (m : ReceiptMsg) : List Byte :=
  m.branch :: m.line :: word32Bytes m.count ++ [m.paid]

def PiecesMsg.bytes (m : PiecesMsg) : List Byte :=
  m.branch :: m.line :: word32Bytes m.count

def ListEntryMsg.bytes (m : ListEntryMsg) : List Byte :=
  m.meter :: word48Bytes m.q ++ [m.flags]

def LoadListMsg.bytes (m : LoadListMsg) : List Byte :=
  BitVec.ofNat 8 m.entries.length :: m.entries.flatMap ListEntryMsg.bytes

def StartListMsg.bytes (m : StartListMsg) : List Byte := [m.cls, m.batch]

def StampMsg.bytes (m : StampMsg) : List Byte := word32Bytes m.stamp

def SetNoticesMsg.bytes (m : SetNoticesMsg) : List Byte :=
  m.pairs.toList.flatMap (fun pair => [pair.enabled, pair.route])

def RefundMsg.bytes (m : RefundMsg) : List Byte := word48Bytes m.amount

def PoolLimitsMsg.bytes (m : PoolLimitsMsg) : List Byte :=
  word48Bytes m.floor ++ word48Bytes m.threshold ++ word48Bytes m.engagement

def PolicyMsg.bytes (m : PolicyMsg) : List Byte := [m.policy]

def ToleranceMsg.bytes (m : ToleranceMsg) : List Byte := word48Bytes m.tolerance

def BranchMsg.bytes (m : BranchMsg) : List Byte := [m.branch]

def QueryStockMsg.bytes (m : QueryStockMsg) : List Byte := [m.branch, m.first, m.count]

def QueryListMsg.bytes (m : QueryListMsg) : List Byte := [m.first, m.count]

def QueryPeriodMsg.bytes (m : QueryPeriodMsg) : List Byte := [m.bank, m.first, m.count]

def QueryLineMsg.bytes (m : QueryLineMsg) : List Byte := [m.port]

/-- The code of a port (R198). -/
def Port.code : Port → Nat
  | .operations => 0 | .audit => 1

/-- The rate that a port's strapping pins select (R192). -/
def StrapPins.rate : StrapPins → Machine.LineRate
  | ⟨false, false⟩ => .r9600
  | ⟨true, false⟩ => .r19200
  | ⟨false, true⟩ => .r57600
  | ⟨true, true⟩ => .r115200

end Sys2Proof

namespace Sys2Proof.Machine

/-- An empty body (R198). -/
def noBytes (_ : Unit) : List Byte := []

/-- The bytes of a body in either form. -/
def bodyBytes {α : Type} (enc : α → List Byte) : Body α → List Byte
  | .fields f => enc f
  | .otherLength bytes => bytes

/-! ## Reading the number fields of a body -/

/-- A meter number, if it is one of 0 to 191. -/
def meterOf (b : Byte) : Option MeterId :=
  if h : b.toNat < 192 then some ⟨b.toNat, h⟩ else none

/-- A branch number, if it is one of 0 to 47. -/
def branchOf (b : Byte) : Option BranchId :=
  if h : b.toNat < 48 then some ⟨b.toNat, h⟩ else none

/-- A line number, if it is one of 0 to 11. -/
def lineOf (b : Byte) : Option LineNo :=
  if h : b.toNat < 12 then some ⟨b.toNat, h⟩ else none

/-- An urgency, if it is one of 0 to 7. -/
def urgencyOf (b : Byte) : Option Urgency :=
  if h : b.toNat < 8 then some ⟨b.toNat, h⟩ else none

/-- A two-valued field, if it holds 0 or 1 (R198). -/
def boolOf (b : Byte) : Option Bool :=
  if b = 0 then some false else if b = 1 then some true else none

/-- A priority field: LOW 0, HIGH 1 (R198). -/
def priorityOf (b : Byte) : Option Priority :=
  if b = 0 then some .low else if b = 1 then some .high else none

/-- A port field: OPERATIONS 0, AUDIT 1 (R198). -/
def portOf (b : Byte) : Option Port :=
  if b = 0 then some .operations else if b = 1 then some .audit else none

/-- A policy field: STRICT 0, ADVISORY 1 (R198). -/
def policyOf (b : Byte) : Option Policy :=
  if b = 0 then some .strict else if b = 1 then some .advisory else none

/-- A stock kind: ADHESIVE 0, LABEL 1, OTHER 2 (R198). -/
def stockKindOf (b : Byte) : Option StockKind :=
  if b = 0 then some .adhesive else if b = 1 then some .label else if b = 2 then some .other else none

/-- The label link field: the no-link value 255, or a line number (R27, R198). -/
def linkOf (b : Byte) : Option (Option LineNo) :=
  if b = 255 then some none else (lineOf b).map some

/-- A strapped rate in bits per second (R192). -/
def LineRate.bitsPerSecond : LineRate → Nat
  | .r9600 => 9600
  | .r19200 => 19200
  | .r57600 => 57600
  | .r115200 => 115200

end Sys2Proof.Machine
end

