-- ==== Sys2Proof/Machine/Flags.lean ====
section
/-!
DEFINITION. The figures the manual works out and does not store: the available pool and its condition, the free places of
a queue, ready-out, the timers' remaining time, presence and eligibility, and the tests that read them.
-/

namespace Sys2Proof.Machine

/-! ## The pool (R3, R4) -/

/-- V = P − F when P exceeds F, and 0 otherwise (R3). -/
def Pool.available (pool : Pool) : Nat :=
  pool.p - pool.floor

/-- The pool condition, worked out from V, T and E (R4). -/
def Pool.condition (pool : Pool) : PoolCondition :=
  if pool.available < pool.engagement then .dry
  else if 0 < pool.threshold ∧ pool.available < pool.threshold then .ration
  else .opened

/-- The rank of a condition by constraint, OPEN the least (R4). -/
def PoolCondition.rank (c : PoolCondition) : Nat :=
  c.code

/-- The more constrained of two conditions (R5). -/
def PoolCondition.moreConstrained (a b : PoolCondition) : PoolCondition :=
  if a.rank < b.rank then b else a

/-! ## Time (00_scope.md, Time) -/

/-- The time base has reached an expiry time. Expiry times are formed modulo 2^32 and no timer is longer than 604,800
seconds, so a difference below 2^31 means that the expiry time is not ahead. -/
def due (now expiry : Word32) : Bool :=
  (now - expiry).toNat < 2147483648

/-- The seconds remaining to an expiry time; 0 once it is reached. -/
def remaining (now expiry : Word32) : Nat :=
  if due now expiry then 0 else (expiry - now).toNat

/-- The seconds remaining on a timer; 0 when it is stopped (R55, R68). -/
def timerLeft (now : Word32) (timer : Option Word32) : Nat :=
  timer.elim 0 (remaining now)

/-! ## Records -/

/-- A meter is enrolled in every state other than VACANT and RETIRED (R22). -/
def MeterState.enrolled : MeterState → Bool
  | .vacant | .retired => false
  | _ => true

/-- The severity of a fault kind (R177). -/
def FaultKind.severity : FaultKind → Severity
  | .totalMismatch | .claimMismatch | .finalMismatch => .discrepancy
  | .registerRegress | .retentionLost => .breach
  | .serialUnknown | .stockVariance => .note

/-- The inconsistency kinds (R177). -/
def FaultKind.inconsistency : FaultKind → Bool
  | .totalMismatch | .claimMismatch | .finalMismatch | .registerRegress => true
  | _ => false

/-- The greater of two severities (R179). -/
def Severity.greater (a b : Severity) : Severity :=
  if a.code < b.code then b else a

/-- A class is pending in every phase but IDLE (R203). -/
def NoticePhase.isPending : NoticePhase → Bool
  | .idle => false
  | _ => true

/-- The port that holds the frame of a queued class (R205). -/
def NoticePhase.holder : NoticePhase → Option Port
  | .queued p | .queuedAgain p => some p
  | _ => none

/-- An entry's outcome is final (R114). -/
def EntryOutcome.isFinal : EntryOutcome → Bool
  | .waiting | .offered => false
  | _ => true

/-- A grant whose phase is OFFERED. -/
def Grant.isOffered (g : Grant) : Bool :=
  match g.phase with
  | .offered _ => true
  | .doubtful => false

/-! ## Lines (R196, R200) -/

/-- Free places of an outbound queue (R200). -/
def LineIf.free (l : LineIf) : Nat :=
  Config.queuePlaces - l.queue.length

/-- The Line Interface of a port. -/
def State.line (s : State) : Port → LineIf
  | .operations => s.operations
  | .audit => s.audit

/-- The ready-out output: deasserted while the receive buffer is occupied or fewer than 2 places are free (R196).
An unpowered part asserts nothing. -/
def readyOut (s : State) (p : Port) : Bool :=
  s.powered && (s.line p).buffer.isNone && decide (2 ≤ (s.line p).free)

/-! ## Records by number -/

/-- The record of a meter (R18). -/
def State.meter (s : State) (m : MeterId) : Meter :=
  s.meters.get m

/-- The record of a branch (R44). -/
def State.branch (s : State) (b : BranchId) : Branch :=
  s.branches.get b

/-- A stock line, named by its branch and line number (R143). -/
def State.stockLine (s : State) (b : BranchId) (l : LineNo) : StockLine :=
  (s.stock.lines.get b).get l

/-- A notice class (R203). -/
def State.noticeClass (s : State) (c : NoticeClass) : NoticeEntry :=
  s.notices.classes.get c.idx

/-- The number of enrolled meters of a branch (R26). -/
def enrolledAt (s : State) (b : BranchId) : Nat :=
  s.meters.toList.countP (fun m => m.branch == b && m.state.enrolled)

/-- The number of meters whose label link names a line (R146, R159). A link names a line of the meter's own branch (R19). -/
def linkedTo (s : State) (b : BranchId) (l : LineNo) : Nat :=
  s.meters.toList.countP (fun m => m.branch == b && m.settings.link == some l)

/-- The number of occupied grant slots (R107). -/
def occupiedSlots (s : State) : Nat :=
  s.engine.slots.toList.countP Option.isSome

/-- The lowest-numbered free slot (R86). -/
def freeSlot? (s : State) : Option SlotId :=
  (List.finRange 8).find? (fun k => (s.engine.slots.get k).isNone)

/-- A serial is held by an unresolved grant of some meter (R87). -/
def serialHeld (s : State) (serial : Word16) : Bool :=
  s.meters.toList.any (fun m => m.grant.any (fun g => g.serial == serial))

/-- The serial after a serial: 1 after 65,535 (R87). -/
def serialAfter (serial : Word16) : Word16 :=
  if serial = 65535 then 1 else serial + 1

/-- The first serial from `serial` on that no unresolved grant holds, within `fuel` steps (R87). -/
def firstFreeSerial (s : State) : Nat → Word16 → Word16
  | 0, serial => serial
  | fuel + 1, serial => if serialHeld s serial then firstFreeSerial s fuel (serialAfter serial) else serial

/-- The serial the next reservation takes; at most 192 grants are unresolved, so one is found (R87). -/
def takenSerial (s : State) : Word16 :=
  firstFreeSerial s 192 s.engine.nextSerial

/-! ## Eligibility, presence and the rings (R59, R62, R65) -/

/-- A pending request is eligible when its meter is ACTIVE and the meter's hold-off timer is not running (R59). -/
def eligible (s : State) (m : MeterId) : Bool :=
  (s.meter m).pendingReq.isSome && (s.meter m).state == .active && (s.meter m).holdOff.isNone

/-- The priority the urgency map gives an urgency (R53). -/
def priorityOfUrgency (s : State) (u : Urgency) : Priority :=
  s.urgencyMap.get u

/-- A pending request whose urgency the map gives HIGH (R62). -/
def mappedHigh (s : State) (m : MeterId) : Bool :=
  (s.meter m).pendingReq.any (fun r => priorityOfUrgency s r.urgency == .high)

/-- The oldest eligible request of a branch (R65). -/
def oldestEligible (s : State) (b : BranchId) : Option MeterId :=
  (s.branch b).order.find? (eligible s)

/-- The oldest eligible request of a branch whose urgency the map gives HIGH (R65). -/
def oldestUrgent (s : State) (b : BranchId) : Option MeterId :=
  (s.branch b).order.find? (fun m => eligible s m && mappedHigh s m)

/-- The request that the rule of R65 finds for a branch chosen from a ring. -/
def requestFor (s : State) (ring : Ring) (b : BranchId) : Option MeterId :=
  if ring = .high ∧ (s.branch b).cls = .low then oldestUrgent s b else oldestEligible s b

/-- A branch is present when it is configured, not suspended and its order holds an eligible request (R59). -/
def branchPresent (s : State) (b : BranchId) : Bool :=
  (s.branch b).configured && !(s.branch b).suspended && (oldestEligible s b).isSome

/-- The list's next WAITING entry (R113, R118). -/
def nextWaiting (s : State) : Option Entry :=
  s.list.entries[s.list.next]?.filter (fun e => e.outcome == .waiting)

/-- The List Unit is present when the list is RUNNING and holds a next WAITING entry (R59, R118). -/
def listPresent (s : State) : Bool :=
  s.list.state == .running && (nextWaiting s).isSome

/-- The branch with a requester index, or none for the List Unit (R59). -/
def requesterBranch (r : Requester) : Option BranchId :=
  if h : r.val < 48 then some ⟨r.val, h⟩ else none

/-- The List Unit's requester index (R59, R118). -/
def listRequester : Requester := 48

/-- A requester is present (R59). -/
def present (s : State) (r : Requester) : Bool :=
  match requesterBranch r with
  | some b => branchPresent s b
  | none => listPresent s

/-- A requester's batch setting is on (R66). -/
def batchOn (s : State) (r : Requester) : Bool :=
  match requesterBranch r with
  | some b => (s.branch b).batch
  | none => s.list.batch

/-- A requester is a member of the high ring (R62). -/
def highMember (s : State) (r : Requester) : Bool :=
  present s r &&
    match requesterBranch r with
    | some b => (s.branch b).cls == .high || (oldestUrgent s b).isSome
    | none => s.list.cls == .high

/-- A member of the low ring that is not a member of the high ring (R62, R63). -/
def lowOnly (s : State) (r : Requester) : Bool :=
  present s r && !highMember s r

/-- All requesters by index (R59). -/
def requesters : List Requester :=
  List.finRange 49

/-- The positions of a ring from a pointer upward, continuing at 0 after the last (R63, R64). -/
def ringFrom (n : Nat) (start : Nat) : List (Fin n) :=
  (List.finRange n).drop start ++ (List.finRange n).take start

/-- The low pointer after a service of index q (R63, R64). -/
def lowAfter (q : Requester) : Fin 49 :=
  if h : q.val + 1 < 49 then ⟨q.val + 1, h⟩ else 0

/-- The high pointer after a service of the member at position p (R63). -/
def highAfter (p : Requester) : Fin 50 :=
  ⟨p.val + 1, Nat.succ_lt_succ p.isLt⟩

/-- The first requester from the low pointer on that satisfies `ok` (R63, R64). -/
def lowSearch (s : State) (ok : Requester → Bool) : Option Requester :=
  (ringFrom 49 s.arbiter.low.val).find? ok

/-- What a ring search finds: the requester, the ring that chose it and the pointers after its service (R63, R64). -/
structure Pick where
  requester : Requester
  ring : Ring
  high : Fin 50
  low : Fin 49
deriving DecidableEq, Repr

/-- What a position of the high ring gives: its member, or at position 49 the requester of the open low slot (R63). -/
def highPosition (s : State) (pos : Fin 50) : Option Pick :=
  if h : pos.val < 49 then
    let r : Requester := ⟨pos.val, h⟩
    if highMember s r then some { requester := r, ring := .high, high := highAfter r, low := s.arbiter.low } else none
  else
    (lowSearch s (lowOnly s)).map (fun q => { requester := q, ring := .low, high := 0, low := lowAfter q })

/-- The ring search (R63, R64). -/
def ringSearch (s : State) : Option Pick :=
  if requesters.any (highMember s) then
    (ringFrom 50 s.arbiter.high.val).findSome? (highPosition s)
  else
    (lowSearch s (present s)).map
      (fun q => { requester := q, ring := .low, high := s.arbiter.high, low := lowAfter q })

/-- The rule of R65, for the ring that began the batch, finds a request for the holder, or a next WAITING entry (R66). -/
def findsRequest (s : State) (r : Requester) (ring : Ring) : Bool :=
  match requesterBranch r with
  | some b => (requestFor s ring b).isSome
  | none => (nextWaiting s).isSome

/-- The batch holder, if it is served again (R66). -/
def continuingHolder (s : State) : Option (Requester × Ring) :=
  s.arbiter.holder.filter (fun h =>
    present s h.1 && batchOn s h.1 && decide (s.arbiter.counter < s.engine.batchLimit) && findsRequest s h.1 h.2)

/-- The six conditions under which the arbiter makes a selection (R60). -/
def selectable (s : State) : Bool :=
  s.monitor.state == .inService && s.engine.state == .active && (freeSlot? s).isSome &&
    decide (Config.selectionPlaces ≤ s.operations.free) && decide (s.pool.engagement ≤ s.pool.available) &&
    requesters.any (present s)

/-! ## Notices (R203) -/

/-- A class has a queuing opportunity on a port: it is PENDING, enabled, routed there, and more than 2 places are free. -/
def opportunity (s : State) (p : Port) (c : NoticeClass) : Bool :=
  (s.noticeClass c).phase == .pending && (s.noticeClass c).enabled && (s.noticeClass c).route == p &&
    decide (2 < (s.line p).free)

/-- The class that is queued at an opportunity on a port: the lowest in code order (R203). -/
def nextNotice (s : State) (p : Port) : Option NoticeClass :=
  NoticeClass.all.find? (opportunity s p)

/-! ## The list (R125, R127, R128) -/

/-- The number of entries whose outcome has a code (R127). -/
def outcomeCount (s : State) (code : Nat) : Nat :=
  s.list.entries.countP (fun e => e.outcome.code == code)

/-- The List Unit holds the arbiter's batch (R124, R128). -/
def listHoldsBatch (s : State) : Bool :=
  s.arbiter.holder.any (fun h => h.1 == listRequester)

end Sys2Proof.Machine
end

