-- ==== Sys2Proof/Machine/Ops.lean ====
section
/-!
DEFINITION. The named operations over the state: updates of one record, the pool changes, the bank additions, the notice
conditions, dropping a request, suspension, lockdown, faults, a restart taking effect, and the outbound queues.
Each command's meaning is built from these.
-/

namespace Sys2Proof.Machine

/-! ## Updates -/

/-- Replaces one element of a vector by a function of it. -/
def modifyAt {α : Type} {n : Nat} (v : Vector α n) (i : Fin n) (f : α → α) : Vector α n :=
  v.set i.val (f (v.get i)) i.isLt

/-- Applies a function to every element of a vector. -/
def mapAll {α β : Type} {n : Nat} (f : α → β) (v : Vector α n) : Vector β n :=
  ⟨⟨v.toList.map f⟩, by simp⟩

/-- Joins two vectors element by element. -/
def zipAll {α β γ : Type} {n : Nat} (f : α → β → γ) (v : Vector α n) (w : Vector β n) : Vector γ n :=
  ⟨⟨List.zipWith f v.toList w.toList⟩, by simp⟩

def State.setPool (s : State) (x : Pool) : State := { s with pool := x }
def State.setMeters (s : State) (x : Vector Meter 192) : State := { s with meters := x }
def State.setSilentList (s : State) (x : List SilentEntry) : State := { s with silentList := x }
def State.setRetireList (s : State) (x : List RetireEntry) : State := { s with retireList := x }
def State.setBranches (s : State) (x : Vector Branch 48) : State := { s with branches := x }
def State.setUrgencyMap (s : State) (x : Vector Priority 8) : State := { s with urgencyMap := x }
def State.setArbiter (s : State) (x : Arbiter) : State := { s with arbiter := x }
def State.setEngine (s : State) (x : Engine) : State := { s with engine := x }
def State.setList (s : State) (x : ListUnit) : State := { s with list := x }
def State.setStock (s : State) (x : Stock) : State := { s with stock := x }
def State.setPeriods (s : State) (x : Periods) : State := { s with periods := x }
def State.setMonitor (s : State) (x : Monitor) : State := { s with monitor := x }
def State.setNotices (s : State) (x : Notices) : State := { s with notices := x }
def State.setTime (s : State) (x : Word32) : State := { s with timeBase := x }

/-- Replaces the Line Interface of a port. -/
def State.setLine (s : State) (p : Port) (x : LineIf) : State :=
  match p with
  | .operations => { s with operations := x }
  | .audit => { s with audit := x }

/-- Changes one meter record. -/
def modMeter (m : MeterId) (f : Meter → Meter) (s : State) : State :=
  s.setMeters (modifyAt s.meters m f)

/-- Changes one branch record. -/
def modBranch (b : BranchId) (f : Branch → Branch) (s : State) : State :=
  s.setBranches (modifyAt s.branches b f)

/-- Changes one stock line. -/
def modStockLine (b : BranchId) (l : LineNo) (f : StockLine → StockLine) (s : State) : State :=
  s.setStock { s.stock with lines := modifyAt s.stock.lines b (fun ls => modifyAt ls l f) }

/-- Changes the current period bank. -/
def modCurrent (f : Bank → Bank) (s : State) : State :=
  s.setPeriods { s.periods with current := f s.periods.current }

/-- Changes one notice class. -/
def modNotice (c : NoticeClass) (f : NoticeEntry → NoticeEntry) (s : State) : State :=
  s.setNotices { s.notices with classes := modifyAt s.notices.classes c.idx f }

/-- Changes one Line Interface. -/
def modLineIf (p : Port) (f : LineIf → LineIf) (s : State) : State :=
  s.setLine p (f (s.line p))

/-! ## Saturating figures (R15, R164) -/

/-- `x + d`, held at `top`. -/
def raiseTo (top x d : Nat) : Nat := if top < x + d then top else x + d

/-- Raising `x` by `d` would pass `top`. -/
def passes (top x d : Nat) : Bool := decide (top < x + d)

/-- A signed field raised by `d` and held at the end of its range towards which the addition carries it (R164). -/
def raiseSigned (x d : Int) : Int :=
  if Config.maxSigned < x + d then Config.maxSigned else if x + d < Config.minSigned then Config.minSigned else x + d

/-- The addition would carry a signed field past its range (R164). -/
def passesSigned (x d : Int) : Bool :=
  decide (Config.maxSigned < x + d) || decide (x + d < Config.minSigned)

/-- A pool figure raised by `d`, held at 2^48 − 1 (R15). -/
def raiseFigure (x d : Nat) : Nat := raiseTo Config.maxFigure x d

/-- A pool figure lowered by `d`, left at 0 where it would fall below (R15). -/
def lowerFigure (x d : Nat) : Nat := x - d

/-- A pool figure is held at one of its limits by a rise of `up` or a fall of `down` (R15). -/
def figureHeld (x up down : Nat) : Bool :=
  passes Config.maxFigure x up || decide (x < down)

/-- Sets the saturated mark of the current bank when `hit` holds (R15, R164). -/
def markSaturated (hit : Bool) (s : State) : State :=
  modCurrent (fun b => { b with saturated := b.saturated || hit }) s

/-! ## Notice conditions (R5, R203) -/

/-- The phase after a condition is set (R203). -/
def NoticePhase.afterCondition : NoticePhase → NoticePhase
  | .idle => .pending
  | .pending => .pending
  | .queued p => .queuedAgain p
  | .queuedAgain p => .queuedAgain p

/-- The phase after the class's frame is fully transmitted (R203). -/
def NoticePhase.afterTransmission : NoticePhase → NoticePhase
  | .queued _ => .idle
  | .queuedAgain _ => .pending
  | ph => ph

/-- The phase after a line break on a port: a class whose frame stood there is un-queued and pending (R201, R203). -/
def NoticePhase.afterBreak (p : Port) (ph : NoticePhase) : NoticePhase :=
  if ph.holder = some p then .pending else ph

/-- Sets a notice condition (R203). -/
def setCondition (c : NoticeClass) (s : State) : State :=
  modNotice c (fun e => { e with phase := e.phase.afterCondition }) s

/-- Sets the STARTED condition with its cause and the restart-completed mark (R203). -/
def setStarted (cause : StartedCause) (completed : Bool) (s : State) : State :=
  setCondition .started (s.setNotices { s.notices with cause := cause, completed := completed })

/-- Sets the POOL notice condition and updates the worst condition (R5): while the class is pending and not yet queued
the more constrained is kept, otherwise the new condition is taken. -/
def setPoolCondition (c : PoolCondition) (s : State) : State :=
  let worst := if (s.noticeClass .pool).phase = .pending then s.pool.worst.moreConstrained c else c
  setCondition .pool (s.setPool { s.pool with worst := worst })

/-- Works the pool condition out anew (R4). -/
def recheckPool (s : State) : State :=
  let c := s.pool.condition
  let t := if s.pool.recorded.rank < c.rank then setPoolCondition c s else s
  t.setPool { t.pool with recorded := c }

/-! ## Pool changes (R6, R7, R10 to R13), each one change that ends by working the condition out anew -/

/-- A pool change: the new figures, the saturated mark where one was held at a limit, and the condition worked out anew. -/
def changePool (pool : Pool) (hit : Bool) (s : State) : State :=
  recheckPool (markSaturated hit (s.setPool pool))

/-- A deposit: P and Dep rise (R6). -/
def poolDeposit (x : Nat) (voucher : Word32) (s : State) : State :=
  changePool
    { s.pool with p := raiseFigure s.pool.p x, dep := raiseFigure s.pool.dep x, lastVoucher := voucher }
    (figureHeld s.pool.p x 0 || figureHeld s.pool.dep x 0) s

/-- A refund: P falls and RF rises (R7). -/
def poolRefund (x : Nat) (s : State) : State :=
  changePool { s.pool with p := lowerFigure s.pool.p x, rf := raiseFigure s.pool.rf x }
    (figureHeld s.pool.p 0 x || figureHeld s.pool.rf x 0) s

/-- A reservation: P falls and G rises (R10). -/
def poolReserve (x : Nat) (s : State) : State :=
  changePool { s.pool with p := lowerFigure s.pool.p x, g := raiseFigure s.pool.g x }
    (figureHeld s.pool.p 0 x || figureHeld s.pool.g x 0) s

/-- A confirmation: G falls and I rises (R11). -/
def poolConfirm (x : Nat) (s : State) : State :=
  changePool { s.pool with g := lowerFigure s.pool.g x, i := raiseFigure s.pool.i x }
    (figureHeld s.pool.g 0 x || figureHeld s.pool.i x 0) s

/-- A release: G falls and P rises (R11). -/
def poolRelease (x : Nat) (s : State) : State :=
  changePool { s.pool with g := lowerFigure s.pool.g x, p := raiseFigure s.pool.p x }
    (figureHeld s.pool.g 0 x || figureHeld s.pool.p x 0) s

/-- A stock purchase: P falls and K rises (R12). -/
def poolPurchase (x : Nat) (s : State) : State :=
  changePool { s.pool with p := lowerFigure s.pool.p x, k := raiseFigure s.pool.k x }
    (figureHeld s.pool.p 0 x || figureHeld s.pool.k x 0) s

/-- A sweep: P and R rise (R13). -/
def poolSweep (x : Nat) (s : State) : State :=
  changePool { s.pool with p := raiseFigure s.pool.p x, r := raiseFigure s.pool.r x }
    (figureHeld s.pool.p x 0 || figureHeld s.pool.r x 0) s

/-- An adjustment by Δ: I rises by Δ and P falls by Δ, the other way about for a negative Δ (R13). -/
def poolAdjust (delta : Int) (s : State) : State :=
  let up := delta.toNat
  let down := (-delta).toNat
  changePool
    { s.pool with p := raiseFigure (lowerFigure s.pool.p up) down, i := lowerFigure (raiseFigure s.pool.i up) down }
    (figureHeld s.pool.p down up || figureHeld s.pool.i up down) s

/-- The two conditions of R13 on an adjustment by Δ, with P as it will stand once `back` has been released to it. -/
def adjustmentCovered (s : State) (back : Nat) (delta : Int) : Bool :=
  !(decide (0 < delta) && decide ((s.pool.p + back : Int) < delta)) &&
    !(decide (delta < 0) && decide ((s.pool.i : Int) < -delta))

/-! ## Additions to the current bank (R162 to R164) -/

/-- Adds to one branch's fields of the current bank, with the saturated mark where an addition meets a limit. -/
def addToBranchBank (b : BranchId) (f : BranchBank → BranchBank) (hit : BranchBank → Bool) (s : State) : State :=
  modCurrent
    (fun k => { k with branches := modifyAt k.branches b f, saturated := k.saturated || hit (k.branches.get b) }) s

/-- Postage used (R162). -/
def bankUsed (b : BranchId) (x : Nat) : State → State :=
  addToBranchBank b (fun k => { k with used := raiseTo Config.maxFigure k.used x })
    (fun k => passes Config.maxFigure k.used x)

/-- Grants applied, count and amount (R162). -/
def bankApplied (b : BranchId) (x : Nat) : State → State :=
  addToBranchBank b
    (fun k => { k with appliedCount := raiseTo Config.maxCount k.appliedCount 1,
                       appliedAmount := raiseTo Config.maxFigure k.appliedAmount x })
    (fun k => passes Config.maxCount k.appliedCount 1 || passes Config.maxFigure k.appliedAmount x)

/-- Grants reversed (R162). -/
def bankReversed (b : BranchId) : State → State :=
  addToBranchBank b (fun k => { k with reversed := raiseTo Config.maxCount k.reversed 1 })
    (fun k => passes Config.maxCount k.reversed 1)

/-- Refusals SHORT (R162). -/
def bankShort (b : BranchId) : State → State :=
  addToBranchBank b (fun k => { k with short := raiseTo Config.maxCount k.short 1 })
    (fun k => passes Config.maxCount k.short 1)

/-- Stock sales value (R162). -/
def bankSales (b : BranchId) (x : Nat) : State → State :=
  addToBranchBank b (fun k => { k with sales := raiseTo Config.maxFigure k.sales x })
    (fun k => passes Config.maxFigure k.sales x)

/-- Spoilage value (R162). -/
def bankSpoilage (b : BranchId) (x : Nat) : State → State :=
  addToBranchBank b (fun k => { k with spoilage := raiseTo Config.maxFigure k.spoilage x })
    (fun k => passes Config.maxFigure k.spoilage x)

/-- Count variance value (R162). -/
def bankVariance (b : BranchId) (x : Int) : State → State :=
  addToBranchBank b (fun k => { k with variance := raiseSigned k.variance x }) (fun k => passesSigned k.variance x)

/-- Deposits (R163). -/
def bankDeposit (x : Nat) (s : State) : State :=
  modCurrent (fun k => { k with deposits := raiseTo Config.maxFigure k.deposits x,
                                saturated := k.saturated || passes Config.maxFigure k.deposits x }) s

/-- Refunds (R163). -/
def bankRefund (x : Nat) (s : State) : State :=
  modCurrent (fun k => { k with refunds := raiseTo Config.maxFigure k.refunds x,
                                saturated := k.saturated || passes Config.maxFigure k.refunds x }) s

/-- Stock purchases (R163). -/
def bankPurchase (x : Nat) (s : State) : State :=
  modCurrent (fun k => { k with purchases := raiseTo Config.maxFigure k.purchases x,
                                saturated := k.saturated || passes Config.maxFigure k.purchases x }) s

/-- Sweeps (R163). -/
def bankSweep (x : Nat) (s : State) : State :=
  modCurrent (fun k => { k with sweeps := raiseTo Config.maxFigure k.sweeps x,
                                saturated := k.saturated || passes Config.maxFigure k.sweeps x }) s

/-- Adjustments, signed (R163). -/
def bankAdjustment (x : Int) (s : State) : State :=
  modCurrent (fun k => { k with adjustments := raiseSigned k.adjustments x,
                                saturated := k.saturated || passesSigned k.adjustments x }) s

/-! ## Outbound queues and line counters (R200, R202) -/

/-- Places a frame at the end of a port's outbound queue (R200). -/
def enqueue (p : Port) (f : OutFrame) (s : State) : State :=
  modLineIf p (fun l => { l with queue := l.queue ++ [f] }) s

/-- A line counter raised by one, saturating (R202). -/
def tally (n : Nat) : Nat := raiseTo Config.maxTally n 1

/-- Changes the counters of a port's line. -/
def countLine (p : Port) (f : LineCounters → LineCounters) (s : State) : State :=
  modLineIf p (fun l => { l with counters := f l.counters }) s

/-! ## Silence (R194) -/

/-- The seconds from the latest byte have reached 3. -/
def silent (now last : Word32) : Bool :=
  decide (Config.silenceSeconds ≤ (now - last).toNat)

/-- The latest byte of what is being received. -/
def Receiver.last : Receiver → Option Word32
  | .waiting => none
  | .frame f => some f.last
  | .overrun o => some o.last

/-- What is being received is abandoned and counted truncated (R194). -/
def LineIf.truncate (l : LineIf) : LineIf :=
  { l with receiver := .waiting, counters := { l.counters with truncated := tally l.counters.truncated } }

/-- The line as an event there finds it: a silence that has already passed truncated what was being received (R194).
DEDUCED (notes/assumptions/15.md): whether or not the SILENCE command came first. -/
def LineIf.settled (now : Word32) (l : LineIf) : LineIf :=
  if l.receiver.last.any (silent now) then l.truncate else l

/-- The line of a port after a silence that has already passed there (R194). -/
def settleLine (p : Port) (s : State) : State :=
  modLineIf p (LineIf.settled s.timeBase) s

/-! ## Timers (R31, R34; 00_scope.md, Time) -/

/-- The expiry time of a timer of `n` seconds started now, modulo 2^32. -/
def expiryAfter (s : State) (n : Nat) : Word32 :=
  s.timeBase + BitVec.ofNat 32 n

/-- The supervision timer's expiry time when it is started now with the meter's period (R31). -/
def supervisionExpiry (s : State) (m : MeterId) : Word32 :=
  expiryAfter s ((s.meter m).settings.hours * Config.secondsPerHour)

/-- Starts a meter's supervision timer afresh (R31). -/
def startSupervision (m : MeterId) (s : State) : State :=
  modMeter m (fun r => { r with supervision := some (supervisionExpiry s m) }) s

/-- Brings the time base to an expiry time that it has not reached.
DESIGN CHOICE (notes/assumptions/3.md): the event at which a timer expires is the time base reaching its expiry time. -/
def reachTime (expiry : Word32) (s : State) : State :=
  if due s.timeBase expiry then s else s.setTime expiry

/-! ## Dropping requests (R23, R57) -/

/-- Takes a meter out of its branch's pending order and clears its pending request, in one change (R57). -/
def removeRequest (m : MeterId) (s : State) : State :=
  modMeter m (fun r => { r with pendingReq := none })
    (modBranch (s.meter m).branch (fun b => { b with order := b.order.filter (fun x => x != m) }) s)

/-- Drops a meter's pending request; a meter with none is left as it was (R23). -/
def dropRequest (m : MeterId) (s : State) : State :=
  if (s.meter m).pendingReq.isSome then removeRequest m s else s

/-- Drops every pending request and empties every pending order (R69, R110, R184). -/
def dropAllRequests (s : State) : State :=
  (s.setMeters (mapAll (fun r => { r with pendingReq := none }) s.meters)).setBranches
    (mapAll (fun b => { b with order := [] }) s.branches)

/-! ## Suspension, lockdown and faults (R29, R30, R177 to R184) -/

/-- Entry to SUSPENDED: the pending request is dropped and the supervision timer stops (R29, R30). -/
def enterSuspended (m : MeterId) (s : State) : State :=
  modMeter m (fun r => { r with state := .suspended, supervision := none }) (dropRequest m s)

/-- A fault suspends a meter that is ACTIVE or SILENT; a meter in any other state keeps its state (R30, R180). -/
def suspendByFault (m : MeterId) (s : State) : State :=
  if (s.meter m).state = .active ∨ (s.meter m).state = .silent then enterSuspended m s else s

/-- Sets the list state to HALTED and the LIST notice condition (R124, R127, R129). -/
def haltList (s : State) : State :=
  setCondition .list (s.setList { s.list with state := .halted })

/-- A list in RUNNING or HALTING becomes HALTED, with the LIST notice condition (R129). -/
def haltRunningList (s : State) : State :=
  if s.list.state = .running ∨ s.list.state = .halting then haltList s else s

/-- Lockdown entry (R184). -/
def enterLockdown (s : State) : State :=
  haltRunningList
    (dropAllRequests
      ((s.setMonitor { s.monitor with state := .lockdown }).setEngine { s.engine with state := .stopped }))

/-- The fault log after a fault is raised (R179, steps 1 to 3). -/
def FaultLog.raised (log : FaultLog) (f : FaultRecord) : FaultLog :=
  { log with
    severity := log.severity.greater f.kind.severity
    first := if log.severity = .none then some f else log.first
    later := if log.severity = .none then log.later else raiseTo Config.maxTally log.later 1
    lastKind := some f.kind }

/-- A fault's handling takes the part into lockdown (R180). -/
def needsLockdown (s : State) (k : FaultKind) : Bool :=
  s.monitor.state == .inService &&
    (k.severity == .breach || (k.severity == .discrepancy && s.monitor.policy == .strict))

/-- Raises a fault: the log, the FAULT notice condition, then the handling by severity and policy, the suspension first
and lockdown after it (R179, R180). In LOCKDOWN no meter is suspended (R30, R181). -/
def raiseFault (f : FaultRecord) (s : State) : State :=
  let logged := setCondition .fault (s.setMonitor { s.monitor with log := s.monitor.log.raised f })
  let suspended :=
    match f.meter with
    | some m => if s.monitor.state = .lockdown then logged else suspendByFault m logged
    | none => logged
  if needsLockdown s f.kind then enterLockdown suspended else suspended

/-- An inconsistency kind handed over in LOCKDOWN is not raised and only counts among the suppressed (R181). -/
def suppressed (s : State) (k : FaultKind) : Bool :=
  s.monitor.state == .lockdown && k.inconsistency

/-- A block hands the Fault Monitor a fault (R177, R181). -/
def handFault (f : FaultRecord) (s : State) : State :=
  if suppressed s f.kind then
    s.setMonitor { s.monitor with
      log := { s.monitor.log with suppressed := raiseTo Config.maxTally s.monitor.log.suppressed 1 } }
  else raiseFault f s

/-- The fault kind that a reply shows as raised: none for a suppressed one (R100, R140, R181). -/
def raisedKind (s : State) (k : FaultKind) : Option FaultKind :=
  if suppressed s k then none else some k

/-! ## A restart taking effect (R69, R110) -/

/-- Pace of every branch to 0 and every hold-off timer stopped (R110). -/
def clearPaceAndHoldOff (s : State) : State :=
  (s.setBranches (mapAll (fun b => { b with pace := 0 }) s.branches)).setMeters
    (mapAll (fun r => { r with holdOff := none }) s.meters)

/-- A restart takes effect in service (R110). -/
def restartTakesEffect (s : State) : State :=
  let cleared := clearPaceAndHoldOff ((dropAllRequests s).setArbiter Arbiter.cleared)
  let halted := haltRunningList cleared
  setStarted .restart false (halted.setEngine { halted.engine with state := .active })

/-- What the freeing of a slot completes: in QUIESCING with no slot occupied the restart takes effect (R105). -/
def settleRestart (s : State) : State :=
  if s.engine.state = .quiescing ∧ occupiedSlots s = 0 then restartTakesEffect s else s

/-! ## Slots and unresolved grants (R86, R94) -/

/-- Frees a slot (R86). -/
def freeSlot (k : SlotId) (s : State) : State :=
  s.setEngine { s.engine with slots := modifyAt s.engine.slots k (fun _ => none) }

/-- Frees the slot of an OFFERED grant; a DOUBTFUL grant holds none. -/
def freeGrantSlot (g : Grant) (s : State) : State :=
  match g.phase with
  | .offered k => freeSlot k s
  | .doubtful => s

/-- Clears a meter's unresolved grant and frees its slot (R94, R95). -/
def clearGrant (m : MeterId) (g : Grant) (s : State) : State :=
  freeGrantSlot g (modMeter m (fun r => { r with grant := none }) s)

/-- A DRAINING meter becomes AWAITING-READING (R132). -/
def leaveDraining (m : MeterId) (s : State) : State :=
  modMeter m (fun r => { r with state := if r.state = .draining then .awaitingReading else r.state }) s

/-- The consequences of a freed slot for the engine (R105): none where the grant held no slot. -/
def afterSlotFreed (g : Grant) (s : State) : State :=
  if g.isOffered then settleRestart s else s

/-! ## Answers -/

/-- What an owner answers: the status, the owner's body and the state after its effects (R197, R199). -/
structure Answer where
  status : Status
  body : List WireField
  state : State
deriving DecidableEq, Repr

/-- A request refused with a status code and no effect (R193, R199). -/
def refuse (status : Status) (s : State) : Answer :=
  { status := status, body := [], state := s }

/-- A request taken, answered OK. -/
def answerOk (body : List WireField) (s : State) : Answer :=
  { status := .ok, body := body, state := s }

end Sys2Proof.Machine
end

