-- ==== Sys2Proof/Machine/Dispatcher.lean ====
section
/-!
DEFINITION. The Message Dispatcher: taking a frame from a port's receive buffer, the checks of R197, and the reply.
-/

namespace Sys2Proof.Machine

/-- A complete frame as it would stand in the receive buffer of a part with a maximum inbound length (R195). -/
def completeFrame (lMax : Nat) (kind tag : Byte) (body : List Byte) : RxFrame :=
  { kind := kind, tag := tag, body := body.take (lMax - 5), length := body.length + 2,
    oversize := decide (lMax < body.length + 7) }

/-- A frame in the receive buffer is the frame with this kind, tag and body. Of an oversize frame only the bytes kept are
compared. -/
def RxFrame.isFrame (f : RxFrame) (kind tag : Byte) (body : List Byte) : Bool :=
  f.kind == kind && f.tag == tag && f.length == body.length + 2 &&
    f.body == (if f.oversize then body.take f.body.length else body)

/-- What becomes of a frame that the Dispatcher is to take: it waits, or is not at hand, in a state; or it is taken, with
its oversize mark. -/
inductive Taking where
  | waits (s : State)
  | taken (oversize : Bool) (s : State)
deriving DecidableEq, Repr

/-- The Dispatcher takes the frame of this kind, tag and body on a port when at least 1 place is free in the port's
outbound queue (R196).
A frame that stands in the receive buffer is taken from there.
With the buffer empty and the line between frames, the command is also the arrival of its whole frame, which is counted
oversize if it exceeds L_max (R195) and waits in the buffer while no place is free. The line is between frames too where a
silence has already truncated what was being received, which is then counted (R194).
DESIGN CHOICE (notes/assumptions/2.md): a command whose frame is not at hand has no effect. -/
def takeFrame (p : Port) (kind tag : Byte) (body : List Byte) (s : State) : Taking :=
  let l := s.line p
  let canTake := decide (1 ≤ l.free)
  if !s.powered then .waits s
  else
    match l.buffer with
    | some f =>
        if f.isFrame kind tag body && canTake then .taken f.oversize (s.setLine p { l with buffer := none })
        else .waits s
    | none =>
        let l := l.settled s.timeBase
        if l.receiver = .waiting ∧ l.breakNow = false then
          let f := completeFrame s.engine.lMax kind tag body
          let counted :=
            if f.oversize then { l with counters := { l.counters with oversize := tally l.counters.oversize } } else l
          if canTake then .taken f.oversize (s.setLine p counted)
          else .waits (s.setLine p { counted with buffer := some f })
        else .waits s

/-- Checks 3 to 5 of R197 and, when they pass, the owner's answer. -/
def judge (p : Port) (kind : Kind) (owner : State → Answer) (s : State) : Answer :=
  if !kind.permitted p then refuse .wrongPort s
  else if s.monitor.state = .uncommissioned ∧ kind.takenUncommissioned = false then refuse .badState s
  else if s.monitor.state = .lockdown ∧ kind.lockedOut p = true then refuse .locked s
  else owner s

/-- Check 1 of R197: an oversize frame is answered OVERSIZE with the maximum inbound length in force (R193). -/
def refuseOversize (s : State) : Answer :=
  { status := .oversize, body := [.u16 s.engine.lMax], state := s }

/-- The reply to a frame, placed in the queue of the port it arrived on (R193, R197). -/
def reply (p : Port) (kind tag : Byte) (a : Answer) : State :=
  enqueue p (.reply tag a.status kind a.body) a.state

/-- The Dispatcher's judgement of a frame whose kind is an inbound kind, in the order of R197. -/
def answerTo {α : Type} (p : Port) (kind : Kind) (body : Body α) (owner : α → State → Answer) (oversize : Bool)
    (s : State) : Answer :=
  if oversize then refuseOversize s
  else
    match body with
    | .otherLength _ => refuse .malformed s
    | .fields f => judge p kind (owner f) s

/-- A message command: its frame is taken, judged and answered, all in one change (R196, R197). -/
def request {α : Type} (p : Port) (kind : Kind) (tag : Byte) (body : Body α) (enc : α → List Byte)
    (owner : α → State → Answer) (s : State) : State :=
  match takeFrame p kind.code tag (bodyBytes enc body) s with
  | .waits t => t
  | .taken oversize t => reply p kind.code tag (answerTo p kind body owner oversize t)

/-- UNKNOWN_KIND: a frame whose kind is no inbound kind is answered MALFORMED, or OVERSIZE first (R197).
A byte that is the code of an inbound kind makes no such frame. -/
def execUnknownKind (p : Port) (tag kind : Byte) (body : List Byte) (s : State) :
    Host.Outcome State Fault Refusal :=
  .next <|
    if inboundCode kind then s
    else
      match takeFrame p kind tag body s with
      | .waits t => t
      | .taken oversize t => reply p kind tag (if oversize then refuseOversize t else refuse .malformed t)

/-- An event at a line, a timer or the arbiter: an unpowered part takes none (R175, R206). -/
def whenPowered (f : State → State) (s : State) : State :=
  if s.powered then f s else s

end Sys2Proof.Machine
end

