-- ==== Sys2Proof/Machine/PoolAccounts.lean ====
section
/-!
DEFINITION. Pool Accounts: DEPOSIT, REFUND, SET-POOL-LIMITS and QUERY-POOL (R6 to R9).
-/

namespace Sys2Proof.Machine

/-- DEPOSIT (R6). -/
def answerDeposit (m : DepositMsg) (s : State) : Answer :=
  let x := m.amount.toNat
  if x = 0 ∨ Config.maxPayment < x then refuse .outOfRange s
  else if m.voucher.toNat ≤ s.pool.lastVoucher.toNat then refuse .outOfRange s
  else
    let t := poolDeposit x m.voucher (bankDeposit x s)
    answerOk [.u32 m.voucher.toNat, .u48 t.pool.p, .u48 t.pool.available, .u8 t.pool.recorded.code] t

/-- DEPOSIT (R6). -/
def execDeposit (p : Port) (tag : Byte) (b : Body DepositMsg) (s : State) : Host.Outcome State Fault Refusal :=
  .next (request p .deposit tag b DepositMsg.bytes answerDeposit s)

/-- REFUND, checked against P (R7).
DESIGN CHOICE (notes/assumptions/25.md): an amount that is out of range and above P as well meets both refusals of R7, which
states no order between them; the range is checked first, and the answer is OUT-OF-RANGE. -/
def answerRefund (m : RefundMsg) (s : State) : Answer :=
  let x := m.amount.toNat
  if x = 0 ∨ Config.maxPayment < x then refuse .outOfRange s
  else if s.pool.p < x then refuse .limit s
  else
    let t := poolRefund x (bankRefund x s)
    answerOk [.u48 t.pool.p, .u48 t.pool.available, .u8 t.pool.recorded.code] t

/-- REFUND (R7). -/
def execRefund (p : Port) (tag : Byte) (b : Body RefundMsg) (s : State) : Host.Outcome State Fault Refusal :=
  .next (request p .refund tag b RefundMsg.bytes answerRefund s)

/-- F, T and E replaced in one change, and the condition worked out anew (R8). -/
def setLimits (f t e : Nat) (s : State) : State :=
  recheckPool (s.setPool { s.pool with floor := f, threshold := t, engagement := e })

/-- SET-POOL-LIMITS (R8). -/
def answerSetPoolLimits (m : PoolLimitsMsg) (s : State) : Answer :=
  let f := m.floor.toNat
  let t := m.threshold.toNat
  let e := m.engagement.toNat
  if Config.maxLimit < f ∨ Config.maxLimit < t ∨ e = 0 ∨ Config.maxGrant < e then refuse .outOfRange s
  else
    let u := setLimits f t e s
    answerOk [.u48 u.pool.floor, .u48 u.pool.threshold, .u48 u.pool.engagement, .u48 u.pool.p, .u48 u.pool.available,
      .u8 u.pool.recorded.code] u

/-- SET-POOL-LIMITS (R8). -/
def execSetPoolLimits (p : Port) (tag : Byte) (b : Body PoolLimitsMsg) (s : State) :
    Host.Outcome State Fault Refusal :=
  .next (request p .setPoolLimits tag b PoolLimitsMsg.bytes answerSetPoolLimits s)

/-- P and the six totals, in the order of R9. -/
def Pool.figures (pool : Pool) : List Nat :=
  [pool.p, pool.dep, pool.g, pool.i, pool.r, pool.rf, pool.k]

/-- The body of the QUERY-POOL reply (R9). -/
def poolBody (pool : Pool) : List WireField :=
  pool.figures.map .u48 ++
    [.u48 pool.floor, .u48 pool.threshold, .u48 pool.engagement, .u48 pool.available, .u8 pool.recorded.code,
     .u8 pool.worst.code, .u32 pool.lastVoucher.toNat] ++
    pool.figures.map (fun x => flag (x == Config.maxFigure))

/-- QUERY-POOL (R9). -/
def answerQueryPool (_ : Unit) (s : State) : Answer :=
  answerOk (poolBody s.pool) s

/-- QUERY-POOL (R9). -/
def execQueryPool (p : Port) (tag : Byte) (b : Body Unit) (s : State) : Host.Outcome State Fault Refusal :=
  .next (request p .queryPool tag b noBytes answerQueryPool s)

/-- The body of the POOL notice (R5). The pool condition as it then stands is the recorded one (R4). -/
def poolNoticeBody (pool : Pool) : List WireField :=
  [.u8 pool.condition.code, .u8 pool.worst.code, .u48 pool.p, .u48 pool.available, .u48 pool.g, .u48 pool.floor,
   .u48 pool.threshold, .u48 pool.engagement]

end Sys2Proof.Machine
end

