-- ==== Sys2Proof/Machine/StockAccounts.lean ====
section
/-!
DEFINITION. Branch Stock Accounts: the reorder evaluation, decrements and label consumption (R149 to R151, R156), and the
commands CONFIGURE-STOCK-LINE, STOCK-RECEIPT, STOCK-SALE, STOCK-SPOIL, STOCK-COUNT, SET-TOLERANCE and QUERY-STOCK.
-/

namespace Sys2Proof.Machine

/-- Evaluates a line for reorder (R156). -/
def evaluateReorder (b : BranchId) (l : LineNo) (s : State) : State :=
  let line := s.stockLine b l
  if line.onHand < line.level then
    if line.raised then s
    else
      let t := modStockLine b l (fun x => { x with raised := true }) s
      setCondition .reorder (t.setStock { t.stock with reorder := t.stock.reorder ++ [(b, l)] })
  else if line.raised then
    let t := modStockLine b l (fun x => { x with raised := false }) s
    t.setStock { t.stock with reorder := t.stock.reorder.filter (fun x => x != (b, l)) }
  else s

/-- Pieces leave a line: on hand falls by no more than it holds, and the excess goes to shortfall (R149, R151). -/
def StockLine.less (line : StockLine) (n : Nat) : StockLine :=
  { line with onHand := line.onHand - n, shortfall := raiseTo Config.maxCount line.shortfall (n - line.onHand) }

/-- Label consumption from an accepted reading (R151). -/
def consumeLabels (b : BranchId) (l : LineNo) (n : Nat) (s : State) : State :=
  evaluateReorder b l
    (modStockLine b l (fun x => { x.less n with issues := raiseTo Config.maxCount x.issues n }) s)

/-- The line that a stock message names, with the line checks of R144. -/
def withStockLine (branch line : Byte) (k : BranchId → LineNo → State → Answer) (s : State) : Answer :=
  match branchOf branch, lineOf line with
  | some b, some l => if (s.stockLine b l).configured then k b l s else refuse .outOfRange s
  | _, _ => refuse .outOfRange s

/-- CONFIGURE-STOCK-LINE (R145, R146). -/
def answerConfigureStockLine (m : StockLineMsg) (s : State) : Answer :=
  match branchOf m.branch, lineOf m.line with
  | some b, some l =>
      if !(s.branch b).configured then refuse .outOfRange s
      else
        match stockKindOf m.kind with
        | none => refuse .outOfRange s
        | some kind =>
            if m.item = 0 ∨ Config.maxFace < m.face.toNat ∨ Config.maxPieces < m.level.toNat then refuse .outOfRange s
            else if m.face.toNat ≠ (s.stockLine b l).face ∧ 0 < (s.stockLine b l).onHand then refuse .badState s
            else
              let t := evaluateReorder b l
                (modStockLine b l
                  (fun x => { x with configured := true, item := m.item, kind := kind, face := m.face.toNat,
                                     level := m.level.toNat }) s)
              let line := t.stockLine b l
              answerOk [.u8 b.val, .u8 l.val, .u16 line.item.toNat, .u8 line.kind.code, .u32 line.face, .u32 line.level,
                .u32 line.onHand, flag line.raised, .u8 (linkedTo t b l)] t
  | _, _ => refuse .outOfRange s

/-- CONFIGURE-STOCK-LINE (R145). -/
def execConfigureStockLine (p : Port) (tag : Byte) (b : Body StockLineMsg) (s : State) :
    Host.Outcome State Fault Refusal :=
  .next (request p .configureStockLine tag b StockLineMsg.bytes answerConfigureStockLine s)

/-- The pieces of a receipt added to a line (R147). -/
def receivePieces (b : BranchId) (l : LineNo) (n : Nat) (s : State) : State :=
  evaluateReorder b l
    (modStockLine b l
      (fun x => { x with onHand := x.onHand + n, receipts := raiseTo Config.maxCount x.receipts n }) s)

/-- The purchase that pays for a receipt (R12, R148). -/
def payFor (cost : Nat) (s : State) : State :=
  poolPurchase cost (bankPurchase cost s)

/-- The reply of STOCK-RECEIPT (R147). -/
def receiptBody (b : BranchId) (l : LineNo) (cost : Nat) (t : State) : List WireField :=
  [.u8 b.val, .u8 l.val, .u32 (t.stockLine b l).onHand, .u48 cost, flag (t.stockLine b l).raised]

/-- STOCK-RECEIPT after the line checks (R147, R148). -/
def receiptOn (count : Nat) (paid : Byte) (b : BranchId) (l : LineNo) (s : State) : Answer :=
  let line := s.stockLine b l
  match boolOf paid with
  | none => refuse .outOfRange s
  | some isPaid =>
      if count = 0 ∨ Config.maxPieces < count then refuse .outOfRange s
      else if Config.maxPieces < line.onHand + count then refuse .outOfRange s
      else if isPaid then
        let cost := count * line.face
        if s.pool.available < cost then refuse .limit s
        else
          let t := receivePieces b l count (payFor cost s)
          answerOk (receiptBody b l cost t) t
      else
        let t := receivePieces b l count s
        answerOk (receiptBody b l 0 t) t

/-- STOCK-RECEIPT (R147). -/
def answerStockReceipt (m : ReceiptMsg) (s : State) : Answer :=
  withStockLine m.branch m.line (receiptOn m.count.toNat m.paid) s

/-- STOCK-RECEIPT (R147). -/
def execStockReceipt (p : Port) (tag : Byte) (b : Body ReceiptMsg) (s : State) : Host.Outcome State Fault Refusal :=
  .next (request p .stockReceipt tag b ReceiptMsg.bytes answerStockReceipt s)

/-- The reply of STOCK-SALE and STOCK-SPOIL (R149): the pieces taken, the excess, on hand, the value and reorder raised. -/
def decrementBody (b : BranchId) (l : LineNo) (n : Nat) (before : StockLine) (t : State) : List WireField :=
  [.u8 b.val, .u8 l.val, .u32 (min n before.onHand), .u32 (n - before.onHand), .u32 (t.stockLine b l).onHand,
   .u48 (n * before.face), flag (t.stockLine b l).raised]

/-- Pieces sold from a line and valued (R149). -/
def sellPieces (b : BranchId) (l : LineNo) (n : Nat) (s : State) : State :=
  evaluateReorder b l
    (bankSales b (n * (s.stockLine b l).face)
      (modStockLine b l (fun x => { x.less n with issues := raiseTo Config.maxCount x.issues n }) s))

/-- Pieces spoiled from a line and valued (R149). -/
def spoilPieces (b : BranchId) (l : LineNo) (n : Nat) (s : State) : State :=
  evaluateReorder b l
    (bankSpoilage b (n * (s.stockLine b l).face)
      (modStockLine b l (fun x => { x.less n with spoilage := raiseTo Config.maxCount x.spoilage n }) s))

/-- STOCK-SALE after the line checks (R149). -/
def saleOn (n : Nat) (b : BranchId) (l : LineNo) (s : State) : Answer :=
  if n = 0 ∨ Config.maxPieces < n then refuse .outOfRange s
  else
    let t := sellPieces b l n s
    answerOk (decrementBody b l n (s.stockLine b l) t) t

/-- STOCK-SPOIL after the line checks (R149). -/
def spoilOn (n : Nat) (b : BranchId) (l : LineNo) (s : State) : Answer :=
  if n = 0 ∨ Config.maxPieces < n then refuse .outOfRange s
  else
    let t := spoilPieces b l n s
    answerOk (decrementBody b l n (s.stockLine b l) t) t

/-- STOCK-SALE (R149). -/
def answerStockSale (m : PiecesMsg) (s : State) : Answer :=
  withStockLine m.branch m.line (saleOn m.count.toNat) s

/-- STOCK-SALE (R149). -/
def execStockSale (p : Port) (tag : Byte) (b : Body PiecesMsg) (s : State) : Host.Outcome State Fault Refusal :=
  .next (request p .stockSale tag b PiecesMsg.bytes answerStockSale s)

/-- STOCK-SPOIL (R149). -/
def answerStockSpoil (m : PiecesMsg) (s : State) : Answer :=
  withStockLine m.branch m.line (spoilOn m.count.toNat) s

/-- STOCK-SPOIL (R149). -/
def execStockSpoil (p : Port) (tag : Byte) (b : Body PiecesMsg) (s : State) : Host.Outcome State Fault Refusal :=
  .next (request p .stockSpoil tag b PiecesMsg.bytes answerStockSpoil s)

/-- The STOCK-VARIANCE fault (R153). -/
def stockVarianceFault (s : State) : FaultRecord :=
  { kind := .stockVariance, time := s.timeBase, ct := 0, meter := none, serial := 0, amount := 0, grantValid := false,
    reading := none }

/-- A line set to its counted value, steps 1 to 5 of R152. -/
def countPieces (b : BranchId) (l : LineNo) (c : Nat) (value : Int) (s : State) : State :=
  evaluateReorder b l
    (bankVariance b value (modStockLine b l (fun x => { x with onHand := c, shortfall := 0 }) s))

/-- STOCK-COUNT after the line checks (R152, R153). -/
def countOn (c : Nat) (b : BranchId) (l : LineNo) (s : State) : Answer :=
  if Config.maxPieces < c then refuse .outOfRange s
  else
    let before := s.stockLine b l
    let pieces : Int := (c : Int) - (before.onHand : Int)
    let value : Int := pieces * (before.face : Int)
    let large := decide (s.stock.tolerance < value.natAbs)
    let counted := countPieces b l c value s
    let t := if large then handFault (stockVarianceFault counted) counted else counted
    answerOk [.u8 b.val, .u8 l.val, .u32 before.onHand, .u32 c, .s64 pieces, .s64 value, .u32 before.shortfall,
      flag (t.stockLine b l).raised, flag large] t

/-- STOCK-COUNT (R152). -/
def answerStockCount (m : PiecesMsg) (s : State) : Answer :=
  withStockLine m.branch m.line (countOn m.count.toNat) s

/-- STOCK-COUNT (R152). -/
def execStockCount (p : Port) (tag : Byte) (b : Body PiecesMsg) (s : State) : Host.Outcome State Fault Refusal :=
  .next (request p .stockCount tag b PiecesMsg.bytes answerStockCount s)

/-- SET-TOLERANCE (R154). -/
def answerSetTolerance (m : ToleranceMsg) (s : State) : Answer :=
  if Config.maxLimit < m.tolerance.toNat then refuse .outOfRange s
  else answerOk [.u48 m.tolerance.toNat] (s.setStock { s.stock with tolerance := m.tolerance.toNat })

/-- SET-TOLERANCE (R154). -/
def execSetTolerance (p : Port) (tag : Byte) (b : Body ToleranceMsg) (s : State) : Host.Outcome State Fault Refusal :=
  .next (request p .setTolerance tag b ToleranceMsg.bytes answerSetTolerance s)

/-- The fields of one line in the QUERY-STOCK reply (R159). -/
def stockLineFields (s : State) (b : BranchId) (l : LineNo) : List WireField :=
  let line := s.stockLine b l
  [.u8 l.val, flag line.configured, .u16 line.item.toNat, .u8 line.kind.code, .u32 line.face, .u32 line.onHand,
   .u32 line.level, flag line.raised, flag (s.stock.reorder.contains (b, l)), .u32 line.receipts, .u32 line.issues,
   .u32 line.spoilage, .u32 line.shortfall, .u8 (linkedTo s b l)]

/-- QUERY-STOCK (R159). -/
def answerQueryStock (m : QueryStockMsg) (s : State) : Answer :=
  match branchOf m.branch, lineOf m.first with
  | some b, some first =>
      if 12 < m.count.toNat then refuse .outOfRange s
      else
        answerOk
          ([.u48 s.stock.tolerance, .u16 s.stock.reorder.length,
            .u8 (s.stock.reorder.countP (fun x => x.1 == b))] ++
            (((List.finRange 12).drop first.val).take m.count.toNat).flatMap (stockLineFields s b)) s
  | _, _ => refuse .outOfRange s

/-- QUERY-STOCK (R159). -/
def execQueryStock (p : Port) (tag : Byte) (b : Body QueryStockMsg) (s : State) : Host.Outcome State Fault Refusal :=
  .next (request p .queryStock tag b QueryStockMsg.bytes answerQueryStock s)

/-- The fields of one pair in the REORDER notice (R158). -/
def reorderFields (s : State) (pair : BranchId × LineNo) : List WireField :=
  let line := s.stockLine pair.1 pair.2
  [.u8 pair.1.val, .u8 pair.2.val, .u16 line.item.toNat, .u8 line.kind.code, .u32 line.onHand, .u32 line.level]

/-- The pairs that a REORDER notice carries when it is sampled (R158). -/
def reorderPage (s : State) : List (BranchId × LineNo) :=
  s.stock.reorder.take Config.reportPage

/-- The body of the REORDER notice: the count, the pairs and the number left beyond them (R158). -/
def reorderNoticeBody (s : State) : List WireField :=
  .u8 (reorderPage s).length :: (reorderPage s).flatMap (reorderFields s) ++
    [.u16 (s.stock.reorder.length - (reorderPage s).length)]

end Sys2Proof.Machine
end

