-- ==== Sys2Proof/Machine/AccountingPeriods.lean ====
section
/-!
DEFINITION. Accounting Periods: CLOSE-PERIOD, COLLECT-PERIOD and QUERY-PERIOD (R165 to R171).
-/

namespace Sys2Proof.Machine

/-- The sum of two branches' activity, each addition saturating (R164, R167). -/
def BranchBank.merge (a b : BranchBank) : BranchBank :=
  { used := raiseTo Config.maxFigure a.used b.used
    appliedCount := raiseTo Config.maxCount a.appliedCount b.appliedCount
    appliedAmount := raiseTo Config.maxFigure a.appliedAmount b.appliedAmount
    reversed := raiseTo Config.maxCount a.reversed b.reversed
    short := raiseTo Config.maxCount a.short b.short
    sales := raiseTo Config.maxFigure a.sales b.sales
    spoilage := raiseTo Config.maxFigure a.spoilage b.spoilage
    variance := raiseSigned a.variance b.variance }

/-- Some addition of `BranchBank.merge` meets a limit (R164). -/
def BranchBank.mergeHits (a b : BranchBank) : Bool :=
  passes Config.maxFigure a.used b.used || passes Config.maxCount a.appliedCount b.appliedCount ||
    passes Config.maxFigure a.appliedAmount b.appliedAmount || passes Config.maxCount a.reversed b.reversed ||
    passes Config.maxCount a.short b.short || passes Config.maxFigure a.sales b.sales ||
    passes Config.maxFigure a.spoilage b.spoilage || passesSigned a.variance b.variance

/-- Some addition of a merge of two banks meets a limit (R164, R167). -/
def Bank.mergeHits (closing current : Bank) : Bool :=
  (zipAll BranchBank.mergeHits closing.branches current.branches).toList.any id ||
    passes Config.maxFigure closing.deposits current.deposits || passes Config.maxFigure closing.refunds current.refunds ||
    passes Config.maxFigure closing.purchases current.purchases || passes Config.maxFigure closing.sweeps current.sweeps ||
    passesSigned closing.adjustments current.adjustments

/-- The current bank merged into the closing bank, with P at the close (R167). -/
def Bank.merge (closing current : Bank) (p : Nat) : Bank :=
  { stamp := current.stamp
    spanned := raiseTo 255 closing.spanned current.spanned
    saturated := closing.saturated || current.saturated || closing.mergeHits current
    poolAtClose := some p
    branches := zipAll BranchBank.merge closing.branches current.branches
    deposits := raiseTo Config.maxFigure closing.deposits current.deposits
    refunds := raiseTo Config.maxFigure closing.refunds current.refunds
    purchases := raiseTo Config.maxFigure closing.purchases current.purchases
    sweeps := raiseTo Config.maxFigure closing.sweeps current.sweeps
    adjustments := raiseSigned closing.adjustments current.adjustments }

/-- Both banks after a close under a new stamp: moved when the closing bank is collected (R166), merged otherwise (R167),
and a fresh current bank (R168, step 1). -/
def Periods.closed (k : Periods) (p : Nat) (stamp : Word32) : Periods :=
  { current := Bank.opened stamp
    closing := if k.collected then { k.current with poolAtClose := some p } else k.closing.merge k.current p
    held := true
    collected := false }

/-- A set to the period allowance of a branch that has one (R49, R168, step 2). -/
def Branch.allowanceReset (b : Branch) : Branch :=
  { b with allowance := b.allowance.map (fun a => { a with remaining := a.period }) }

/-- The period counts of a stock line cleared (R168, step 3). -/
def StockLine.periodCleared (l : StockLine) : StockLine :=
  { l with receipts := 0, issues := 0, spoilage := 0 }

/-- The whole close as one change (R165 to R168). -/
def closePeriod (stamp : Word32) (s : State) : State :=
  let banked := s.setPeriods (s.periods.closed s.pool.p stamp)
  let reset := banked.setBranches (mapAll Branch.allowanceReset banked.branches)
  let cleared := reset.setStock { reset.stock with lines := mapAll (mapAll StockLine.periodCleared) reset.stock.lines }
  setCondition .period cleared

/-- Pool at close: the figure, or a mark that it is not set (R161, R170). -/
def poolAtCloseFields (b : Bank) : List WireField :=
  optional b.poolAtClose (fun p => [.u48 p])

/-- The reply of CLOSE-PERIOD (R165). -/
def closeBody (result : Result) (s : State) : List WireField :=
  [.u8 result.code, .u32 s.periods.closing.stamp.toNat, .u8 s.periods.closing.spanned,
   flag s.periods.closing.saturated] ++ poolAtCloseFields s.periods.closing ++ [.u32 s.periods.current.stamp.toNat]

/-- CLOSE-PERIOD (R165). -/
def answerClosePeriod (m : StampMsg) (s : State) : Answer :=
  if m.stamp = s.periods.current.stamp then answerOk (closeBody .repeated s) s
  else
    let result := if s.periods.collected then Result.moved else Result.merged
    let t := closePeriod m.stamp s
    answerOk (closeBody result t) t

/-- CLOSE-PERIOD (R165). -/
def execClosePeriod (p : Port) (tag : Byte) (b : Body StampMsg) (s : State) : Host.Outcome State Fault Refusal :=
  .next (request p .closePeriod tag b StampMsg.bytes answerClosePeriod s)

/-- COLLECT-PERIOD (R169). -/
def answerCollectPeriod (m : StampMsg) (s : State) : Answer :=
  if !s.periods.held then refuse .outOfRange s
  else if m.stamp ≠ s.periods.closing.stamp then refuse .outOfRange s
  else
    let t := s.setPeriods { s.periods with collected := true }
    answerOk [.u32 t.periods.closing.stamp.toNat, .u8 t.periods.closing.spanned, flag t.periods.collected] t

/-- COLLECT-PERIOD (R169). -/
def execCollectPeriod (p : Port) (tag : Byte) (b : Body StampMsg) (s : State) : Host.Outcome State Fault Refusal :=
  .next (request p .collectPeriod tag b StampMsg.bytes answerCollectPeriod s)

/-- The eight fields of a branch in the QUERY-PERIOD reply (R162, R170). -/
def branchBankFields (k : Bank) (b : BranchId) : List WireField :=
  let f := k.branches.get b
  [.u8 b.val, .u48 f.used, .u32 f.appliedCount, .u48 f.appliedAmount, .u32 f.reversed, .u32 f.short, .u48 f.sales,
   .u48 f.spoilage, .s64 f.variance]

/-- The body of the QUERY-PERIOD reply (R170): the bank named, its header, the closing bank's marks, the six part-wide
fields (R163) and the branches of the page. -/
def periodBody (s : State) (closing : Bool) (first : BranchId) (count : Nat) : List WireField :=
  let k := if closing then s.periods.closing else s.periods.current
  [flag closing, .u32 k.stamp.toNat, .u8 k.spanned, flag k.saturated] ++ poolAtCloseFields k ++
    (if closing then [flag s.periods.held, flag s.periods.collected] else []) ++
    [.u48 k.deposits, .u48 k.refunds, .u48 k.purchases, .u48 k.sweeps, .s64 k.adjustments] ++ poolAtCloseFields k ++
    (((List.finRange 48).drop first.val).take count).flatMap (branchBankFields k)

/-- QUERY-PERIOD (R170). -/
def answerQueryPeriod (m : QueryPeriodMsg) (s : State) : Answer :=
  match boolOf m.bank, branchOf m.first with
  | some closing, some first =>
      if 8 < m.count.toNat then refuse .outOfRange s
      else answerOk (periodBody s closing first m.count.toNat) s
  | _, _ => refuse .outOfRange s

/-- QUERY-PERIOD (R170). -/
def execQueryPeriod (p : Port) (tag : Byte) (b : Body QueryPeriodMsg) (s : State) : Host.Outcome State Fault Refusal :=
  .next (request p .queryPeriod tag b QueryPeriodMsg.bytes answerQueryPeriod s)

/-- The body of the PERIOD notice (R171). -/
def periodNoticeBody (s : State) : List WireField :=
  let k := s.periods.closing
  [.u32 k.stamp.toNat, .u8 k.spanned, flag s.periods.collected, flag k.saturated] ++ poolAtCloseFields k ++
    [flag (decide (1 < k.spanned)), .u32 s.periods.current.stamp.toNat]

end Sys2Proof.Machine
end

