-- ==== Sys2Proof/Machine/MeterTable.lean ====
section
/-!
DEFINITION. The Meter Table: enrolment, configuration, suspension, the acceptance and rejection of readings, the two
timers, the silent list and QUERY-METER (R18 to R43).
-/

namespace Sys2Proof.Machine

/-! ## Enrolment and configuration -/

/-- A record set up afresh by an enrolment; supervision stays stopped while the part is UNCOMMISSIONED (R25). -/
def Meter.enrolled (b : BranchId) (ar : Nat) (labels : Word32) (supervision : Option Word32) : Meter :=
  { state := .active, branch := b, base := ar, credited := 0, ct := ar, arMirror := ar, drMirror := 0,
    lastLabels := labels, settings := Settings.default, pendingReq := none, grant := none, lastOutcome := none,
    rejected := none, holdOff := none, supervision := supervision }

/-- The supervision timer that an enrolment starts: the default period, when the part is commissioned (R25, R31). -/
def enrolSupervision (s : State) : Option Word32 :=
  if s.monitor.state = .uncommissioned then none
  else some (expiryAfter s (Settings.default.hours * Config.secondsPerHour))

/-- ENROL-METER (R24, R25). -/
def answerEnrolMeter (m : EnrolMsg) (s : State) : Answer :=
  match meterOf m.meter, branchOf m.branch with
  | some meter, some b =>
      if m.dr.toNat ≠ 0 then refuse .outOfRange s
      else if !(s.branch b).configured then refuse .outOfRange s
      else if (s.meter meter).state.enrolled then refuse .badState s
      else if Config.branchMeters ≤ enrolledAt s b then refuse .full s
      else
        let t := modMeter meter (fun _ => Meter.enrolled b m.ar.toNat m.labels (enrolSupervision s)) s
        let r := t.meter meter
        answerOk [.u8 meter.val, .u8 r.branch.val, .u48 r.ct, .u8 r.state.code] t
  | _, _ => refuse .outOfRange s

/-- ENROL-METER (R24). -/
def execEnrolMeter (p : Port) (tag : Byte) (b : Body EnrolMsg) (s : State) : Host.Outcome State Fault Refusal :=
  .next (request p .enrolMeter tag b EnrolMsg.bytes answerEnrolMeter s)

/-- The settings a CONFIGURE-METER carries, if each is in its range (R19, R27 check 3). -/
def settingsOf (m : ConfigureMeterMsg) : Option Settings :=
  match linkOf m.link with
  | none => none
  | some link =>
      if 100 ≤ m.ceiling.toNat ∧ m.ceiling.toNat ≤ Config.maxGrant ∧ 1 ≤ m.step.toNat ∧ m.step.toNat ≤ 100000 ∧
          m.minimum.toNat ≤ Config.maxGrant ∧ m.holdOff.toNat ≤ 86400 ∧ 1 ≤ m.hours.toNat ∧ m.hours.toNat ≤ 168 then
        some { ceiling := m.ceiling.toNat, step := m.step.toNat, minimum := m.minimum.toNat, holdOff := m.holdOff.toNat,
               hours := m.hours.toNat, link := link }
      else none

/-- A label link names a configured LABEL line of the branch, or is absent (R27, check 4). -/
def linkAllowed (s : State) (b : BranchId) (link : Option LineNo) : Bool :=
  link.all (fun l => (s.stockLine b l).configured && (s.stockLine b l).kind == .label)

/-- The six settings as a reply gives them (R28, R42). -/
def settingsFields (k : Settings) : List WireField :=
  [.u48 k.ceiling, .u48 k.step, .u48 k.minimum, .u32 k.holdOff, .u8 k.hours, linkField k.link]

/-- All six settings replaced; a running supervision timer starts afresh with the new period (R28). -/
def configureMeter (m : MeterId) (k : Settings) (s : State) : State :=
  let t := modMeter m (fun r => { r with settings := k }) s
  if (s.meter m).supervision.isSome then startSupervision m t else t

/-- A record in ACTIVE, SILENT or SUSPENDED (R27, R28, R130). -/
def MeterState.inUse : MeterState → Bool
  | .active | .silent | .suspended => true
  | _ => false

/-- CONFIGURE-METER (R27, R28). -/
def answerConfigureMeter (m : ConfigureMeterMsg) (s : State) : Answer :=
  match meterOf m.meter with
  | none => refuse .outOfRange s
  | some meter =>
      if !(s.meter meter).state.inUse then refuse .badState s
      else
        match settingsOf m with
        | none => refuse .outOfRange s
        | some k =>
            if !linkAllowed s (s.meter meter).branch k.link then refuse .outOfRange s
            else
              let t := configureMeter meter k s
              answerOk (.u8 meter.val :: settingsFields (t.meter meter).settings ++ [.u8 (t.meter meter).state.code]) t

/-- CONFIGURE-METER (R27). -/
def execConfigureMeter (p : Port) (tag : Byte) (b : Body ConfigureMeterMsg) (s : State) :
    Host.Outcome State Fault Refusal :=
  .next (request p .configureMeter tag b ConfigureMeterMsg.bytes answerConfigureMeter s)

/-- SUSPEND-METER by the meter's state (R29). -/
def suspendOn (m : MeterId) (s : State) : Answer :=
  match (s.meter m).state with
  | .vacant | .retired => refuse .unknownMeter s
  | .active | .silent =>
      let t := enterSuspended m s
      answerOk [.u8 (t.meter m).state.code] t
  | .suspended => answerOk [.u8 (s.meter m).state.code] s
  | .draining | .awaitingReading => refuse .badState s

/-- SUSPEND-METER (R29). -/
def answerSuspendMeter (m : MeterMsg) (s : State) : Answer :=
  match meterOf m.meter with
  | none => refuse .outOfRange s
  | some meter => suspendOn meter s

/-- SUSPEND-METER (R29). -/
def execSuspendMeter (p : Port) (tag : Byte) (b : Body MeterMsg) (s : State) : Host.Outcome State Fault Refusal :=
  .next (request p .suspendMeter tag b MeterMsg.bytes answerSuspendMeter s)

/-! ## Readings -/

/-- A reading as a message reports it: the registers and the label counter (R36). -/
structure Report where
  ar : Nat
  dr : Nat
  labels : Word32
deriving DecidableEq, Repr

/-- RT = AR + DR, formed exactly (R18). -/
def Report.total (rd : Report) : Nat :=
  rd.ar + rd.dr

/-- The reported registers of a report. -/
def Report.reading (rd : Report) : Reading :=
  { ar := rd.ar, dr := rd.dr }

/-- The record after an accepted reading (R38, steps 2 to 6; R39): mirrors, last labels, no rejected reading, a SILENT
meter ACTIVE, and an ACTIVE meter's supervision started afresh with the given expiry time. -/
def Meter.accepted (r : Meter) (rd : Report) (expiry : Word32) : Meter :=
  let state := if r.state = .silent then MeterState.active else r.state
  { r with
    arMirror := rd.ar
    drMirror := rd.dr
    lastLabels := rd.labels
    rejected := none
    state := state
    supervision := if state = .active then some expiry else r.supervision }

/-- The usage of an accepted reading goes to the branch's postage used when it is above 0 (R38, step 1). -/
def recordUsage (b : BranchId) (used : Nat) (s : State) : State :=
  if 0 < used then bankUsed b used s else s

/-- The label delta of a reading goes to the linked line when it is above 0 (R39). -/
def recordLabels (b : BranchId) (link : Option LineNo) (delta : Nat) (s : State) : State :=
  match link with
  | some l => if 0 < delta then consumeLabels b l delta s else s
  | none => s

/-- A reading accepted into the record (R38, R39). -/
def acceptReading (m : MeterId) (rd : Report) (s : State) : State :=
  let r := s.meter m
  recordLabels r.branch r.settings.link (rd.labels - r.lastLabels).toNat
    (modMeter m (fun x => x.accepted rd (supervisionExpiry s m)) (recordUsage r.branch (rd.ar - r.arMirror) s))

/-- An inconsistent reading becomes the meter's last rejected reading (R40). -/
def rejectReading (m : MeterId) (rd : Report) (s : State) : State :=
  modMeter m (fun r => { r with rejected := some rd.reading }) s

/-- A fault on a reading of a meter: its kind, the expected CT, the reported registers and, when one is named, the grant
(R40, R96, R97, R137). -/
def readingFault (kind : FaultKind) (m : MeterId) (ct : Nat) (rd : Report) (g : Option Grant) (s : State) :
    FaultRecord :=
  { kind := kind, time := s.timeBase, ct := ct, meter := some m, serial := (g.map Grant.serial).getD 0,
    amount := (g.map Grant.amount).getD 0, grantValid := g.isSome, reading := some rd.reading }

/-- What the handling of a reading gives: the result, the fault kind its test found, the kind raised, and the state. -/
structure Judged where
  result : Result
  found : Option FaultKind
  raised : Option FaultKind
  state : State
deriving DecidableEq, Repr

/-- A reading handled as inconsistent: kept as the last rejected reading, then handed over as a fault (R40, R103, R137). -/
def inconsistentReading (kind : FaultKind) (m : MeterId) (rd : Report) (s : State) : Judged :=
  let t := rejectReading m rd s
  { result := .inconsistent, found := some kind, raised := raisedKind s kind,
    state := handFault (readingFault kind m (s.meter m).ct rd (s.meter m).grant s) t }

/-- A reading handled as consistent (R38). -/
def consistentReading (m : MeterId) (rd : Report) (s : State) : Judged :=
  { result := .consistent, found := none, raised := none, state := acceptReading m rd s }

/-- A reading from a meter with no unresolved grant, judged in the order of R37. -/
def judgeWithoutGrant (m : MeterId) (rd : Report) (s : State) : Judged :=
  if rd.ar < (s.meter m).arMirror then inconsistentReading .registerRegress m rd s
  else if rd.total = (s.meter m).ct then consistentReading m rd s
  else inconsistentReading .totalMismatch m rd s

/-- The meter's state, CT and mirrors as the replies to readings give them (R38, R40, R100, R140, R190). -/
def standingFields (s : State) (m : MeterId) : List WireField :=
  let r := s.meter m
  [.u8 r.state.code, .u48 r.ct, .u48 r.arMirror, .u48 r.drMirror]

/-- The reply of METER-STATUS: of a consistent report with the known credit K_m (R38), of an inconsistent one with the
fault kind (R40). -/
def statusBody (m : MeterId) (j : Judged) : List WireField :=
  match j.found with
  | none => .u8 j.result.code :: standingFields j.state m ++ [.u48 (j.state.meter m).drMirror]
  | some k => .u8 j.result.code :: .u8 k.code :: standingFields j.state m

/-! ## Timers -/

/-- A meter gone SILENT joins the silent list; one already there keeps its place and time (R33). -/
def joinSilentList (m : MeterId) (s : State) : State :=
  if s.silentList.any (fun e => e.meter == m) then s
  else s.setSilentList (s.silentList ++ [{ meter := m, time := s.timeBase }])

/-- Supervision expiry: the meter becomes SILENT, its request is dropped, and it joins the silent list (R32). -/
def becomeSilent (m : MeterId) (s : State) : State :=
  setCondition .silent
    (joinSilentList m
      (modMeter m (fun r => { r with state := .silent, supervision := none }) (dropRequest m s)))

/-- SUPERVISION_EXPIRY: a running supervision timer reaches its expiry time (R32). A stopped timer does not expire. -/
def execSupervisionExpiry (m : MeterId) (s : State) : Host.Outcome State Fault Refusal :=
  .next (whenPowered (fun s =>
    match (s.meter m).supervision with
    | some expiry => becomeSilent m (reachTime expiry s)
    | none => s) s)

/-- HOLD_OFF_EXPIRY: a running hold-off timer reaches its expiry time and stops (R35). A stopped timer does not expire. -/
def execHoldOffExpiry (m : MeterId) (s : State) : Host.Outcome State Fault Refusal :=
  .next (whenPowered (fun s =>
    match (s.meter m).holdOff with
    | some expiry => modMeter m (fun r => { r with holdOff := none }) (reachTime expiry s)
    | none => s) s)

/-! ## Queries and notices -/

/-- An unresolved grant as QUERY-METER gives it: serial, amount, phase, source with the entry number, the slot and, while
OFFERED, the time remaining in its window (R42).
DESIGN CHOICE (notes/assumptions/14.md): the slot and the window time of a DOUBTFUL grant, and the entry mark of a REQUEST
grant, are left out with no mark byte of their own; the phase and the source tell that they are absent. -/
def grantFields (s : State) (g : Grant) : List WireField :=
  let slot :=
    match g.phase with
    | .offered k => [.u8 k.val, .u32 ((s.engine.slots.get k).elim 0 (fun x => remaining s.timeBase x.expiry))]
    | .doubtful => []
  let entry :=
    match g.source with
    | .list e => optional e (fun n => [.u8 n])
    | .request => []
  [.u16 g.serial.toNat, .u48 g.amount, .u8 g.phase.code, .u8 g.source.code] ++ entry ++ slot

/-- The last outcome as QUERY-METER gives it (R20, R42).
DESIGN CHOICE (notes/assumptions/14.md): the reason stands only after a REJECTED claim, with no mark byte of its own; the
claim tells that it is absent. -/
def lastOutcomeFields (o : LastOutcome) : List WireField :=
  [.u16 o.serial.toNat, .u8 o.result.asResult.code, .u8 o.claim.code] ++
    match o.claim with
    | .rejected reason => [.u8 reason.toNat]
    | _ => []

/-- A timer as QUERY-METER gives it: running or stopped, and the seconds remaining while it runs (R42). -/
def timerFields (s : State) (timer : Option Word32) : List WireField :=
  optional timer (fun expiry => [.u32 (remaining s.timeBase expiry)])

/-- A meter's position in its branch's pending order, 1 for the oldest (R42, R55). -/
def positionOf (s : State) (m : MeterId) : Nat :=
  (s.branch (s.meter m).branch).order.idxOf m + 1

/-- The body of the QUERY-METER reply (R42). -/
def meterBody (s : State) (m : MeterId) : List WireField :=
  let r := s.meter m
  [.u8 r.state.code, .u8 r.branch.val, .u48 r.base, .s64 r.credited, .u48 r.ct, .u48 r.arMirror, .u48 r.drMirror,
   .u32 r.lastLabels.toNat] ++ settingsFields r.settings ++
    optional r.pendingReq (fun q => [.u48 q.q, .u8 q.urgency.val, .u8 (positionOf s m)]) ++
    optional r.grant (grantFields s) ++ optional r.lastOutcome lastOutcomeFields ++
    optional r.rejected (fun x => [.u48 x.ar, .u48 x.dr]) ++ timerFields s r.holdOff ++ timerFields s r.supervision

/-- QUERY-METER (R42). -/
def answerQueryMeter (m : MeterMsg) (s : State) : Answer :=
  match meterOf m.meter with
  | none => refuse .outOfRange s
  | some meter => answerOk (meterBody s meter) s

/-- QUERY-METER (R42). -/
def execQueryMeter (p : Port) (tag : Byte) (b : Body MeterMsg) (s : State) : Host.Outcome State Fault Refusal :=
  .next (request p .queryMeter tag b MeterMsg.bytes answerQueryMeter s)

/-- The entries that a SILENT notice carries when it is sampled (R33). -/
def silentPage (s : State) : List SilentEntry :=
  s.silentList.take Config.silentPage

/-- The body of the SILENT notice (R33). -/
def silentNoticeBody (s : State) : List WireField :=
  .u8 (silentPage s).length ::
    (silentPage s).flatMap (fun e => [.u8 e.meter.val, .u32 e.time.toNat, .u8 (s.meter e.meter).state.code])

end Sys2Proof.Machine
end

