-- ==== Sys2Proof/Machine/DistributionList.lean ====
section
/-!
DEFINITION. The List Unit's records and commands: entry outcomes, the end of a run, LOAD-LIST, START-LIST, HALT-LIST,
ABORT-LIST, CLEAR-LIST and QUERY-LIST (R113 to R129). The processing of an entry is in Arbiter.lean.
-/

namespace Sys2Proof.Machine

/-- Changes one entry of the list. -/
def modEntry (n : Nat) (f : Entry → Entry) (s : State) : State :=
  s.setList { s.list with entries := s.list.entries.modify n f }

/-- Sets the list state. -/
def setListState (x : ListState) (s : State) : State :=
  s.setList { s.list with state := x }

/-- Some entry is WAITING. -/
def anyWaiting (s : State) : Bool :=
  s.list.entries.any (fun e => e.outcome == .waiting)

/-- Some entry is OFFERED. -/
def anyOffered (s : State) : Bool :=
  s.list.entries.any (fun e => e.outcome == .offered)

/-- Gives an entry a final outcome; of a non-quiet entry it sets the LIST notice condition (R127). -/
def finishEntry (n : Nat) (outcome : EntryOutcome) (s : State) : State :=
  let t := modEntry n (fun e => { e with outcome := outcome }) s
  if (s.list.entries[n]?).any (fun e => !e.quiet) then setCondition .list t else t

/-- The list becomes DONE, with the LIST notice condition (R122, R123, R127). -/
def listDone (s : State) : State :=
  setCondition .list (setListState .done s)

/-- The end of a run when no entry is WAITING (R122). -/
def endRun (s : State) : State :=
  if anyWaiting s then s
  else if anyOffered s then setListState .drainingList s
  else listDone s

/-- The outcome an entry takes at the resolution of its grant (R123). -/
def GrantResult.asOutcome : GrantResult → EntryOutcome
  | .applied => .applied
  | .reversed => .reversed

/-- The resolution of a grant sets the outcome of the entry it is linked to, and ends a run in DRAINING-LIST at the last
OFFERED entry (R123). A grant that names no entry sets nothing (R126). -/
def entryResolved (source : GrantSource) (result : GrantResult) (s : State) : State :=
  match source with
  | .list (some n) =>
      let t := finishEntry n result.asOutcome s
      if t.list.state = .drainingList ∧ anyOffered t = false then listDone t else t
  | _ => s

/-- Removes the entry numbers from unresolved LIST grants (R126, step 1). -/
def Grant.detached (g : Grant) : Grant :=
  match g.source with
  | .list _ => { g with source := .list none }
  | .request => g

/-- A grant's source is LIST with an entry number. -/
def Grant.linked (g : Grant) : Bool :=
  match g.source with
  | .list (some _) => true
  | _ => false

/-- The number of grants whose entry number a clear removes (R126). -/
def linkedGrants (s : State) : Nat :=
  s.meters.toList.countP (fun r => r.grant.any Grant.linked)

/-- Empties a finished list (R126). -/
def emptyList (s : State) : State :=
  (s.setMeters (mapAll (fun r => { r with grant := r.grant.map Grant.detached }) s.meters)).setList
    { s.list with state := .empty, entries := [], next := 0 }

/-! ## LOAD-LIST (R116) -/

/-- An entry of a LOAD-LIST body, if every field is accepted (R116, check 3). -/
def entryOf (e : ListEntryMsg) : Option Entry :=
  match meterOf e.meter with
  | none => none
  | some m =>
      if e.q.toNat = 0 ∨ Config.maxGrant < e.q.toNat ∨ 3 < e.flags.toNat then none
      else
        some { meter := m, q := e.q.toNat, quiet := e.flags.getLsbD 0, stopOnShort := e.flags.getLsbD 1,
               outcome := .waiting, serial := none }

/-- The entries of a LOAD-LIST body, if every one is accepted (R116, check 3). -/
def entriesOf : List ListEntryMsg → Option (List Entry)
  | [] => some []
  | e :: es =>
      match entryOf e, entriesOf es with
      | some x, some xs => some (x :: xs)
      | _, _ => none

/-- Appends entries; the list becomes LOADED and the next entry is the first WAITING one (R116). -/
def appendEntries (new : List Entry) (s : State) : State :=
  let entries := s.list.entries ++ new
  s.setList { s.list with state := .loaded, entries := entries,
                          next := entries.findIdx (fun e => e.outcome == .waiting) }

/-- The reply of LOAD-LIST: the list state, the entries held and the first entry this request added (R116). -/
def loadBody (first : Nat) (t : State) : List WireField :=
  [.u8 t.list.state.code, .u8 t.list.entries.length, .u8 first]

/-- LOAD-LIST (R116). -/
def answerLoadList (m : LoadListMsg) (s : State) : Answer :=
  let load (base : State) : Answer :=
    if m.entries.length = 0 ∨ Config.listEntries < m.entries.length then refuse .outOfRange s
    else
      match entriesOf m.entries with
      | none => refuse .outOfRange s
      | some new =>
          if Config.listEntries < base.list.entries.length + new.length then refuse .full s
          else
            let t := appendEntries new base
            answerOk (loadBody base.list.entries.length t) t
  match s.list.state with
  | .running | .halting | .halted | .drainingList => refuse .badState s
  | .empty | .loaded => load s
  | .done | .aborted => load (emptyList s)

/-- LOAD-LIST (R116). -/
def execLoadList (p : Port) (tag : Byte) (b : Body LoadListMsg) (s : State) : Host.Outcome State Fault Refusal :=
  .next (request p .loadList tag b LoadListMsg.bytes answerLoadList s)

/-! ## START-LIST, HALT-LIST, ABORT-LIST, CLEAR-LIST -/

/-- The list becomes RUNNING with its class and batch; a LOADED or HALTED list that holds no WAITING entry ends its run at
once (R117). -/
def startList (cls : Priority) (batch : Bool) (s : State) : State :=
  let t := s.setList { s.list with state := .running, cls := cls, batch := batch }
  match s.list.state with
  | .loaded | .halted => endRun t
  | _ => t

/-- The reply of START-LIST (R117). -/
def startBody (t : State) : List WireField :=
  [.u8 t.list.state.code, .u8 t.list.cls.code, flag t.list.batch, .u8 t.list.next]

/-- START-LIST (R117). -/
def answerStartList (m : StartListMsg) (s : State) : Answer :=
  match priorityOf m.cls, boolOf m.batch with
  | some cls, some batch =>
      match s.list.state with
      | .loaded | .halted | .halting | .running =>
          let t := startList cls batch s
          answerOk (startBody t) t
      | .empty | .drainingList | .done | .aborted => refuse .badState s
  | _, _ => refuse .outOfRange s

/-- START-LIST (R117). -/
def execStartList (p : Port) (tag : Byte) (b : Body StartListMsg) (s : State) : Host.Outcome State Fault Refusal :=
  .next (request p .startList tag b StartListMsg.bytes answerStartList s)

/-- The reply of HALT-LIST (R124). -/
def haltBody (t : State) : List WireField :=
  [.u8 t.list.state.code, .u8 t.list.next]

/-- HALT-LIST (R124). -/
def answerHaltList (_ : Unit) (s : State) : Answer :=
  match s.list.state with
  | .running =>
      let t := if listHoldsBatch s then setListState .halting s else haltList s
      answerOk (haltBody t) t
  | .halting | .halted => answerOk (haltBody s) s
  | _ => refuse .badState s

/-- HALT-LIST (R124). -/
def execHaltList (p : Port) (tag : Byte) (b : Body Unit) (s : State) : Host.Outcome State Fault Refusal :=
  .next (request p .haltList tag b noBytes answerHaltList s)

/-- A WAITING entry ABANDONED; any other entry as it stands (R125, step 1). -/
def Entry.abandoned (e : Entry) : Entry :=
  if e.outcome = .waiting then { e with outcome := .abandoned } else e

/-- The abort of a list (R125). -/
def abortList (s : State) : State :=
  setCondition .list
    (s.setList { s.list with state := .aborted, entries := s.list.entries.map Entry.abandoned,
                             next := s.list.entries.length })

/-- The counts of entries in each of the eight outcomes, in code order (R125, R127, R128). -/
def outcomeCounts (s : State) : List WireField :=
  (List.range 8).map (fun code => .u8 (outcomeCount s code))

/-- ABORT-LIST (R125). -/
def answerAbortList (_ : Unit) (s : State) : Answer :=
  match s.list.state with
  | .loaded | .running | .halting | .halted =>
      let t := abortList s
      answerOk (outcomeCounts t) t
  | _ => refuse .badState s

/-- ABORT-LIST (R125). -/
def execAbortList (p : Port) (tag : Byte) (b : Body Unit) (s : State) : Host.Outcome State Fault Refusal :=
  .next (request p .abortList tag b noBytes answerAbortList s)

/-- CLEAR-LIST (R126). -/
def answerClearList (_ : Unit) (s : State) : Answer :=
  match s.list.state with
  | .done | .aborted => answerOk [.u8 (linkedGrants s)] (emptyList s)
  | _ => refuse .badState s

/-- CLEAR-LIST (R126). -/
def execClearList (p : Port) (tag : Byte) (b : Body Unit) (s : State) : Host.Outcome State Fault Refusal :=
  .next (request p .clearList tag b noBytes answerClearList s)

/-! ## QUERY-LIST and the LIST notice -/

/-- An entry's detail, if it has one (R114, R198). -/
def EntryOutcome.detail : EntryOutcome → Option Nat
  | .skippedState found => some found.code
  | .short cause => some cause.code
  | _ => none

/-- The flags byte of a list entry: bit 0 quiet, bit 1 stop-on-short (R116, R198). -/
def Entry.flags (e : Entry) : Nat :=
  e.quiet.toNat + 2 * e.stopOnShort.toNat

/-- The fields of one entry in the QUERY-LIST reply (R128).
DEDUCED (notes/assumptions/24.md): its quiet and stop-on-short flags stand in one flags byte, as R198 gives that byte for a
list entry, and not in two bytes. -/
def entryFields (x : Entry × Nat) : List WireField :=
  [.u8 x.2, .u8 x.1.meter.val, .u48 x.1.q, .u8 x.1.flags, .u8 x.1.outcome.code] ++
    optional x.1.outcome.detail (fun d => [.u8 d]) ++ optional x.1.serial (fun n => [.u16 n.toNat])

/-- The body of the QUERY-LIST reply (R128). -/
def listBody (s : State) (first count : Nat) : List WireField :=
  [.u8 s.list.state.code, .u8 s.list.cls.code, flag s.list.batch, .u8 s.list.entries.length, .u8 s.list.next] ++
    outcomeCounts s ++ [flag (listHoldsBatch s)] ++
    ((s.list.entries.zipIdx.drop first).take count).flatMap entryFields

/-- QUERY-LIST (R128). -/
def answerQueryList (m : QueryListMsg) (s : State) : Answer :=
  if 31 < m.first.toNat ∨ 32 < m.count.toNat then refuse .outOfRange s
  else answerOk (listBody s m.first.toNat m.count.toNat) s

/-- QUERY-LIST (R128). -/
def execQueryList (p : Port) (tag : Byte) (b : Body QueryListMsg) (s : State) : Host.Outcome State Fault Refusal :=
  .next (request p .queryList tag b QueryListMsg.bytes answerQueryList s)

/-- The count of entries that are SHORT with a given cause (R79). -/
def shortCount (s : State) (cause : Cause) : Nat :=
  s.list.entries.countP (fun e => e.outcome == .short cause)

/-- The causes of the SHORT entries as the LIST notice shows them (R79): the counts of the entries SHORT for CEILING, for POOL
and for MINIMUM, the three causes of the list form.
DESIGN CHOICE (notes/assumptions/23.md): R79 has the cause shown in the list's notices and no rule gives its layout; counts
are given, since R127 has the notice carry counts and not entries. -/
def shortCounts (s : State) : List WireField :=
  [.u8 (shortCount s .ceiling), .u8 (shortCount s .pool), .u8 (shortCount s .minimum)]

/-- The body of the LIST notice: what R127 lists, in its order, and after it the causes that R79 has it show.
DESIGN CHOICE (notes/assumptions/23.md): how the two rules are met together. -/
def listNoticeBody (s : State) : List WireField :=
  [.u8 s.list.state.code, .u8 s.list.entries.length] ++ outcomeCounts s ++ [.u8 s.list.next] ++ shortCounts s

end Sys2Proof.Machine
end

