-- ==== Sys2Proof/Machine/GrantEngine.lean ====
section
/-!
DEFINITION. The Grant Engine: confirmation and release, the register tests, doubtful grants, expiry, SET-ENGINE and
ENGINE-RESTART (R86 to R112). The messages that carry readings are in Readings.lean.
-/

namespace Sys2Proof.Machine

/-! ## Confirmation and release (R94, R95, R98) -/

/-- The hold-off timer that a confirmation leaves: 4 times the interval while the pace is above 0, none for length 0;
a meter neither ACTIVE nor SUSPENDED starts none (R34, R98). -/
def holdOffAfter (s : State) (r : Meter) (pace : Nat) : Option Word32 :=
  if r.state = .active ∨ r.state = .suspended then
    let length := if pace = 0 then r.settings.holdOff else 4 * r.settings.holdOff
    if length = 0 then none else some (expiryAfter s length)
  else r.holdOff

/-- A confirmation starts the hold-off with the pace it reads and then wears the pace down by 1 (R98, R51). -/
def startHoldOff (m : MeterId) (s : State) : State :=
  let b := (s.meter m).branch
  modBranch b (fun x => { x with pace := x.pace - 1 })
    (modMeter m (fun r => { r with holdOff := holdOffAfter s r (s.branch b).pace }) s)

/-- Writes the last outcome of a resolved grant (R20, R94, R95). -/
def writeOutcome (m : MeterId) (g : Grant) (result : GrantResult) (claim : Claim) (s : State) : State :=
  modMeter m (fun r => { r with lastOutcome := some { serial := g.serial, result := result, claim := claim } }) s

/-- A confirmed grant raises the meter's credited amount and CT (R94, step 2). -/
def creditMeter (m : MeterId) (x : Nat) (s : State) : State :=
  modMeter m (fun r => { r with credited := r.credited + x, ct := r.ct + x }) s

/-- A grant shown applied is confirmed, with the reading that showed it (R94). -/
def confirmGrant (m : MeterId) (g : Grant) (claim : Claim) (rd : Report) (s : State) : State :=
  let accepted := acceptReading m rd (creditMeter m g.amount (poolConfirm g.amount s))
  let cleared := writeOutcome m g .applied claim (clearGrant m g accepted)
  let rested := startHoldOff m cleared
  let banked := bankApplied (s.meter m).branch g.amount rested
  afterSlotFreed g (leaveDraining m (entryResolved g.source .applied banked))

/-- A released REQUEST grant restores the allowance of the branch, clamped to the period allowance (R49, R95). -/
def restoreAllowance (b : BranchId) (g : Grant) (s : State) : State :=
  match g.source with
  | .request =>
      modBranch b (fun x => { x with
        allowance := x.allowance.map (fun a => { a with remaining := min (a.remaining + g.amount) a.period }) }) s
  | .list _ => s

/-- The reading of a release is accepted when it carries one (R95, R139, R190). -/
def acceptOptional (m : MeterId) (rd : Option Report) (s : State) : State :=
  match rd with
  | some x => acceptReading m x s
  | none => s

/-- A grant shown not applied, or released by an audit action, goes back to the pool (R95, R104). -/
def releaseGrant (m : MeterId) (g : Grant) (claim : Claim) (rd : Option Report) (s : State) : State :=
  let returned := restoreAllowance (s.meter m).branch g (poolRelease g.amount s)
  let cleared := writeOutcome m g .reversed claim (clearGrant m g (acceptOptional m rd returned))
  let banked := bankReversed (s.meter m).branch cleared
  afterSlotFreed g (leaveDraining m (entryResolved g.source .reversed banked))

/-! ## Register tests (R93, R103) -/

/-- What the registers of a reading show about an unresolved grant (R93). -/
inductive Verdict where
  | regress
  | notApplied
  | applied
  | mismatch
deriving DecidableEq, Repr

/-- A total that shows a grant applied: CT + g, and not above 2^48 − 1 (R18, R93). -/
def showsApplied (r : Meter) (amount : Nat) (rd : Report) : Bool :=
  decide (rd.total = r.ct + amount) && decide (rd.total ≤ Config.maxFigure)

/-- The test of R93, in its order. -/
def judgeOutcome (r : Meter) (amount : Nat) (rd : Report) : Verdict :=
  if rd.ar < r.arMirror then .regress
  else if rd.total = r.ct then .notApplied
  else if showsApplied r amount rd then .applied
  else .mismatch

/-- The test of R103 for a METER-STATUS taken while the grant is OFFERED, in its order. -/
def judgeOffered (r : Meter) (amount : Nat) (rd : Report) : Verdict :=
  if rd.ar < r.arMirror then .regress
  else if showsApplied r amount rd then .applied
  else if rd.total = r.ct then .notApplied
  else .mismatch

/-! ## Expiry (R101) -/

/-- An OFFERED grant becomes DOUBTFUL and gives up its slot; serial, amount and source stay (R96, R101). -/
def makeDoubtful (m : MeterId) (g : Grant) (s : State) : State :=
  freeGrantSlot g (modMeter m (fun r => { r with grant := some { g with phase := .doubtful } }) s)

/-- A frame is the offer of a serial. -/
def OutFrame.offers (serial : Word16) : OutFrame → Bool
  | .grantOffer _ n _ _ => n == serial
  | _ => false

/-- The queue without the offer of a serial, the frame whose transmission has begun excepted (R101, step 4). -/
def withdrawOffer (serial : Word16) (l : LineIf) : LineIf :=
  let keep := fun (f : OutFrame) => !f.offers serial
  if l.sending.isSome then { l with queue := l.queue.take 1 ++ (l.queue.drop 1).filter keep }
  else { l with queue := l.queue.filter keep }

/-- The expiry of the grant in a slot (R101). A slot whose meter no longer holds the grant only frees. -/
def expireSlot (k : SlotId) (slot : Slot) (s : State) : State :=
  let doubtful :=
    modMeter slot.meter (fun r => { r with grant := r.grant.map (fun g => { g with phase := .doubtful }) }) s
  settleRestart (leaveDraining slot.meter
    (modLineIf .operations (withdrawOffer slot.serial) (freeSlot k doubtful)))

/-- GRANT_EXPIRY: the time base reaches the expiry time of an occupied slot (R101). A free slot does not expire. -/
def execGrantExpiry (k : SlotId) (s : State) : Host.Outcome State Fault Refusal :=
  .next (whenPowered (fun s =>
    match s.engine.slots.get k with
    | some slot => expireSlot k slot (reachTime slot.expiry s)
    | none => s) s)

/-! ## Reservation (R81, R82, R86, R87, R90) -/

/-- The next serial and a slot are taken, the meter record receives the unresolved grant, and the GRANT-OFFER is queued
(R81 steps 4 and 5, R86, R87, R90). With no slot free nothing is offered; a selection finds one free (R60). -/
def offerGrant (m : MeterId) (amount : Nat) (source : GrantSource) (s : State) : State :=
  match freeSlot? s with
  | none => s
  | some k =>
      let serial := takenSerial s
      let slot : Slot := { serial := serial, meter := m, amount := amount, expiry := expiryAfter s s.engine.window }
      let grant : Grant := { serial := serial, amount := amount, phase := .offered k, source := source }
      enqueue .operations (.grantOffer m serial amount s.engine.window)
        (modMeter m (fun r => { r with grant := some grant })
          (s.setEngine { s.engine with slots := modifyAt s.engine.slots k (fun _ => some slot),
                                       nextSerial := serialAfter serial }))

/-! ## SET-ENGINE and ENGINE-RESTART (R88, R109) -/

/-- SET-ENGINE (R88). -/
def answerSetEngine (m : SetEngineMsg) (s : State) : Answer :=
  let w := m.window.toNat
  let n := m.batchLimit.toNat
  let l := m.lMax.toNat
  if w < 30 ∨ 3600 < w ∨ n < 1 ∨ 16 < n ∨ l < 64 ∨ 1024 < l then refuse .outOfRange s
  else
    let t := s.setEngine { s.engine with window := w, batchLimit := n, lMax := l }
    answerOk [.u16 t.engine.window, .u8 t.engine.batchLimit, .u16 t.engine.lMax, .u8 t.engine.state.code,
      .u8 (occupiedSlots t), .u16 t.engine.nextSerial.toNat] t

/-- SET-ENGINE (R88). -/
def execSetEngine (p : Port) (tag : Byte) (b : Body SetEngineMsg) (s : State) : Host.Outcome State Fault Refusal :=
  .next (request p .setEngine tag b SetEngineMsg.bytes answerSetEngine s)

/-- The reply of ENGINE-RESTART (R109). -/
def restartBody (t : State) : List WireField :=
  [.u8 t.engine.state.code, .u8 (occupiedSlots t)]

/-- ENGINE-RESTART (R109). The engine is STOPPED only where the Dispatcher refuses the request (R108). -/
def answerEngineRestart (_ : Unit) (s : State) : Answer :=
  match s.engine.state with
  | .active =>
      let t := if occupiedSlots s = 0 then restartTakesEffect s
        else s.setEngine { s.engine with state := .quiescing }
      answerOk (restartBody t) t
  | .quiescing | .stopped => answerOk (restartBody s) s

/-- ENGINE-RESTART (R109). -/
def execEngineRestart (p : Port) (tag : Byte) (b : Body Unit) (s : State) : Host.Outcome State Fault Refusal :=
  .next (request p .engineRestart tag b noBytes answerEngineRestart s)

end Sys2Proof.Machine
end

