-- ==== Sys2Proof/Machine/Readings.lean ====
section
/-!
DEFINITION. The messages that carry a meter's registers: METER-STATUS, GRANT-APPLIED, GRANT-REJECTED and the two forms of
FINAL-READING, with the completion of a retirement and RETIRE-METER (R36, R92 to R104, R130 to R142), and RESUME-METER
(R189 to R191).
-/

namespace Sys2Proof.Machine

/-! ## Status reports (R36, R37, R103, R104) -/

/-- A METER-STATUS taken while the meter holds an OFFERED grant (R103). -/
def statusWhileOffered (m : MeterId) (g : Grant) (rd : Report) (s : State) : Judged :=
  match judgeOffered (s.meter m) g.amount rd with
  | .regress => inconsistentReading .registerRegress m rd s
  | .applied => { result := .consistent, found := none, raised := none, state := confirmGrant m g .none rd s }
  | .notApplied => consistentReading m rd s
  | .mismatch => inconsistentReading .totalMismatch m rd s

/-- A METER-STATUS taken while the meter holds a DOUBTFUL grant (R104). -/
def statusWhileDoubtful (m : MeterId) (g : Grant) (rd : Report) (s : State) : Judged :=
  match judgeOutcome (s.meter m) g.amount rd with
  | .regress => inconsistentReading .registerRegress m rd s
  | .applied => { result := .consistent, found := none, raised := none, state := confirmGrant m g .none rd s }
  | .notApplied =>
      { result := .consistent, found := none, raised := none, state := releaseGrant m g .none (some rd) s }
  | .mismatch => inconsistentReading .totalMismatch m rd s

/-- A status report from a meter in ACTIVE, SILENT, SUSPENDED or DRAINING (R36). -/
def statusReport (m : MeterId) (rd : Report) (s : State) : Judged :=
  match (s.meter m).grant with
  | none => judgeWithoutGrant m rd s
  | some g => if g.isOffered then statusWhileOffered m g rd s else statusWhileDoubtful m g rd s

/-! ## Retirement (R133 to R141) -/

/-- A retirement added to the retirement report list, or the figures of an entry already there replaced (R141). -/
def reportRetirement (e : RetireEntry) (s : State) : State :=
  let l := s.retireList
  s.setRetireList
    (if l.any (fun x => x.meter == e.meter) then
      l.map (fun x => if x.meter = e.meter then { e with unreported := true } else x)
    else l ++ [e])

/-- The entry of a retirement that completes now (R141). -/
def retireEntry (m : MeterId) (delta : Int) (s : State) : RetireEntry :=
  { meter := m, branch := (s.meter m).branch, finalAr := (s.meter m).arMirror, swept := (s.meter m).drMirror,
    delta := delta, time := s.timeBase, unreported := false, sampled := false }

/-- Steps 2 to 4 of R136, after the reading has been accepted: the sweep, RETIRED and the report. -/
def completeRetirement (m : MeterId) (delta : Int) (s : State) : State :=
  let x := (s.meter m).drMirror
  let swept := poolSweep x (bankSweep x s)
  setCondition .retire
    (reportRetirement (retireEntry m delta s) (modMeter m (fun r => { r with state := .retired }) swept))

/-- What a final reading gives (R140). -/
structure Final where
  retired : Bool
  raised : Option FaultKind
  /-- The result of the DOUBTFUL grant, or none when no grant was held. -/
  grantResult : Result
  delta : Int
  swept : Nat
  state : State
deriving DecidableEq, Repr

/-- A consistent final reading, accepted already, completes the retirement (R136). -/
def finalConsistent (m : MeterId) (grantResult : Result) (delta : Int) (accepted : State) : Final :=
  { retired := true, raised := none, grantResult := grantResult, delta := delta,
    swept := (accepted.meter m).drMirror, state := completeRetirement m delta accepted }

/-- An inconsistent final reading halts the retirement (R137). -/
def finalInconsistent (kind : FaultKind) (m : MeterId) (rd : Report) (s : State) : Final :=
  let j := inconsistentReading kind m rd s
  { retired := false, raised := j.raised,
    grantResult := if (s.meter m).grant.isSome then .unresolved else .none,
    delta := 0, swept := 0, state := j.state }

/-- A final reading of a meter with no unresolved grant (R134). -/
def finalWithoutGrant (m : MeterId) (rd : Report) (s : State) : Final :=
  if rd.ar < (s.meter m).arMirror then finalInconsistent .registerRegress m rd s
  else if rd.total = (s.meter m).ct then finalConsistent m .none 0 (acceptReading m rd s)
  else finalInconsistent .finalMismatch m rd s

/-- A final reading of a meter holding a DOUBTFUL grant; it is settled first, with the carrier's claim (R133, R135). -/
def finalWithGrant (m : MeterId) (g : Grant) (claim : Claim) (rd : Report) (s : State) : Final :=
  match judgeOutcome (s.meter m) g.amount rd with
  | .regress => finalInconsistent .registerRegress m rd s
  | .notApplied => finalConsistent m .reversed 0 (releaseGrant m g claim (some rd) s)
  | .applied => finalConsistent m .applied 0 (confirmGrant m g claim rd s)
  | .mismatch => finalInconsistent .finalMismatch m rd s

/-- A final reading of a meter in AWAITING-READING (R133 to R137). -/
def finalReading (m : MeterId) (claim : Claim) (rd : Report) (s : State) : Final :=
  match (s.meter m).grant with
  | none => finalWithoutGrant m rd s
  | some g => finalWithGrant m g claim rd s

/-- The body of the reply to any message taken as a final reading (R140). -/
def finalBody (m : MeterId) (f : Final) : List WireField :=
  [.u8 (if f.retired then Result.retired else Result.inconsistent).code, faultField f.raised, .u8 f.grantResult.code,
   .s64 f.delta, .u48 f.swept] ++ standingFields f.state m

/-- METER-STATUS by the meter's record (R36). -/
def statusOn (m : MeterId) (rd : Report) (s : State) : Answer :=
  match (s.meter m).state with
  | .vacant | .retired => refuse .unknownMeter s
  | .awaitingReading =>
      let f := finalReading m .none rd s
      answerOk (finalBody m f) f.state
  | .active | .silent | .suspended | .draining =>
      let j := statusReport m rd s
      answerOk (statusBody m j) j.state

/-- The report a METER-STATUS or a FINAL-READING carries. -/
def reportOf (m : ReadingMsg) : Report :=
  { ar := m.ar.toNat, dr := m.dr.toNat, labels := m.labels }

/-- METER-STATUS (R36). -/
def answerMeterStatus (m : ReadingMsg) (s : State) : Answer :=
  match meterOf m.meter with
  | none => refuse .outOfRange s
  | some meter => statusOn meter (reportOf m) s

/-- METER-STATUS (R36). -/
def execMeterStatus (p : Port) (tag : Byte) (b : Body ReadingMsg) (s : State) : Host.Outcome State Fault Refusal :=
  .next (request p .meterStatus tag b ReadingMsg.bytes answerMeterStatus s)

/-- The plain FINAL-READING by the meter's record (R133). -/
def plainFinalOn (m : MeterId) (rd : Report) (s : State) : Answer :=
  match (s.meter m).state with
  | .vacant | .retired => refuse .unknownMeter s
  | .awaitingReading =>
      let f := finalReading m .none rd s
      answerOk (finalBody m f) f.state
  | .active | .silent | .suspended | .draining => refuse .badState s

/-- FINAL-READING in its plain form (R133). -/
def answerFinalReading (m : ReadingMsg) (s : State) : Answer :=
  match meterOf m.meter with
  | none => refuse .outOfRange s
  | some meter => plainFinalOn meter (reportOf m) s

/-- FINAL_READING: the plain form, on the Operations port (R133). -/
def execFinalReading (tag : Byte) (b : Body ReadingMsg) (s : State) : Host.Outcome State Fault Refusal :=
  .next (request .operations .finalReading tag b ReadingMsg.bytes answerFinalReading s)

/-! ## Audit actions on a meter (R138, R139, R189 to R191) -/

/-- Releases a meter's unresolved grant without a reading, the claim none (R139 step 1, R190 step 1). -/
def releaseByAudit (m : MeterId) (s : State) : State :=
  match (s.meter m).grant with
  | some g => releaseGrant m g .none none s
  | none => s

/-- The adjustment by Δ that makes a meter's CT a new total: pool, credited, CT and bank; none for Δ 0 (R139 step 2, R190
step 2). -/
def adjustMeter (m : MeterId) (delta : Int) (total : Nat) (s : State) : State :=
  if delta = 0 then s
  else
    modMeter m (fun r => { r with credited := r.credited + delta, ct := total })
      (poolAdjust delta (bankAdjustment delta s))

/-- The amount of a meter's unresolved grant, 0 when none is held (R138, R189). -/
def grantAmount (r : Meter) : Nat :=
  (r.grant.map Grant.amount).getD 0

/-- Δ = RT − CT (R138, R189). -/
def deltaOf (r : Meter) (x : Reading) : Int :=
  ((x.ar + x.dr : Nat) : Int) - (r.ct : Int)

/-- The result a reply gives for a grant released by an audit action (R140, R190). -/
def auditGrantResult (r : Meter) : Result :=
  if r.grant.isSome then .reversed else .none

/-- The adjusting FINAL-READING of a meter in AWAITING-READING (R138 check 4, R139). -/
def adjustOn (m : MeterId) (rd : Report) (s : State) : Answer :=
  let r := s.meter m
  let delta := deltaOf r rd.reading
  if Config.maxFigure < rd.total then refuse .outOfRange s
  else if !adjustmentCovered s (grantAmount r) delta then refuse .limit s
  else
    let settled := adjustMeter m delta rd.total (releaseByAudit m s)
    let f := finalConsistent m (auditGrantResult r) delta (acceptReading m rd settled)
    answerOk (finalBody m f) f.state

/-- The adjusting FINAL-READING by the meter's record (R138). -/
def adjustingFinalOn (m : MeterId) (rd : Report) (s : State) : Answer :=
  match (s.meter m).state with
  | .vacant | .retired => refuse .unknownMeter s
  | .awaitingReading => adjustOn m rd s
  | .active | .silent | .suspended | .draining => refuse .badState s

/-- FINAL-READING in its adjusting form (R138). -/
def answerAdjustingFinalReading (m : ReadingMsg) (s : State) : Answer :=
  match meterOf m.meter with
  | none => refuse .outOfRange s
  | some meter => adjustingFinalOn meter (reportOf m) s

/-- ADJUSTING_FINAL_READING: the adjusting form, on the Audit port (R133, R138). -/
def execAdjustingFinalReading (tag : Byte) (b : Body ReadingMsg) (s : State) : Host.Outcome State Fault Refusal :=
  .next (request .audit .finalReading tag b ReadingMsg.bytes answerAdjustingFinalReading s)

/-- A resumed meter is ACTIVE with its supervision timer started (R190 step 6, R191). -/
def reactivate (m : MeterId) (s : State) : State :=
  startSupervision m (modMeter m (fun r => { r with state := .active }) s)

/-- The re-baselining of a meter on its last rejected reading (R190). -/
def rebaseline (m : MeterId) (x : Reading) (delta : Int) (s : State) : State :=
  let settled := adjustMeter m delta (x.ar + x.dr) (releaseByAudit m s)
  let used := recordUsage (settled.meter m).branch (x.ar - (settled.meter m).arMirror) settled
  reactivate m (modMeter m (fun r => { r with arMirror := x.ar, drMirror := x.dr, rejected := none }) used)

/-- The body of the RESUME-METER reply (R190, R191).
DESIGN CHOICE (notes/assumptions/14.md): a meter without a rejected reading, for which R191 lists delta 0, the state, CT and
the mirrors, is answered with the same layout as R190's: its number and the result none come first. -/
def resumeBody (m : MeterId) (grantResult : Result) (delta : Int) (t : State) : List WireField :=
  [.u8 m.val, .u8 grantResult.code, .s64 delta] ++ standingFields t m

/-- RESUME-METER of a SUSPENDED meter (R189 checks 4 and 5, R190, R191). -/
def resumeSuspended (m : MeterId) (s : State) : Answer :=
  let r := s.meter m
  match r.rejected with
  | none =>
      let t := reactivate m s
      answerOk (resumeBody m .none 0 t) t
  | some x =>
      let delta := deltaOf r x
      if r.grant.any Grant.isOffered then refuse .busy s
      else if Config.maxFigure < x.ar + x.dr then refuse .outOfRange s
      else if !adjustmentCovered s (grantAmount r) delta then refuse .limit s
      else
        let t := rebaseline m x delta s
        answerOk (resumeBody m (auditGrantResult r) delta t) t

/-- RESUME-METER by the meter's record (R189). -/
def resumeOn (m : MeterId) (s : State) : Answer :=
  match (s.meter m).state with
  | .vacant | .retired => refuse .unknownMeter s
  | .suspended => resumeSuspended m s
  | .active | .silent | .draining | .awaitingReading => refuse .badState s

/-- RESUME-METER (R189). -/
def answerResumeMeter (m : MeterMsg) (s : State) : Answer :=
  match meterOf m.meter with
  | none => refuse .outOfRange s
  | some meter => resumeOn meter s

/-- RESUME-METER (R189). -/
def execResumeMeter (p : Port) (tag : Byte) (b : Body MeterMsg) (s : State) : Host.Outcome State Fault Refusal :=
  .next (request p .resumeMeter tag b MeterMsg.bytes answerResumeMeter s)

/-! ## Outcome messages (R92 to R100) -/

/-- A claim disagrees with the result the registers show (R97). -/
def Claim.disagrees (c : Claim) (result : GrantResult) : Bool :=
  match c, result with
  | .applied, .reversed => true
  | .rejected _, .applied => true
  | _, _ => false

/-- CLAIM-MISMATCH, raised after the resolution with the CT from before it (R97). -/
def claimFault (m : MeterId) (ct : Nat) (g : Grant) (rd : Report) (s : State) : FaultRecord :=
  readingFault .claimMismatch m ct rd (some g) s

/-- SERIAL-UNKNOWN, with the serial of the message, the grant-valid mark clear and the CT after the handling (R99). -/
def serialFault (m : MeterId) (serial : Word16) (rd : Report) (s : State) : FaultRecord :=
  { readingFault .serialUnknown m (s.meter m).ct rd none s with serial := serial }

/-- What an outcome message gives (R100). -/
structure OutcomeAnswer where
  result : Result
  unknownSerial : Bool
  claimMismatch : Bool
  raised : Option FaultKind
  state : State
deriving DecidableEq, Repr

/-- A resolution made in full, and then CLAIM-MISMATCH where the claim disagrees (R97). -/
def compareClaim (m : MeterId) (g : Grant) (claim : Claim) (result : GrantResult) (rd : Report) (ct : Nat)
    (resolved : State) : OutcomeAnswer :=
  if claim.disagrees result then
    { result := result.asResult, unknownSerial := false, claimMismatch := true,
      raised := raisedKind resolved .claimMismatch,
      state := handFault (claimFault m ct g rd resolved) resolved }
  else
    { result := result.asResult, unknownSerial := false, claimMismatch := false, raised := none, state := resolved }

/-- An outcome message with inconsistent registers: the grant stays unresolved and an OFFERED one becomes DOUBTFUL, the
reading is kept as rejected, and the fault is handed over last (R96). -/
def outcomeInconsistent (kind : FaultKind) (m : MeterId) (g : Grant) (rd : Report) (s : State) : OutcomeAnswer :=
  let doubtful := afterSlotFreed g (leaveDraining m (rejectReading m rd (makeDoubtful m g s)))
  { result := .unresolved, unknownSerial := false, claimMismatch := false, raised := raisedKind doubtful kind,
    state := handFault (readingFault kind m (s.meter m).ct rd (some g) doubtful) doubtful }

/-- An outcome message that names the meter's unresolved grant (R93 to R97). -/
def outcomeNamed (m : MeterId) (g : Grant) (claim : Claim) (rd : Report) (s : State) : OutcomeAnswer :=
  let ct := (s.meter m).ct
  match judgeOutcome (s.meter m) g.amount rd with
  | .regress => outcomeInconsistent .registerRegress m g rd s
  | .notApplied => compareClaim m g claim .reversed rd ct (releaseGrant m g claim (some rd) s)
  | .applied => compareClaim m g claim .applied rd ct (confirmGrant m g claim rd s)
  | .mismatch => outcomeInconsistent .totalMismatch m g rd s

/-- An outcome message taken as a status report, after which SERIAL-UNKNOWN is raised (R99). -/
def outcomeUnknown (m : MeterId) (serial : Word16) (rd : Report) (s : State) : OutcomeAnswer :=
  let j := statusReport m rd s
  { result := j.result, unknownSerial := true, claimMismatch := false, raised := some .serialUnknown,
    state := handFault (serialFault m serial rd j.state) j.state }

/-- The serial of an outcome message is that of the meter's unresolved grant (R92). -/
def namesGrant (r : Meter) (serial : Word16) : Option Grant :=
  r.grant.filter (fun g => g.serial == serial)

/-- The body of the reply to an outcome message (R100). -/
def outcomeBody (m : MeterId) (o : OutcomeAnswer) : List WireField :=
  [.u8 o.result.code, flag o.unknownSerial, flag o.claimMismatch, faultField o.raised] ++ standingFields o.state m ++
    optional (o.state.meter m).grant (fun g => [.u8 g.phase.code])

/-- An outcome message for a meter in service (R92). -/
def outcomeInService (m : MeterId) (serial : Word16) (claim : Claim) (rd : Report) (s : State) : Answer :=
  let o :=
    match namesGrant (s.meter m) serial with
    | some g => outcomeNamed m g claim rd s
    | none => outcomeUnknown m serial rd s
  answerOk (outcomeBody m o) o.state

/-- The marks that an outcome message taken as a final reading adds to the reply of R140: the claim mismatch, the unknown
serial, and the kind SERIAL-UNKNOWN.
DESIGN CHOICE (notes/assumptions/14.md): the two marks and the kind are always there, and the kind is 0 when the unknown-serial
mark is clear. -/
def finalOutcomeBody (m : MeterId) (f : Final) (mismatch unknown : Bool) : List WireField :=
  finalBody m f ++ [flag mismatch, flag unknown, faultField (if unknown then some .serialUnknown else none)]

/-- The result of a DOUBTFUL grant that a final reading resolved. -/
def Final.resolved (f : Final) : Option GrantResult :=
  match f.grantResult with
  | .applied => some .applied
  | .reversed => some .reversed
  | _ => none

/-- A named DOUBTFUL grant: the registers are judged once, as the final reading, and the claim is compared with what they
showed (R92, R97, R133, R135). -/
def outcomeFinalNamed (m : MeterId) (g : Grant) (claim : Claim) (rd : Report) (s : State) : Answer :=
  let f := finalReading m claim rd s
  if f.resolved.any claim.disagrees then
    let t := handFault (claimFault m (s.meter m).ct g rd f.state) f.state
    let shown := { f with raised := raisedKind f.state .claimMismatch, state := t }
    answerOk (finalOutcomeBody m shown true false) t
  else answerOk (finalOutcomeBody m f false false) f.state

/-- A serial that names no grant of a meter in AWAITING-READING: the registers are judged once, as the final reading, and
SERIAL-UNKNOWN is then raised (R92, R133). -/
def outcomeFinalUnknown (m : MeterId) (serial : Word16) (rd : Report) (s : State) : Answer :=
  let f := finalReading m .none rd s
  let t := handFault (serialFault m serial rd f.state) f.state
  answerOk (finalOutcomeBody m { f with state := t } false true) t

/-- An outcome message by the meter's record (R92). -/
def outcomeOn (m : MeterId) (serial : Word16) (claim : Claim) (rd : Report) (s : State) : Answer :=
  match (s.meter m).state with
  | .vacant | .retired => refuse .unknownMeter s
  | .awaitingReading =>
      match namesGrant (s.meter m) serial with
      | some g => outcomeFinalNamed m g claim rd s
      | none => outcomeFinalUnknown m serial rd s
  | .active | .silent | .suspended | .draining => outcomeInService m serial claim rd s

/-- GRANT-APPLIED (R92). -/
def answerGrantApplied (m : AppliedMsg) (s : State) : Answer :=
  match meterOf m.meter with
  | none => refuse .outOfRange s
  | some meter => outcomeOn meter m.serial .applied { ar := m.ar.toNat, dr := m.dr.toNat, labels := m.labels } s

/-- GRANT-APPLIED (R92). -/
def execGrantApplied (p : Port) (tag : Byte) (b : Body AppliedMsg) (s : State) : Host.Outcome State Fault Refusal :=
  .next (request p .grantApplied tag b AppliedMsg.bytes answerGrantApplied s)

/-- GRANT-REJECTED (R92). -/
def answerGrantRejected (m : RejectedMsg) (s : State) : Answer :=
  match meterOf m.meter with
  | none => refuse .outOfRange s
  | some meter =>
      outcomeOn meter m.serial (.rejected m.reason) { ar := m.ar.toNat, dr := m.dr.toNat, labels := m.labels } s

/-- GRANT-REJECTED (R92). -/
def execGrantRejected (p : Port) (tag : Byte) (b : Body RejectedMsg) (s : State) : Host.Outcome State Fault Refusal :=
  .next (request p .grantRejected tag b RejectedMsg.bytes answerGrantRejected s)

/-! ## RETIRE-METER (R130, R131) -/

/-- A taken RETIRE-METER: the request is dropped, both timers stop, and the meter enters DRAINING while its grant is
OFFERED and AWAITING-READING otherwise (R130, R131). -/
def beginRetirement (m : MeterId) (s : State) : State :=
  let next := if (s.meter m).grant.any Grant.isOffered then MeterState.draining else .awaitingReading
  modMeter m (fun r => { r with supervision := none, holdOff := none, state := next }) (dropRequest m s)

/-- The reply of RETIRE-METER (R130). -/
def retireBody (m : MeterId) (t : State) : List WireField :=
  [.u8 m.val, .u8 (t.meter m).state.code] ++
    optional (t.meter m).grant (fun g => [.u16 g.serial.toNat, .u48 g.amount, .u8 g.phase.code])

/-- RETIRE-METER by the meter's record (R130). -/
def retireOn (m : MeterId) (s : State) : Answer :=
  match (s.meter m).state with
  | .vacant | .retired => refuse .unknownMeter s
  | .active | .silent | .suspended =>
      let t := beginRetirement m s
      answerOk (retireBody m t) t
  | .draining | .awaitingReading => answerOk (retireBody m s) s

/-- RETIRE-METER (R130). -/
def answerRetireMeter (m : MeterMsg) (s : State) : Answer :=
  match meterOf m.meter with
  | none => refuse .outOfRange s
  | some meter => retireOn meter s

/-- RETIRE-METER (R130). -/
def execRetireMeter (p : Port) (tag : Byte) (b : Body MeterMsg) (s : State) : Host.Outcome State Fault Refusal :=
  .next (request p .retireMeter tag b MeterMsg.bytes answerRetireMeter s)

/-- The entries that a RETIRE notice carries when it is sampled (R141). -/
def retirePage (s : State) : List RetireEntry :=
  s.retireList.take Config.reportPage

/-- The body of the RETIRE notice (R141). -/
def retireNoticeBody (s : State) : List WireField :=
  .u8 (retirePage s).length ::
    (retirePage s).flatMap (fun e =>
      [.u8 e.meter.val, .u8 e.branch.val, .u48 e.finalAr, .u48 e.swept, .s64 e.delta, .u32 e.time.toNat,
       flag e.unreported])

end Sys2Proof.Machine
end

