-- ==== Sys2Proof/Machine/Arbiter.lean ====
section
/-!
DEFINITION. The Branch Table and the Refill Arbiter: CONFIGURE-BRANCH, SET-URGENCY-MAP, REFILL-REQUEST and QUERY-BRANCH
(R46 to R57, R68), the grant computation (R70 to R83), the processing of a list entry (R118 to R122), and the selection
(R60 to R67).
-/

namespace Sys2Proof.Machine

/-! ## CONFIGURE-BRANCH (R46, R48) -/

/-- The period allowance a CONFIGURE-BRANCH carries: absent, or a figure in its range (R46, checks 2 and 4). -/
def allowanceOf (mark : Byte) (a : Nat) : Option (Option Nat) :=
  match boolOf mark with
  | none => none
  | some false => some none
  | some true => if a = 0 ∨ Config.maxLimit < a then none else some (some a)

/-- A as R48 gives it when the period allowance becomes `a`. -/
def allowanceAfter (before : Option Allowance) (a : Option Nat) : Option Allowance :=
  match a with
  | none => none
  | some period =>
      match before with
      | none => some { period := period, remaining := period }
      | some k => some { period := period, remaining := min k.remaining period }

/-- The configuration of a branch that a CONFIGURE-BRANCH carries, once its fields have been checked (R46). -/
structure BranchConfig where
  cls : Priority
  weight : Nat
  batch : Bool
  suspended : Bool
  allowance : Option Nat
deriving DecidableEq, Repr

/-- The configuration a CONFIGURE-BRANCH carries, if every field is accepted (R46, checks 2 to 4). -/
def branchConfigOf (m : ConfigureBranchMsg) : Option BranchConfig :=
  match priorityOf m.cls, boolOf m.batch, boolOf m.suspended, allowanceOf m.allowancePresent m.allowance.toNat with
  | some cls, some batch, some suspended, some allowance =>
      if m.weight.toNat = 0 ∨ 64 < m.weight.toNat then none
      else some { cls := cls, weight := m.weight.toNat, batch := batch, suspended := suspended, allowance := allowance }
  | _, _, _, _ => none

/-- A branch with its configuration replaced; pace and the pending order keep their values (R46 to R48). -/
def Branch.configure (b : Branch) (k : BranchConfig) : Branch :=
  { b with configured := true, cls := k.cls, weight := k.weight, batch := k.batch, suspended := k.suspended,
           allowance := allowanceAfter b.allowance k.allowance }

/-- The fields of a branch record as replies give them (R46, R68). -/
def branchFields (b : Branch) : List WireField :=
  [flag b.configured, .u8 b.cls.code, .u8 b.weight, flag b.batch, flag b.suspended] ++
    optional b.allowance (fun a => [.u48 a.period, .u48 a.remaining]) ++ [.u8 b.pace]

/-- CONFIGURE-BRANCH (R46). -/
def answerConfigureBranch (m : ConfigureBranchMsg) (s : State) : Answer :=
  match branchOf m.branch, branchConfigOf m with
  | some b, some k =>
      let t := modBranch b (fun x => x.configure k) s
      answerOk (.u8 b.val :: branchFields (t.branch b) ++ [.u8 (t.branch b).order.length]) t
  | _, _ => refuse .outOfRange s

/-- CONFIGURE-BRANCH (R46). -/
def execConfigureBranch (p : Port) (tag : Byte) (b : Body ConfigureBranchMsg) (s : State) :
    Host.Outcome State Fault Refusal :=
  .next (request p .configureBranch tag b ConfigureBranchMsg.bytes answerConfigureBranch s)

/-! ## SET-URGENCY-MAP (R53) -/

/-- The map as replies give it, one priority for each urgency (R53, R68). -/
def urgencyMapFields (map : Vector Priority 8) : List WireField :=
  map.toList.map (fun x => .u8 x.code)

/-- SET-URGENCY-MAP (R53). -/
def answerSetUrgencyMap (m : UrgencyMapMsg) (s : State) : Answer :=
  if m.entries.toList.any (fun x => (priorityOf x).isNone) then refuse .outOfRange s
  else
    let t := s.setUrgencyMap (mapAll (fun x => (priorityOf x).getD .low) m.entries)
    answerOk (urgencyMapFields t.urgencyMap) t

/-- SET-URGENCY-MAP (R53). -/
def execSetUrgencyMap (p : Port) (tag : Byte) (b : Body UrgencyMapMsg) (s : State) : Host.Outcome State Fault Refusal :=
  .next (request p .setUrgencyMap tag b UrgencyMapMsg.bytes answerSetUrgencyMap s)

/-! ## REFILL-REQUEST (R54 to R56) -/

/-- A new request joins the end of its branch's pending order (R55). -/
def joinOrder (m : MeterId) (r : PendingRequest) (s : State) : State :=
  modBranch (s.meter m).branch (fun b => { b with order := b.order ++ [m] })
    (modMeter m (fun x => { x with pendingReq := some r }) s)

/-- A replacement takes the new amount and urgency and keeps its place (R56). -/
def replaceRequest (m : MeterId) (r : PendingRequest) (s : State) : State :=
  modMeter m (fun x => { x with pendingReq := some r }) s

/-- The QUEUED reply of a REFILL-REQUEST (R55, R56).
DEDUCED (notes/assumptions/24.md): one byte serves both rules, 1 for R55's mark of a new request and 0 for R56's mark that it
replaced an earlier one. -/
def queuedBody (m : MeterId) (isNew : Bool) (t : State) : List WireField :=
  let r := t.meter m
  [.u8 m.val, .u8 r.branch.val, .u8 (positionOf t m), .u8 (t.branch r.branch).order.length, flag isNew,
   .u32 (timerLeft t.timeBase r.holdOff)]

/-- A REFILL-REQUEST accepted from an ACTIVE meter with no unresolved grant (R55, R56). -/
def acceptRequest (m : MeterId) (r : PendingRequest) (s : State) : Answer :=
  if (s.meter m).pendingReq.isSome then
    let t := replaceRequest m r s
    { status := .queued, body := queuedBody m false t, state := t }
  else
    let t := joinOrder m r s
    { status := .queued, body := queuedBody m true t, state := t }

/-- REFILL-REQUEST by the meter's record, once Q and the urgency have been accepted (R54). -/
def refillOn (m : MeterId) (r : PendingRequest) (s : State) : Answer :=
  match (s.meter m).state with
  | .vacant | .retired => refuse .unknownMeter s
  | .silent => refuse .silent s
  | .suspended => refuse .suspended s
  | .draining | .awaitingReading => refuse .badState s
  | .active => if (s.meter m).grant.isSome then refuse .busy s else acceptRequest m r s

/-- REFILL-REQUEST (R54). -/
def answerRefillRequest (m : RefillMsg) (s : State) : Answer :=
  match meterOf m.meter with
  | none => refuse .outOfRange s
  | some meter =>
      if (s.meter meter).state = .vacant ∨ (s.meter meter).state = .retired then refuse .unknownMeter s
      else
        match urgencyOf m.urgency with
        | none => refuse .outOfRange s
        | some u =>
            if m.q.toNat = 0 ∨ Config.maxGrant < m.q.toNat then refuse .outOfRange s
            else refillOn meter { q := m.q.toNat, urgency := u } s

/-- REFILL-REQUEST (R54). -/
def execRefillRequest (p : Port) (tag : Byte) (b : Body RefillMsg) (s : State) : Host.Outcome State Fault Refusal :=
  .next (request p .refillRequest tag b RefillMsg.bytes answerRefillRequest s)

/-! ## QUERY-BRANCH (R68) -/

/-- One entry of a pending order (R68). -/
def orderFields (s : State) (m : MeterId) : List WireField :=
  let r := s.meter m
  [.u8 m.val, .u48 (r.pendingReq.elim 0 PendingRequest.q), .u8 (r.pendingReq.elim 0 (fun x => x.urgency.val)),
   .u8 (r.pendingReq.elim 0 (fun x => (priorityOfUrgency s x.urgency).code)), flag (eligible s m),
   .u32 (timerLeft s.timeBase r.holdOff)]

/-- The body of the QUERY-BRANCH reply (R68).
DESIGN CHOICE (notes/assumptions/14.md): R68 lists the entries of the pending order and no count of them; the reply gives their
count, 1 byte, before the first entry, since the fields after them could not be found without it. -/
def branchBody (s : State) (b : BranchId) : List WireField :=
  let r := s.branch b
  branchFields r ++ [.u8 (enrolledAt s b), .u8 r.order.length] ++ r.order.flatMap (orderFields s) ++
    urgencyMapFields s.urgencyMap ++ [.u8 s.arbiter.high.val, .u8 s.arbiter.low.val] ++
    optional s.arbiter.holder (fun h => [.u8 h.1.val]) ++ [.u8 s.arbiter.counter]

/-- QUERY-BRANCH (R68). -/
def answerQueryBranch (m : BranchMsg) (s : State) : Answer :=
  match branchOf m.branch with
  | none => refuse .outOfRange s
  | some b => answerOk (branchBody s b) s

/-- QUERY-BRANCH (R68). -/
def execQueryBranch (p : Port) (tag : Byte) (b : Body BranchMsg) (s : State) : Host.Outcome State Fault Refusal :=
  .next (request p .queryBranch tag b BranchMsg.bytes answerQueryBranch s)

/-! ## The grant computation (R70 to R79) -/

/-- The limits a grant is computed from; A and Rc stand only where their terms are present (R75, R79). -/
structure Terms where
  q : Nat
  headroom : Nat
  available : Nat
  allowance : Option Nat
  ration : Option Nat
deriving DecidableEq, Repr

/-- The lesser of a figure and a term that may be absent. -/
def leastOf (x : Nat) : Option Nat → Nat
  | none => x
  | some y => min x y

/-- The raw amount: the least of the terms present (R75, R79). -/
def Terms.raw (t : Terms) : Nat :=
  leastOf (leastOf (min (min t.q t.headroom) t.available) t.allowance) t.ration

/-- A term binds the raw amount: it is less than Q and equals the raw amount (R78). -/
def Terms.binds (t : Terms) (x : Nat) : Bool :=
  decide (x < t.q) && decide (x = t.raw)

/-- The cause of a SHORT refusal, in the fixed order of R78 (and of R79 for an entry). -/
def Terms.cause (t : Terms) : Cause :=
  if t.binds t.headroom then .ceiling
  else if t.allowance.any t.binds then .allowance
  else if t.binds t.available then .pool
  else if t.ration.any t.binds then .ration
  else .minimum

/-- H = C − K_m when C exceeds K_m, and 0 otherwise; K_m is the DR mirror (R72). -/
def headroomOf (r : Meter) : Nat :=
  r.settings.ceiling - r.drMirror

/-- Rc = floor(V × W / 64) when rationing applies (R74). -/
def rationCap (pool : Pool) (weight : Nat) : Option Nat :=
  if 0 < pool.threshold ∧ pool.available < pool.threshold then some (pool.available * weight / 64) else none

/-- The terms of the branch form (R75). -/
def branchTerms (s : State) (m : MeterId) (q : Nat) : Terms :=
  let b := s.branch (s.meter m).branch
  { q := q, headroom := headroomOf (s.meter m), available := s.pool.available,
    allowance := b.allowance.map Allowance.remaining, ration := rationCap s.pool b.weight }

/-- The terms of the list form (R79). -/
def listTerms (s : State) (m : MeterId) (q : Nat) : Terms :=
  { q := q, headroom := headroomOf (s.meter m), available := s.pool.available, allowance := none, ration := none }

/-- The largest multiple of the step that does not exceed the raw amount (R76). -/
def roundDown (step raw : Nat) : Nat :=
  raw / step * step

/-! ## Reservation and refusal of a branch request (R81, R83) -/

/-- A falls by Ga where the branch has an allowance (R49). -/
def consumeAllowance (b : BranchId) (x : Nat) (s : State) : State :=
  modBranch b
    (fun k => { k with allowance := k.allowance.map (fun a => { a with remaining := a.remaining - x }) }) s

/-- The reservation of a branch grant (R81). -/
def reserveForRequest (m : MeterId) (x : Nat) (s : State) : State :=
  offerGrant m x .request (removeRequest m (consumeAllowance (s.meter m).branch x (poolReserve x s)))

/-- The refusal SHORT of a branch request (R83). -/
def refuseShort (m : MeterId) (cause : Cause) (s : State) : State :=
  let b := (s.meter m).branch
  enqueue .operations (.refillRefused m cause)
    (bankShort b (modBranch b (fun k => { k with pace := Config.fullPace }) (removeRequest m s)))

/-- A selected request is granted or refused SHORT (R75 to R78). -/
def serveRequest (m : MeterId) (s : State) : State :=
  match (s.meter m).pendingReq with
  | none => s
  | some r =>
      let t := branchTerms s m r.q
      let x := roundDown (s.meter m).settings.step t.raw
      if x = 0 ∨ x < (s.meter m).settings.minimum then refuseShort m t.cause s else reserveForRequest m x s

/-! ## Processing a list entry (R118 to R122) -/

/-- A pending request ended by a list entry (R120). -/
def supersede (m : MeterId) (s : State) : State :=
  if (s.meter m).pendingReq.isSome then
    enqueue .operations (.refillRefused m .superseded) (removeRequest m s)
  else s

/-- The reservation of a list grant; the entry becomes OFFERED and records the serial (R82). -/
def reserveForEntry (n : Nat) (m : MeterId) (x : Nat) (s : State) : State :=
  modEntry n (fun e => { e with outcome := .offered, serial := some (takenSerial s) })
    (offerGrant m x (.list (some n)) (poolReserve x s))

/-- An entry found SHORT; under stop-on-short with a WAITING entry after it the list halts (R121). -/
def entryShort (n : Nat) (e : Entry) (cause : Cause) (s : State) : State :=
  let t := finishEntry n (.short cause) s
  if e.stopOnShort ∧ (s.list.entries.drop (n + 1)).any (fun x => x.outcome == .waiting) then haltList t else t

/-- The list form of the computation for an entry whose meter is ACTIVE with no grant and no request (R121). -/
def computeEntry (n : Nat) (e : Entry) (s : State) : State :=
  let t := listTerms s e.meter e.q
  let x := roundDown (s.meter e.meter).settings.step t.raw
  if x = 0 then entryShort n e t.cause s else reserveForEntry n e.meter x s

/-- The processing of one entry up to its outcome (R119 to R121). -/
def processEntry (n : Nat) (e : Entry) (s : State) : State :=
  if (s.meter e.meter).state ≠ .active then finishEntry n (.skippedState (s.meter e.meter).state) s
  else if (s.meter e.meter).grant.isSome then finishEntry n .skippedBusy s
  else computeEntry n e (supersede e.meter s)

/-- The next entry moves to the following one (R118). -/
def advanceEntry (s : State) : State :=
  s.setList { s.list with next := s.list.next + 1 }

/-- A service of the List Unit: its next WAITING entry is processed, the next entry moves on, and the end of the run is
tested (R118). -/
def serveList (s : State) : State :=
  match nextWaiting s with
  | none => s
  | some e => endRun (advanceEntry (processEntry s.list.next e s))

/-! ## The selection (R60 to R67) -/

/-- A service of a requester that a ring chose (R61, R65). -/
def serve (r : Requester) (ring : Ring) (s : State) : State :=
  match requesterBranch r with
  | some b =>
      match requestFor s ring b with
      | some m => serveRequest m s
      | none => s
  | none => serveList s

/-- A holder that is not served again gives up the batch; a HALTING list that held it becomes HALTED (R66, R124). -/
def giveUpBatch (s : State) : State :=
  let t := s.setArbiter { s.arbiter with holder := none, counter := 0 }
  if listHoldsBatch s ∧ s.list.state = .halting then haltList t else t

/-- The arbiter's fields after a service that a ring search found (R63, R64, R66). -/
def arbiterAfter (s : State) (pick : Pick) : Arbiter :=
  let batch := batchOn s pick.requester
  { high := pick.high, low := pick.low, holder := if batch then some (pick.requester, pick.ring) else none,
    counter := if batch then 1 else 0 }

/-- One selection: the batch holder is served again, or the rings are searched (R61, R63, R64, R66). -/
def select (s : State) : State :=
  match continuingHolder s with
  | some h => serve h.1 h.2 (s.setArbiter { s.arbiter with counter := s.arbiter.counter + 1 })
  | none =>
      let t := giveUpBatch s
      match ringSearch t with
      | some pick => serve pick.requester pick.ring (t.setArbiter (arbiterAfter t pick))
      | none => t

/-- SELECTION: made when the six conditions of R60 stand together. -/
def execSelection (s : State) : Host.Outcome State Fault Refusal :=
  .next (whenPowered (fun s => if selectable s then select s else s) s)

end Sys2Proof.Machine
end

