-- ==== Sys2Proof/Machine/FaultMonitor.lean ====
section
/-!
DEFINITION. The Fault Monitor's commands: COMMISSION, RELEASE, CLEAR-FAULTS, SET-FAULT-POLICY and QUERY-FAULTS (R174, R182,
R183, R186, R187). The raising of a fault and lockdown entry are in Ops.lean.
-/

namespace Sys2Proof.Machine

/-- The supervision timer of an ACTIVE meter started with its own period (R31, R174). -/
def Meter.commissioned (s : State) (r : Meter) : Meter :=
  if r.state = .active then
    { r with supervision := some (expiryAfter s (r.settings.hours * Config.secondsPerHour)) }
  else r

/-- The commissioning of the part (R174). -/
def commissionPart (s : State) : State :=
  setStarted .commission false
    (((s.setMonitor { s.monitor with state := .inService }).setEngine { s.engine with state := .active }).setMeters
      (mapAll (Meter.commissioned s) s.meters))

/-- The number of configured branches (R174). -/
def configuredBranches (s : State) : Nat :=
  s.branches.toList.countP Branch.configured

/-- The number of enrolled meters of the part (R174). -/
def enrolledMeters (s : State) : Nat :=
  s.meters.toList.countP (fun r => r.state.enrolled)

/-- COMMISSION (R174). -/
def answerCommission (_ : Unit) (s : State) : Answer :=
  match s.monitor.state with
  | .uncommissioned =>
      let t := commissionPart s
      answerOk [.u8 t.monitor.state.code, .u8 t.engine.state.code, .u8 (configuredBranches t), .u8 (enrolledMeters t)] t
  | .inService | .lockdown => refuse .badState s

/-- COMMISSION (R174). -/
def execCommission (p : Port) (tag : Byte) (b : Body Unit) (s : State) : Host.Outcome State Fault Refusal :=
  .next (request p .commission tag b noBytes answerCommission s)

/-- A locked-down part returned to service (R186). -/
def releasePart (s : State) : State :=
  (s.setMonitor { s.monitor with state := .inService }).setEngine { s.engine with state := .active }

/-- RELEASE (R186). -/
def answerRelease (_ : Unit) (s : State) : Answer :=
  match s.monitor.state with
  | .lockdown =>
      let t := releasePart s
      answerOk [.u8 t.monitor.state.code, .u8 t.engine.state.code, .u8 t.monitor.log.severity.code] t
  | .uncommissioned | .inService => refuse .badState s

/-- RELEASE (R186). -/
def execRelease (p : Port) (tag : Byte) (b : Body Unit) (s : State) : Host.Outcome State Fault Refusal :=
  .next (request p .release tag b noBytes answerRelease s)

/-- The first fault record with its three marks; a field whose mark is clear holds 0, the serial excepted (R178, R183). -/
def faultRecordFields (f : FaultRecord) : List WireField :=
  [.u8 f.kind.code, .u8 f.kind.severity.code, .u32 f.time.toNat, .u48 f.ct, .u8 (f.meter.elim 0 Fin.val),
   flag f.meter.isSome, .u16 f.serial.toNat, .u48 f.amount, flag f.grantValid, .u48 (f.reading.elim 0 Reading.ar),
   .u48 (f.reading.elim 0 Reading.dr), flag f.reading.isSome]

/-- The log's fields, in the order of R178 and R183. -/
def faultLogFields (log : FaultLog) : List WireField :=
  .u8 log.severity.code :: optional log.first faultRecordFields ++
    [.u16 log.later, faultField log.lastKind, .u16 log.suppressed]

/-- CLEAR-FAULTS (R187). The reply is the log as it stood, the policy last. -/
def answerClearFaults (_ : Unit) (s : State) : Answer :=
  match s.monitor.state with
  | .inService =>
      answerOk (faultLogFields s.monitor.log ++ [.u8 s.monitor.policy.code])
        (s.setMonitor { s.monitor with log := FaultLog.empty })
  | .uncommissioned | .lockdown => refuse .badState s

/-- CLEAR-FAULTS (R187). -/
def execClearFaults (p : Port) (tag : Byte) (b : Body Unit) (s : State) : Host.Outcome State Fault Refusal :=
  .next (request p .clearFaults tag b noBytes answerClearFaults s)

/-- SET-FAULT-POLICY (R182). -/
def answerSetFaultPolicy (m : PolicyMsg) (s : State) : Answer :=
  match policyOf m.policy with
  | none => refuse .outOfRange s
  | some k =>
      let t := s.setMonitor { s.monitor with policy := k }
      answerOk [.u8 t.monitor.policy.code, .u8 t.monitor.state.code, .u8 t.monitor.log.severity.code] t

/-- SET-FAULT-POLICY (R182). -/
def execSetFaultPolicy (p : Port) (tag : Byte) (b : Body PolicyMsg) (s : State) : Host.Outcome State Fault Refusal :=
  .next (request p .setFaultPolicy tag b PolicyMsg.bytes answerSetFaultPolicy s)

/-- The body of the QUERY-FAULTS reply and of the FAULT notice (R183). -/
def faultsBody (s : State) : List WireField :=
  [.u8 s.monitor.state.code, .u8 s.engine.state.code, .u8 s.monitor.policy.code] ++ faultLogFields s.monitor.log

/-- QUERY-FAULTS (R183). -/
def answerQueryFaults (_ : Unit) (s : State) : Answer :=
  answerOk (faultsBody s) s

/-- QUERY-FAULTS (R183). -/
def execQueryFaults (p : Port) (tag : Byte) (b : Body Unit) (s : State) : Host.Outcome State Fault Refusal :=
  .next (request p .queryFaults tag b noBytes answerQueryFaults s)

end Sys2Proof.Machine
end

