-- ==== Sys2Proof/Machine/NoticeUnit.lean ====
section
/-!
DEFINITION. The Notice Unit: the queuing of a notice, SET-NOTICES and QUERY-NOTICES (R203 to R205).
-/

namespace Sys2Proof.Machine

/-- The body of the STARTED notice (R203). -/
def startedNoticeBody (s : State) : List WireField :=
  [.u8 s.notices.cause.code, flag s.notices.completed, .u8 s.monitor.state.code, .u8 s.engine.state.code,
   .u32 s.timeBase.toNat]

/-- The body of a class's notice as its owner gives it now (R5, R33, R127, R141, R158, R171, R183, R203). -/
def noticeBody (s : State) : NoticeClass → List WireField
  | .started => startedNoticeBody s
  | .fault => faultsBody s
  | .pool => poolNoticeBody s.pool
  | .reorder => reorderNoticeBody s
  | .silent => silentNoticeBody s
  | .list => listNoticeBody s
  | .period => periodNoticeBody s
  | .retire => retireNoticeBody s

/-- The list entries that a class's notice carries when it is sampled now (R33, R141, R158). -/
def noticeCarries (s : State) : NoticeClass → Carried
  | .silent => .meters ((silentPage s).map SilentEntry.meter)
  | .reorder => .pairs (reorderPage s)
  | .retire => .meters ((retirePage s).map RetireEntry.meter)
  | _ => .nothing

/-- Marks the retirement entries that the sampled page carries, and no others (R141). -/
def markSampled (s : State) : State :=
  let page := (retirePage s).map RetireEntry.meter
  s.setRetireList (s.retireList.map (fun e => { e with sampled := page.contains e.meter }))

/-- A class is queued on a port: its body is sampled and its frame takes a place (R203). -/
def queueNotice (c : NoticeClass) (p : Port) (s : State) : State :=
  let frame := OutFrame.notice c (noticeBody s c) (noticeCarries s c)
  let marked := if c = .retire then markSampled s else s
  enqueue p frame (modNotice c (fun e => { e with phase := .queued p }) marked)

/-- QUEUING_OPPORTUNITY on a port: the lowest class in code order that has one there is queued (R203). -/
def execQueuingOpportunity (p : Port) (s : State) : Host.Outcome State Fault Refusal :=
  .next (whenPowered (fun s =>
    match nextNotice s p with
    | some c => queueNotice c p s
    | none => s) s)

/-- The entries of a page that is reported leave the retirement list; one replaced after sampling stays with its unreported
mark cleared (R141). -/
def RetireEntry.afterReport (ms : List MeterId) (e : RetireEntry) : Option RetireEntry :=
  if ms.contains e.meter then if e.sampled then none else some { e with unreported := false } else some e

/-- What the full transmission of a class's notice does to its owner's list: the carried entries leave it, and while
entries remain the condition is set again (R33, R141, R158). -/
def pageReported (c : NoticeClass) (carried : Carried) (s : State) : State :=
  match c, carried with
  | .silent, .meters ms =>
      let left := s.silentList.filter (fun e => !ms.contains e.meter)
      let t := s.setSilentList left
      if left.isEmpty then t else setCondition .silent t
  | .retire, .meters ms =>
      let left := s.retireList.filterMap (RetireEntry.afterReport ms)
      let t := s.setRetireList left
      if left.isEmpty then t else setCondition .retire t
  | .reorder, .pairs ps =>
      let left := s.stock.reorder.filter (fun x => !ps.contains x)
      let t := s.setStock { s.stock with reorder := left }
      if left.isEmpty then t else setCondition .reorder t
  | _, _ => s

/-- The full transmission of a frame, for the Notice Unit and the owner of the class (R203). -/
def noticeSent (f : OutFrame) (s : State) : State :=
  match f with
  | .notice c _ carried =>
      pageReported c carried (modNotice c (fun e => { e with phase := e.phase.afterTransmission }) s)
  | _ => s

/-! ## SET-NOTICES and QUERY-NOTICES (R204, R205) -/

/-- One class as QUERY-NOTICES gives it (R205). -/
def noticeFields (e : NoticeEntry) : List WireField :=
  [flag e.enabled, .u8 e.route.code, .u8 e.phase.code] ++
    match e.phase.holder with
    | some p => [.u8 p.code]
    | none => []

/-- The eight classes in code order (R204, R205). -/
def noticesBody (s : State) : List WireField :=
  s.notices.classes.toList.flatMap noticeFields

/-- A byte of SET-NOTICES outside 0 and 1 in a pair (R204). -/
def NoticePairMsg.bad (x : NoticePairMsg) : Bool :=
  (boolOf x.enabled).isNone || (portOf x.route).isNone

/-- A class with its enabled flag and route replaced; its phase stays (R204). -/
def NoticeEntry.settle (e : NoticeEntry) (x : NoticePairMsg) : NoticeEntry :=
  { e with enabled := (boolOf x.enabled).getD e.enabled, route := (portOf x.route).getD e.route }

/-- SET-NOTICES (R204). -/
def answerSetNotices (m : SetNoticesMsg) (s : State) : Answer :=
  if m.pairs.toList.any NoticePairMsg.bad then refuse .outOfRange s
  else
    let t := s.setNotices { s.notices with classes := zipAll NoticeEntry.settle s.notices.classes m.pairs }
    answerOk (noticesBody t) t

/-- SET-NOTICES (R204). -/
def execSetNotices (p : Port) (tag : Byte) (b : Body SetNoticesMsg) (s : State) : Host.Outcome State Fault Refusal :=
  .next (request p .setNotices tag b SetNoticesMsg.bytes answerSetNotices s)

/-- QUERY-NOTICES (R205). -/
def answerQueryNotices (_ : Unit) (s : State) : Answer :=
  answerOk (noticesBody s) s

/-- QUERY-NOTICES (R205). -/
def execQueryNotices (p : Port) (tag : Byte) (b : Body Unit) (s : State) : Host.Outcome State Fault Refusal :=
  .next (request p .queryNotices tag b noBytes answerQueryNotices s)

end Sys2Proof.Machine
end

