-- ==== Sys2Proof/Machine/LineEvents.lean ====
section
/-!
DEFINITION. The Line Interfaces: the reception of bytes and frames, breaks, transmission, and QUERY-LINE (R192 to R196,
R200 to R202).

The events at a receive line act under their own conditions; where an event's condition does not stand, it has no effect
(notes/assumptions/4.md).
-/

namespace Sys2Proof.Machine

/-! ## Counters -/

def LineIf.countDiscarded (l : LineIf) : LineIf :=
  { l with counters := { l.counters with discarded := tally l.counters.discarded } }

def LineIf.countShort (l : LineIf) : LineIf :=
  { l with counters := { l.counters with shortLength := tally l.counters.shortLength } }

def LineIf.countGarbled (l : LineIf) : LineIf :=
  { l with counters := { l.counters with garbled := tally l.counters.garbled } }

def LineIf.countOversize (l : LineIf) : LineIf :=
  { l with counters := { l.counters with oversize := tally l.counters.oversize } }

def LineIf.countOverrun (l : LineIf) : LineIf :=
  { l with counters := { l.counters with overruns := tally l.counters.overruns } }

def LineIf.countBreak (l : LineIf) : LineIf :=
  { l with counters := { l.counters with breaks := tally l.counters.breaks } }

/-- A character within a frame that came with a missing stop bit is counted among the discarded bytes (R192). -/
def LineIf.countStop (stop : Bool) (l : LineIf) : LineIf :=
  if stop then l else l.countDiscarded

/-! ## A frame being received (R193 to R195) -/

/-- The receipt of a start marker, with the L_max then in force (R89, R194). -/
def RxProgress.begin (lMax : Nat) (now : Word32) : RxProgress :=
  { lMax := lMax, kept := [Config.startMarker], count := 1, length := 0, crc := Config.checkInitial, check := 0,
    badStop := false, last := now }

/-- One more byte of a frame: bytes 1 and 2 are the length, then come kind, tag and body, and at last the two check bytes.
Only the first L_max bytes are kept (R193, R195). -/
def RxProgress.push (f : RxProgress) (b : Byte) (stop : Bool) (now : Word32) : RxProgress :=
  let inCheck := 3 ≤ f.count ∧ f.length + 3 ≤ f.count
  { f with
    kept := if f.count < f.lMax then f.kept ++ [b] else f.kept
    count := f.count + 1
    length := if f.count = 1 then b.toNat * 256 else if f.count = 2 then f.length + b.toNat else f.length
    crc := if inCheck then f.crc else crcByte f.crc b
    check := if inCheck then (f.check <<< 8) ||| b.setWidth 16 else f.check
    badStop := f.badStop || !stop
    last := now }

/-- The next byte is the second length byte and makes the length less than 2 (R194). -/
def RxProgress.shortBy (f : RxProgress) (b : Byte) : Bool :=
  decide (f.count = 2) && decide (f.length + b.toNat < 2)

/-- The next byte is the last check byte: byte number length + 4, counted from the start marker as 0 (R193). -/
def RxProgress.atLast (f : RxProgress) : Bool :=
  decide (3 ≤ f.count) && decide (f.count = f.length + 4)

/-- The frame that has been received whole (R195). -/
def RxProgress.frame (f : RxProgress) : RxFrame :=
  let body := (f.kept.drop 5).take (f.length - 2)
  { kind := f.kept[3]?.getD 0, tag := f.kept[4]?.getD 0, body := body, length := f.length,
    oversize := decide (f.lMax < f.length + 5) }

/-- The check is good and no character came with a missing stop bit (R195). -/
def RxProgress.good (f : RxProgress) : Bool :=
  f.crc == f.check && !f.badStop

/-- The judgement of a whole frame (R195). -/
def LineIf.judgeFrame (f : RxProgress) (l : LineIf) : LineIf :=
  let idle := { l with receiver := .waiting }
  if !f.good then idle.countGarbled
  else if f.frame.oversize then { idle.countOversize with buffer := some f.frame }
  else { idle with buffer := some f.frame }

/-! ## The line as an event finds it -/

/-- An event at a port's receive line, under its condition on the settled line. The line must not stand in a break. -/
def receive (p : Port) (cond : LineIf → Bool) (f : LineIf → LineIf) (s : State) : State :=
  let l := (s.line p).settled s.timeBase
  if !l.breakNow && cond l then s.setLine p (f l) else s

/-- The interface waits for a start marker. -/
def LineIf.isWaiting (l : LineIf) : Bool :=
  match l.receiver with
  | .waiting => true
  | _ => false

/-! ## The events at the receive line -/

/-- DISCARDED_BYTE: a byte between frames that is no start marker, or whose stop bit is missing (R192, R194). -/
def execDiscardedByte (p : Port) (b : Byte) (stop : Bool) (s : State) : Host.Outcome State Fault Refusal :=
  .next (whenPowered
    (receive p (fun l => l.isWaiting && (b != Config.startMarker || !stop)) LineIf.countDiscarded) s)

/-- START_MARKER_RECEIVED: with the receive buffer free, a start marker begins a frame (R194, R196). -/
def execStartMarkerReceived (p : Port) (s : State) : Host.Outcome State Fault Refusal :=
  .next (whenPowered
    (receive p (fun l => l.isWaiting && l.buffer.isNone)
      (fun l => { l with receiver := .frame (RxProgress.begin s.engine.lMax s.timeBase) })) s)

/-- OVERRUN: a start marker with the receive buffer occupied begins a frame that is read and discarded (R196). -/
def execOverrun (p : Port) (s : State) : Host.Outcome State Fault Refusal :=
  .next (whenPowered
    (receive p (fun l => l.isWaiting && l.buffer.isSome)
      (fun l => { l with receiver := .overrun { count := 1, length := 0, last := s.timeBase } }.countOverrun)) s)

/-- One more byte of an overrun frame; its stated end returns the interface to waiting (R196). -/
def OverrunProgress.push (o : OverrunProgress) (b : Byte) (now : Word32) : Receiver :=
  let length := if o.count = 1 then b.toNat * 256 else if o.count = 2 then o.length + b.toNat else o.length
  if 2 ≤ o.count ∧ o.count = length + 4 then .waiting
  else .overrun { count := o.count + 1, length := length, last := now }

/-- The abandonment of a frame whose length is below 2 (R194). -/
def LineIf.abandonShort (stop : Bool) (l : LineIf) : LineIf :=
  { l with receiver := .waiting }.countShort.countStop stop

/-- A byte that is not a frame's last check byte is to be received. -/
def LineIf.takesByte (l : LineIf) : Bool :=
  match l.receiver with
  | .waiting => false
  | .frame f => !f.atLast
  | .overrun _ => true

/-- A byte of a frame or of an overrun frame, other than a frame's last check byte (R192, R194, R196). -/
def LineIf.takeByte (b : Byte) (stop : Bool) (now : Word32) (l : LineIf) : LineIf :=
  match l.receiver with
  | .waiting => l
  | .frame f =>
      if f.shortBy b then l.abandonShort stop
      else { l with receiver := .frame (f.push b stop now) }.countStop stop
  | .overrun o => { l with receiver := o.push b now }.countStop stop

/-- FRAME_BYTE_RECEIVED (R194, R196). -/
def execFrameByteReceived (p : Port) (b : Byte) (stop : Bool) (s : State) : Host.Outcome State Fault Refusal :=
  .next (whenPowered (receive p LineIf.takesByte (LineIf.takeByte b stop s.timeBase)) s)

/-- The byte makes the length of the frame being received less than 2. -/
def LineIf.shortNow (b : Byte) (l : LineIf) : Bool :=
  match l.receiver with
  | .frame f => f.shortBy b
  | _ => false

/-- SHORT_LENGTH: the second length byte makes the length less than 2, and the frame is abandoned (R194). -/
def execShortLength (p : Port) (b : Byte) (stop : Bool) (s : State) : Host.Outcome State Fault Refusal :=
  .next (whenPowered (receive p (LineIf.shortNow b) (LineIf.abandonShort stop)) s)

/-- The next byte is the last check byte of the frame being received. -/
def LineIf.endsNow (l : LineIf) : Bool :=
  match l.receiver with
  | .frame f => f.atLast
  | _ => false

/-- The last check byte is received and the frame is judged (R195). -/
def LineIf.endFrame (b : Byte) (stop : Bool) (now : Word32) (l : LineIf) : LineIf :=
  match l.receiver with
  | .frame f => (l.judgeFrame (f.push b stop now)).countStop stop
  | _ => l

/-- FRAME_CHECK (R195). -/
def execFrameCheck (p : Port) (b : Byte) (stop : Bool) (s : State) : Host.Outcome State Fault Refusal :=
  .next (whenPowered (receive p LineIf.endsNow (LineIf.endFrame b stop s.timeBase)) s)

/-- SILENCE: the time base comes 3 seconds past the latest byte of what is being received, which is abandoned (R194). -/
def execSilence (p : Port) (s : State) : Host.Outcome State Fault Refusal :=
  .next (whenPowered (fun s =>
    match (s.line p).receiver.last with
    | some last => modLineIf p LineIf.truncate (reachTime (last + BitVec.ofNat 32 Config.silenceSeconds) s)
    | none => s) s)

/-! ## Line breaks (R201) -/

/-- The line of a port at the detection of a break (R201). -/
def LineIf.broken (l : LineIf) : LineIf :=
  { l with receiver := .waiting, buffer := none, queue := [], sending := none, breakNow := true }.countBreak

/-- Every notice class whose frame stood in the port's queue is un-queued and stays pending (R201, R203). -/
def unqueueNotices (p : Port) (s : State) : State :=
  s.setNotices { s.notices with classes := mapAll (fun e => { e with phase := e.phase.afterBreak p }) s.notices.classes }

/-- LINE_BREAK: one continuous low level is one break (R201). A silence that has already passed has truncated what was being
received, and is counted (R194). -/
def execLineBreak (p : Port) (s : State) : Host.Outcome State Fault Refusal :=
  .next (whenPowered (fun s =>
    if (s.line p).breakNow then s else modLineIf p LineIf.broken (settleLine p (unqueueNotices p s))) s)

/-- BREAK_END: the receive line returns to idle, and the interface waits for a start marker (R201). -/
def execBreakEnd (p : Port) (s : State) : Host.Outcome State Fault Refusal :=
  .next (whenPowered (modLineIf p (fun l => { l with breakNow := false })) s)

/-! ## Transmission (R200) -/

/-- The transmitter reads ready-in, and starts the frame at the head of the queue if ready-in is asserted and no frame is
being sent (R200). -/
def LineIf.startTransmission (readyIn : Bool) (l : LineIf) : LineIf :=
  let sending :=
    match l.sending, l.queue with
    | none, f :: _ => if readyIn then some f.bytes else none
    | x, _ => x
  { l with readyIn := readyIn, sending := sending }

/-- FRAME_TRANSMISSION_START, with the level of ready-in that the transmitter reads (R200). -/
def execFrameTransmissionStart (p : Port) (readyIn : Bool) (s : State) : Host.Outcome State Fault Refusal :=
  .next (whenPowered (modLineIf p (LineIf.startTransmission readyIn)) s)

/-- The frame that has been sent leaves the queue and its place is freed (R200). -/
def LineIf.sent (l : LineIf) : LineIf :=
  { l with queue := l.queue.tail, sending := none }

/-- FULLY_TRANSMITTED: the last check byte of the frame being sent has gone (R200, R203). -/
def execFullyTransmitted (p : Port) (s : State) : Host.Outcome State Fault Refusal :=
  .next (whenPowered (fun s =>
    match (s.line p).sending, (s.line p).queue with
    | some _, f :: _ => noticeSent f (modLineIf p LineIf.sent s)
    | _, _ => s) s)

/-! ## QUERY-LINE (R202) -/

/-- The seven counters in the order of R202. -/
def LineCounters.fields (c : LineCounters) : List WireField :=
  [.u16 c.discarded, .u16 c.shortLength, .u16 c.truncated, .u16 c.garbled, .u16 c.oversize, .u16 c.overruns,
   .u16 c.breaks]

/-- The body of the QUERY-LINE reply (R202). -/
def lineBody (s : State) (q : Port) : List WireField :=
  let l := s.line q
  [.u32 l.rate.bitsPerSecond, .u16 s.engine.lMax, .u8 l.free, flag l.buffer.isSome, flag l.readyIn,
   flag (readyOut s q)] ++ l.counters.fields

/-- The present level of a port's ready-in is read (R200, R202). -/
def readPin (q : Port) (readyIn : Bool) (s : State) : State :=
  modLineIf q (fun l => { l with readyIn := readyIn }) s

/-- QUERY-LINE: the pins and the counters of the named port are read, and the counters are then cleared (R202). A silence
that has already passed there is counted before the query, and so appears in its reply (R194, R202).
DESIGN CHOICE (notes/assumptions/8.md): the command carries the present level of the named port's ready-in. -/
def answerQueryLine (m : QueryLineMsg) (s : State) : Answer :=
  match portOf m.port with
  | none => refuse .outOfRange s
  | some q =>
      let t := readPin q m.readyIn (settleLine q s)
      answerOk (lineBody t q) (countLine q (fun _ => LineCounters.zero) t)

/-- QUERY-LINE (R202). -/
def execQueryLine (p : Port) (tag : Byte) (b : Body QueryLineMsg) (s : State) : Host.Outcome State Fault Refusal :=
  .next (request p .queryLine tag b QueryLineMsg.bytes answerQueryLine s)

end Sys2Proof.Machine
end

