-- ==== Sys2Proof/Machine/Power.lean ====
section
/-!
DEFINITION. Power: the loss of power, power-on with retained memory intact, and power-on with the retention-lost input
asserted (R17, R43, R69, R112, R129, R160, R172, R175, R176, R192, R196, R202, R203).
-/

namespace Sys2Proof.Machine

/-- Both Line Interfaces started empty at given rates; the ready-in pins keep their levels (R192, R196, R202). -/
def startLines (op audit : LineRate) (s : State) : State :=
  { s with operations := LineIf.started op s.operations.readyIn, audit := LineIf.started audit s.audit.readyIn }

/-- The volatile state of the Notice Unit and of the two report lists is cleared (R33, R141, R203). -/
def clearReports (s : State) : State :=
  let idle := s.setNotices { s.notices with classes := mapAll (fun e => { e with phase := .idle }) s.notices.classes }
  (idle.setSilentList []).setRetireList []

/-- POWER_LOSS: volatile state ceases, and the time base and the timers stand still (R175). -/
def execPowerLoss (s : State) : Host.Outcome State Fault Refusal :=
  .next (whenPowered (fun s =>
    { clearReports (startLines s.operations.rate s.audit.rate s) with powered := false }) s)

/-- An OFFERED grant becomes DOUBTFUL (R112, step 1). -/
def Grant.doubtful (g : Grant) : Grant :=
  { g with phase := .doubtful }

/-- A meter record at power-on (R43, R112). -/
def Meter.poweredOn (r : Meter) : Meter :=
  { r with
    pendingReq := none
    grant := r.grant.map Grant.doubtful
    state := if r.state = .draining then .awaitingReading else r.state }

/-- A restart completes at this power-on: the engine was QUIESCING in a part that is IN-SERVICE (R112, step 3). -/
def restartCompletes (s : State) : Bool :=
  s.monitor.state == .inService && s.engine.state == .quiescing

/-- The engine at power-on (R112). -/
def Engine.poweredOn (part : PartState) (e : Engine) : Engine :=
  { e with state := if part = .inService then .active else .stopped, slots := Vector.replicate 8 none }

/-- The list at power-on (R129). -/
def ListUnit.poweredOn (l : ListUnit) : ListUnit :=
  { l with state := if l.state = .running ∨ l.state = .halting then .halted else l.state }

/-- The meters, branches, arbiter, engine and list at power-on with retained memory intact (R43, R69, R112, R129). -/
def restoreBlocks (s : State) : State :=
  let met := (s.setMeters (mapAll Meter.poweredOn s.meters)).setBranches
    (mapAll (fun b => { b with order := [] }) s.branches)
  let cleared := (met.setArbiter Arbiter.cleared).setEngine (s.engine.poweredOn s.monitor.state)
  cleared.setList s.list.poweredOn

/-- The conditions set after the notice classes have been cleared (R160, R172, R175, R203). -/
def announce (completed : Bool) (s : State) : State :=
  let started := setStarted .power completed s
  let faulted := if s.monitor.state = .lockdown then setCondition .fault started else started
  let reordered := if s.stock.reorder.isEmpty then faulted else setCondition .reorder faulted
  if s.periods.held && !s.periods.collected then setCondition .period reordered else reordered

/-- Power-on with retained memory intact (R175). -/
def powerOn (straps : Straps) (s : State) : State :=
  let up := { clearReports (startLines straps.operations.rate straps.audit.rate s) with powered := true }
  let restored := restoreBlocks up
  let settled := if restartCompletes s then clearPaceAndHoldOff restored else restored
  announce (restartCompletes s) settled

/-- POWER_ON (R175). A powered part to which it comes has lost power first (notes/assumptions/6.md). -/
def execPowerOn (straps : Straps) (s : State) : Host.Outcome State Fault Refusal :=
  .next (powerOn straps s)

/-- POWER_ON_RETENTION_LOST: every retained field takes its value after retention loss (R176). The commands that wait are
the environment's and stay. -/
def execPowerOnRetentionLost (straps : Straps) (s : State) : Host.Outcome State Fault Refusal :=
  .next { State.reset with
    operations := LineIf.started straps.operations.rate s.operations.readyIn
    audit := LineIf.started straps.audit.rate s.audit.readyIn
    pending := s.pending }

end Sys2Proof.Machine
end

