-- ==== Sys2Proof/Machine/Dispatch.lean ====
section
/-! DEFINITION. The dispatch of each command to its meaning, one arm for each row of spec/opcode_table.json. -/

namespace Sys2Proof.Machine

/-- A command's effect on everything but the queue of waiting commands. -/
def exec (i : Instr) (s : State) : Host.Outcome State Fault Refusal :=
  match i with
  | .meterStatus p tag b => Sys2Proof.Machine.execMeterStatus p tag b s
  | .refillRequest p tag b => Sys2Proof.Machine.execRefillRequest p tag b s
  | .grantApplied p tag b => Sys2Proof.Machine.execGrantApplied p tag b s
  | .grantRejected p tag b => Sys2Proof.Machine.execGrantRejected p tag b s
  | .deposit p tag b => Sys2Proof.Machine.execDeposit p tag b s
  | .enrolMeter p tag b => Sys2Proof.Machine.execEnrolMeter p tag b s
  | .configureMeter p tag b => Sys2Proof.Machine.execConfigureMeter p tag b s
  | .suspendMeter p tag b => Sys2Proof.Machine.execSuspendMeter p tag b s
  | .retireMeter p tag b => Sys2Proof.Machine.execRetireMeter p tag b s
  | .finalReading tag b => Sys2Proof.Machine.execFinalReading tag b s
  | .adjustingFinalReading tag b => Sys2Proof.Machine.execAdjustingFinalReading tag b s
  | .configureBranch p tag b => Sys2Proof.Machine.execConfigureBranch p tag b s
  | .setUrgencyMap p tag b => Sys2Proof.Machine.execSetUrgencyMap p tag b s
  | .setEngine p tag b => Sys2Proof.Machine.execSetEngine p tag b s
  | .engineRestart p tag b => Sys2Proof.Machine.execEngineRestart p tag b s
  | .configureStockLine p tag b => Sys2Proof.Machine.execConfigureStockLine p tag b s
  | .stockReceipt p tag b => Sys2Proof.Machine.execStockReceipt p tag b s
  | .stockSale p tag b => Sys2Proof.Machine.execStockSale p tag b s
  | .stockSpoil p tag b => Sys2Proof.Machine.execStockSpoil p tag b s
  | .stockCount p tag b => Sys2Proof.Machine.execStockCount p tag b s
  | .loadList p tag b => Sys2Proof.Machine.execLoadList p tag b s
  | .startList p tag b => Sys2Proof.Machine.execStartList p tag b s
  | .haltList p tag b => Sys2Proof.Machine.execHaltList p tag b s
  | .abortList p tag b => Sys2Proof.Machine.execAbortList p tag b s
  | .clearList p tag b => Sys2Proof.Machine.execClearList p tag b s
  | .closePeriod p tag b => Sys2Proof.Machine.execClosePeriod p tag b s
  | .collectPeriod p tag b => Sys2Proof.Machine.execCollectPeriod p tag b s
  | .setNotices p tag b => Sys2Proof.Machine.execSetNotices p tag b s
  | .commission p tag b => Sys2Proof.Machine.execCommission p tag b s
  | .refund p tag b => Sys2Proof.Machine.execRefund p tag b s
  | .setPoolLimits p tag b => Sys2Proof.Machine.execSetPoolLimits p tag b s
  | .setFaultPolicy p tag b => Sys2Proof.Machine.execSetFaultPolicy p tag b s
  | .setTolerance p tag b => Sys2Proof.Machine.execSetTolerance p tag b s
  | .resumeMeter p tag b => Sys2Proof.Machine.execResumeMeter p tag b s
  | .release p tag b => Sys2Proof.Machine.execRelease p tag b s
  | .clearFaults p tag b => Sys2Proof.Machine.execClearFaults p tag b s
  | .queryPool p tag b => Sys2Proof.Machine.execQueryPool p tag b s
  | .queryMeter p tag b => Sys2Proof.Machine.execQueryMeter p tag b s
  | .queryBranch p tag b => Sys2Proof.Machine.execQueryBranch p tag b s
  | .queryStock p tag b => Sys2Proof.Machine.execQueryStock p tag b s
  | .queryList p tag b => Sys2Proof.Machine.execQueryList p tag b s
  | .queryPeriod p tag b => Sys2Proof.Machine.execQueryPeriod p tag b s
  | .queryFaults p tag b => Sys2Proof.Machine.execQueryFaults p tag b s
  | .queryLine p tag b => Sys2Proof.Machine.execQueryLine p tag b s
  | .queryNotices p tag b => Sys2Proof.Machine.execQueryNotices p tag b s
  | .unknownKind p tag kind body => Sys2Proof.Machine.execUnknownKind p tag kind body s
  | .discardedByte p b stop => Sys2Proof.Machine.execDiscardedByte p b stop s
  | .shortLength p b stop => Sys2Proof.Machine.execShortLength p b stop s
  | .silence p => Sys2Proof.Machine.execSilence p s
  | .frameCheck p b stop => Sys2Proof.Machine.execFrameCheck p b stop s
  | .overrun p => Sys2Proof.Machine.execOverrun p s
  | .lineBreak p => Sys2Proof.Machine.execLineBreak p s
  | .breakEnd p => Sys2Proof.Machine.execBreakEnd p s
  | .frameTransmissionStart p readyIn => Sys2Proof.Machine.execFrameTransmissionStart p readyIn s
  | .fullyTransmitted p => Sys2Proof.Machine.execFullyTransmitted p s
  | .selection => Sys2Proof.Machine.execSelection s
  | .queuingOpportunity p => Sys2Proof.Machine.execQueuingOpportunity p s
  | .supervisionExpiry m => Sys2Proof.Machine.execSupervisionExpiry m s
  | .holdOffExpiry m => Sys2Proof.Machine.execHoldOffExpiry m s
  | .grantExpiry k => Sys2Proof.Machine.execGrantExpiry k s
  | .powerOn straps => Sys2Proof.Machine.execPowerOn straps s
  | .powerOnRetentionLost straps => Sys2Proof.Machine.execPowerOnRetentionLost straps s
  | .startMarkerReceived p => Sys2Proof.Machine.execStartMarkerReceived p s
  | .frameByteReceived p b stop => Sys2Proof.Machine.execFrameByteReceived p b stop s
  | .powerLoss => Sys2Proof.Machine.execPowerLoss s

end Sys2Proof.Machine
end

