-- ==== Sys2Proof/Machine/Step.lean ====
section
/-!
DEFINITION. One step of the part: the command at the front of the queue is run, and with no command waiting a second of
the time base passes.
-/

namespace Sys2Proof.Machine

/-- A second of the time base, which advances while the part is powered (00_scope.md, Time).
DESIGN CHOICE (notes/assumptions/5.md): it passes in a step that finds no command waiting. -/
def tick (s : State) : State :=
  if s.powered then s.setTime (s.timeBase + 1) else s

/-- The front command of the queue is run with the queue's rest; an empty queue lets a second pass. -/
def step (s : State) : Host.Outcome State Fault Refusal :=
  match s.pending with
  | [] => .next (tick s)
  | c :: rest => exec c { s with pending := rest }

/-- The command that a table word spells, put at the front of the queue; the state as it was where the word spells none. -/
def State.withFetchWord (s : State) (nbits w : Nat) : State :=
  match decodeTableWord nbits w with
  | some c => { s with pending := c :: s.pending }
  | none => s

end Sys2Proof.Machine
end

