-- ==== Sys2Proof/WellFormed.lean ====
section
/-!
DEFINITION. Well-formed commands: those whose operands a line, a timer or a sender can give.
-/

namespace Sys2Proof

open Machine (Kind inboundCode)

/-- The body length that a kind's row gives (R198). LOAD-LIST has a length for each entry count. -/
def Machine.Kind.bodyLength : Kind → Option Nat
  | .meterStatus => some 17
  | .refillRequest => some 8
  | .grantApplied => some 19
  | .grantRejected => some 20
  | .deposit => some 10
  | .enrolMeter => some 18
  | .configureMeter => some 25
  | .suspendMeter => some 1
  | .retireMeter => some 1
  | .finalReading => some 17
  | .configureBranch => some 12
  | .setUrgencyMap => some 8
  | .setEngine => some 5
  | .engineRestart => some 0
  | .configureStockLine => some 13
  | .stockReceipt => some 7
  | .stockSale => some 6
  | .stockSpoil => some 6
  | .stockCount => some 6
  | .loadList => none
  | .startList => some 2
  | .haltList => some 0
  | .abortList => some 0
  | .clearList => some 0
  | .closePeriod => some 4
  | .collectPeriod => some 4
  | .setNotices => some 16
  | .commission => some 0
  | .refund => some 6
  | .setPoolLimits => some 18
  | .setFaultPolicy => some 1
  | .setTolerance => some 6
  | .resumeMeter => some 1
  | .release => some 0
  | .clearFaults => some 0
  | .queryPool => some 0
  | .queryMeter => some 1
  | .queryBranch => some 1
  | .queryStock => some 3
  | .queryList => some 2
  | .queryPeriod => some 3
  | .queryFaults => some 0
  | .queryLine => some 1
  | .queryNotices => some 0

/-- A body of these bytes is one that a kind's row takes (R197, R198). -/
def Machine.Kind.takesBody (k : Kind) (bytes : List Byte) : Bool :=
  match k.bodyLength with
  | some n => bytes.length == n
  | none =>
      match bytes with
      | [] => false
      | count :: rest => rest.length == 8 * count.toNat

/-- The most bytes a body may have, the length field being 16 bits wide (R193). -/
def maxBody : Nat := 65533

/-- A message's body: fields fit the length field of a frame, and a body of another length is one that the kind's row does
not take (R193, R197). -/
def bodyWellFormed {α : Type} (k : Kind) (enc : α → List Byte) : Body α → Bool
  | .fields f => k.takesBody (enc f) && decide ((enc f).length ≤ maxBody)
  | .otherLength bytes => !k.takesBody bytes && decide (bytes.length ≤ maxBody)

/-- A command is well-formed. -/
def Instr.wellFormed : Instr → Bool
  | .meterStatus _ _ b => bodyWellFormed .meterStatus ReadingMsg.bytes b
  | .refillRequest _ _ b => bodyWellFormed .refillRequest RefillMsg.bytes b
  | .grantApplied _ _ b => bodyWellFormed .grantApplied AppliedMsg.bytes b
  | .grantRejected _ _ b => bodyWellFormed .grantRejected RejectedMsg.bytes b
  | .deposit _ _ b => bodyWellFormed .deposit DepositMsg.bytes b
  | .enrolMeter _ _ b => bodyWellFormed .enrolMeter EnrolMsg.bytes b
  | .configureMeter _ _ b => bodyWellFormed .configureMeter ConfigureMeterMsg.bytes b
  | .suspendMeter _ _ b => bodyWellFormed .suspendMeter MeterMsg.bytes b
  | .retireMeter _ _ b => bodyWellFormed .retireMeter MeterMsg.bytes b
  | .finalReading _ b => bodyWellFormed .finalReading ReadingMsg.bytes b
  | .adjustingFinalReading _ b => bodyWellFormed .finalReading ReadingMsg.bytes b
  | .configureBranch _ _ b => bodyWellFormed .configureBranch ConfigureBranchMsg.bytes b
  | .setUrgencyMap _ _ b => bodyWellFormed .setUrgencyMap UrgencyMapMsg.bytes b
  | .setEngine _ _ b => bodyWellFormed .setEngine SetEngineMsg.bytes b
  | .engineRestart _ _ b => bodyWellFormed .engineRestart Machine.noBytes b
  | .configureStockLine _ _ b => bodyWellFormed .configureStockLine StockLineMsg.bytes b
  | .stockReceipt _ _ b => bodyWellFormed .stockReceipt ReceiptMsg.bytes b
  | .stockSale _ _ b => bodyWellFormed .stockSale PiecesMsg.bytes b
  | .stockSpoil _ _ b => bodyWellFormed .stockSpoil PiecesMsg.bytes b
  | .stockCount _ _ b => bodyWellFormed .stockCount PiecesMsg.bytes b
  | .loadList _ _ b => bodyWellFormed .loadList LoadListMsg.bytes b
  | .startList _ _ b => bodyWellFormed .startList StartListMsg.bytes b
  | .haltList _ _ b => bodyWellFormed .haltList Machine.noBytes b
  | .abortList _ _ b => bodyWellFormed .abortList Machine.noBytes b
  | .clearList _ _ b => bodyWellFormed .clearList Machine.noBytes b
  | .closePeriod _ _ b => bodyWellFormed .closePeriod StampMsg.bytes b
  | .collectPeriod _ _ b => bodyWellFormed .collectPeriod StampMsg.bytes b
  | .setNotices _ _ b => bodyWellFormed .setNotices SetNoticesMsg.bytes b
  | .commission _ _ b => bodyWellFormed .commission Machine.noBytes b
  | .refund _ _ b => bodyWellFormed .refund RefundMsg.bytes b
  | .setPoolLimits _ _ b => bodyWellFormed .setPoolLimits PoolLimitsMsg.bytes b
  | .setFaultPolicy _ _ b => bodyWellFormed .setFaultPolicy PolicyMsg.bytes b
  | .setTolerance _ _ b => bodyWellFormed .setTolerance ToleranceMsg.bytes b
  | .resumeMeter _ _ b => bodyWellFormed .resumeMeter MeterMsg.bytes b
  | .release _ _ b => bodyWellFormed .release Machine.noBytes b
  | .clearFaults _ _ b => bodyWellFormed .clearFaults Machine.noBytes b
  | .queryPool _ _ b => bodyWellFormed .queryPool Machine.noBytes b
  | .queryMeter _ _ b => bodyWellFormed .queryMeter MeterMsg.bytes b
  | .queryBranch _ _ b => bodyWellFormed .queryBranch BranchMsg.bytes b
  | .queryStock _ _ b => bodyWellFormed .queryStock QueryStockMsg.bytes b
  | .queryList _ _ b => bodyWellFormed .queryList QueryListMsg.bytes b
  | .queryPeriod _ _ b => bodyWellFormed .queryPeriod QueryPeriodMsg.bytes b
  | .queryFaults _ _ b => bodyWellFormed .queryFaults Machine.noBytes b
  | .queryLine _ _ b => bodyWellFormed .queryLine QueryLineMsg.bytes b
  | .queryNotices _ _ b => bodyWellFormed .queryNotices Machine.noBytes b
  | .unknownKind _ _ kind body => !inboundCode kind && decide (body.length ≤ maxBody)
  | .discardedByte _ b stop => b != Config.startMarker || !stop
  | .shortLength _ b _ => decide (b.toNat < 2)
  | .silence _ | .frameCheck _ _ _ | .overrun _ | .lineBreak _ | .breakEnd _ | .frameTransmissionStart _ _
  | .fullyTransmitted _ | .selection | .queuingOpportunity _ | .supervisionExpiry _ | .holdOffExpiry _ | .grantExpiry _
  | .powerOn _ | .powerOnRetentionLost _ | .startMarkerReceived _ | .frameByteReceived _ _ _ | .powerLoss => true

end Sys2Proof
end

