-- ==== Sys2Proof/Safety.lean ====
section
/-!
DEFINITION. The terms that statements use: when the Dispatcher takes a frame, what a message is to it, and the laws that the
manual says hold in every state (R1, R4, R14, R16, R26, R41, R44, R50, R52, R58, R106 to R108, R113, R155 to R157, R200,
R202).
-/

namespace Sys2Proof.Machine

/-! ## A frame that is taken -/

/-- The silence of R194 has come on port `p`: a frame, overrun or not, is being received, and the time base stands 3 seconds or
more past its latest byte. -/
def silenceDue (s : State) (p : Port) : Bool :=
  match (s.line p).receiver with
  | .waiting => false
  | .frame f => decide (3 ≤ (s.timeBase - f.last).toNat)
  | .overrun o => decide (3 ≤ (s.timeBase - o.last).toNat)

/-- The counter of truncated frames of port `p` as the next event there finds it (R194, R202). -/
def truncatedNow (s : State) (p : Port) : Nat :=
  if silenceDue s p then min ((s.line p).counters.truncated + 1) 65535 else (s.line p).counters.truncated

/-- Port `p` can receive a whole frame: the receive buffer is empty, there is no break, and the interface waits for a start
marker, or a silence has ended what it was receiving (R194 to R196). -/
def CanReceive (s : State) (p : Port) : Prop :=
  (s.line p).buffer = none ∧ (s.line p).breakNow = false ∧ ((s.line p).receiver = .waiting ∨ silenceDue s p = true)

/-- The line of such a port as the frame finds it: waiting for a start marker, a frame that the silence ended counted truncated
(R194). -/
def idleLine (s : State) (p : Port) : LineIf :=
  { s.line p with receiver := .waiting, counters := { (s.line p).counters with truncated := truncatedNow s p } }

/-- The Dispatcher takes, on port `p` of state `s`, a frame of this kind, tag and body that is not oversize, and `t` is the
state once it has left the line (R194 to R196): it stands in the receive buffer, or it arrives whole on an idle line. -/
def Taken (p : Port) (kind tag : Byte) (body : List Byte) (s t : State) : Prop :=
  s.powered = true ∧ 1 ≤ (s.line p).free ∧
    (((s.line p).buffer =
          some { kind := kind, tag := tag, body := body, length := body.length + 2, oversize := false } ∧
        t = s.setLine p { s.line p with buffer := none }) ∨
      (CanReceive s p ∧ body.length + 7 ≤ s.engine.lMax ∧ t = s.setLine p (idleLine s p)))

/-- The state after a reply has been placed in the queue of port `p` (R197, R200). -/
def replied (p : Port) (kind tag : Byte) (status : Status) (body : List WireField) (s : State) : State :=
  enqueue p (.reply tag status kind body) s

/-- A message as the Dispatcher sees it: its port, kind, tag and body bytes, whether the body has the length its kind's row
gives, and what the owner would answer. -/
structure Message where
  port : Port
  kind : Kind
  tag : Byte
  bytes : List Byte
  sized : Bool
  owner : State → Answer

/-- The message of a body in either form. -/
def Message.of {α : Type} (p : Port) (k : Kind) (tag : Byte) (enc : α → List Byte) (owner : α → State → Answer) :
    Body α → Message
  | .fields f => { port := p, kind := k, tag := tag, bytes := enc f, sized := true, owner := owner f }
  | .otherLength bytes =>
      { port := p, kind := k, tag := tag, bytes := bytes, sized := false, owner := refuse .malformed }

/-- The message that a command is, if it is one of the inbound kinds (R198). -/
def messageOf : Instr → Option Message
  | .meterStatus p tag b => some (.of p .meterStatus tag ReadingMsg.bytes answerMeterStatus b)
  | .refillRequest p tag b => some (.of p .refillRequest tag RefillMsg.bytes answerRefillRequest b)
  | .grantApplied p tag b => some (.of p .grantApplied tag AppliedMsg.bytes answerGrantApplied b)
  | .grantRejected p tag b => some (.of p .grantRejected tag RejectedMsg.bytes answerGrantRejected b)
  | .deposit p tag b => some (.of p .deposit tag DepositMsg.bytes answerDeposit b)
  | .enrolMeter p tag b => some (.of p .enrolMeter tag EnrolMsg.bytes answerEnrolMeter b)
  | .configureMeter p tag b => some (.of p .configureMeter tag ConfigureMeterMsg.bytes answerConfigureMeter b)
  | .suspendMeter p tag b => some (.of p .suspendMeter tag MeterMsg.bytes answerSuspendMeter b)
  | .retireMeter p tag b => some (.of p .retireMeter tag MeterMsg.bytes answerRetireMeter b)
  | .finalReading tag b => some (.of .operations .finalReading tag ReadingMsg.bytes answerFinalReading b)
  | .adjustingFinalReading tag b => some (.of .audit .finalReading tag ReadingMsg.bytes answerAdjustingFinalReading b)
  | .configureBranch p tag b => some (.of p .configureBranch tag ConfigureBranchMsg.bytes answerConfigureBranch b)
  | .setUrgencyMap p tag b => some (.of p .setUrgencyMap tag UrgencyMapMsg.bytes answerSetUrgencyMap b)
  | .setEngine p tag b => some (.of p .setEngine tag SetEngineMsg.bytes answerSetEngine b)
  | .engineRestart p tag b => some (.of p .engineRestart tag noBytes answerEngineRestart b)
  | .configureStockLine p tag b => some (.of p .configureStockLine tag StockLineMsg.bytes answerConfigureStockLine b)
  | .stockReceipt p tag b => some (.of p .stockReceipt tag ReceiptMsg.bytes answerStockReceipt b)
  | .stockSale p tag b => some (.of p .stockSale tag PiecesMsg.bytes answerStockSale b)
  | .stockSpoil p tag b => some (.of p .stockSpoil tag PiecesMsg.bytes answerStockSpoil b)
  | .stockCount p tag b => some (.of p .stockCount tag PiecesMsg.bytes answerStockCount b)
  | .loadList p tag b => some (.of p .loadList tag LoadListMsg.bytes answerLoadList b)
  | .startList p tag b => some (.of p .startList tag StartListMsg.bytes answerStartList b)
  | .haltList p tag b => some (.of p .haltList tag noBytes answerHaltList b)
  | .abortList p tag b => some (.of p .abortList tag noBytes answerAbortList b)
  | .clearList p tag b => some (.of p .clearList tag noBytes answerClearList b)
  | .closePeriod p tag b => some (.of p .closePeriod tag StampMsg.bytes answerClosePeriod b)
  | .collectPeriod p tag b => some (.of p .collectPeriod tag StampMsg.bytes answerCollectPeriod b)
  | .setNotices p tag b => some (.of p .setNotices tag SetNoticesMsg.bytes answerSetNotices b)
  | .commission p tag b => some (.of p .commission tag noBytes answerCommission b)
  | .refund p tag b => some (.of p .refund tag RefundMsg.bytes answerRefund b)
  | .setPoolLimits p tag b => some (.of p .setPoolLimits tag PoolLimitsMsg.bytes answerSetPoolLimits b)
  | .setFaultPolicy p tag b => some (.of p .setFaultPolicy tag PolicyMsg.bytes answerSetFaultPolicy b)
  | .setTolerance p tag b => some (.of p .setTolerance tag ToleranceMsg.bytes answerSetTolerance b)
  | .resumeMeter p tag b => some (.of p .resumeMeter tag MeterMsg.bytes answerResumeMeter b)
  | .release p tag b => some (.of p .release tag noBytes answerRelease b)
  | .clearFaults p tag b => some (.of p .clearFaults tag noBytes answerClearFaults b)
  | .queryPool p tag b => some (.of p .queryPool tag noBytes answerQueryPool b)
  | .queryMeter p tag b => some (.of p .queryMeter tag MeterMsg.bytes answerQueryMeter b)
  | .queryBranch p tag b => some (.of p .queryBranch tag BranchMsg.bytes answerQueryBranch b)
  | .queryStock p tag b => some (.of p .queryStock tag QueryStockMsg.bytes answerQueryStock b)
  | .queryList p tag b => some (.of p .queryList tag QueryListMsg.bytes answerQueryList b)
  | .queryPeriod p tag b => some (.of p .queryPeriod tag QueryPeriodMsg.bytes answerQueryPeriod b)
  | .queryFaults p tag b => some (.of p .queryFaults tag noBytes answerQueryFaults b)
  | .queryLine p tag b => some (.of p .queryLine tag QueryLineMsg.bytes answerQueryLine b)
  | .queryNotices p tag b => some (.of p .queryNotices tag noBytes answerQueryNotices b)
  | .unknownKind _ _ _ _ | .discardedByte _ _ _ | .shortLength _ _ _ | .silence _ | .frameCheck _ _ _ | .overrun _
  | .lineBreak _ | .breakEnd _ | .frameTransmissionStart _ _ | .fullyTransmitted _ | .selection | .queuingOpportunity _
  | .supervisionExpiry _ | .holdOffExpiry _ | .grantExpiry _ | .powerOn _ | .powerOnRetentionLost _
  | .startMarkerReceived _ | .frameByteReceived _ _ _ | .powerLoss => none

/-! ## The laws -/

/-- P and the six totals lie in 0 to 2^48 − 1 (R1, R15). -/
def PoolRange (s : State) : Prop :=
  ∀ x ∈ s.pool.figures, x ≤ Config.maxFigure

/-- The recorded condition is the condition worked out from V, T and E (R4). -/
def ConditionRecorded (s : State) : Prop :=
  s.pool.recorded = s.pool.condition

/-- Conservation: P + G + I − R + RF + K = Dep (R16). -/
def Conserved (s : State) : Prop :=
  s.pool.p + s.pool.g + s.pool.i + s.pool.rf + s.pool.k = s.pool.dep + s.pool.r

/-- No branch has more than 8 enrolled meters (R26). -/
def BranchCapacity (s : State) : Prop :=
  ∀ b : BranchId, enrolledAt s b ≤ Config.branchMeters

/-- For every meter that is not VACANT, AR mirror + DR mirror = CT, and CT = base + credited (R18, R41). -/
def MirrorLaw (s : State) : Prop :=
  ∀ m : MeterId, (s.meter m).state ≠ .vacant →
    (s.meter m).arMirror + (s.meter m).drMirror = (s.meter m).ct ∧
      ((s.meter m).ct : Int) = (s.meter m).base + (s.meter m).credited

/-- For every branch with an allowance, A is at most the period allowance; every pace lies in 0 to 15 (R50, R52). -/
def BranchLaw (s : State) : Prop :=
  ∀ b : BranchId, (∀ a, (s.branch b).allowance = some a → a.remaining ≤ a.period) ∧ (s.branch b).pace ≤ Config.fullPace

/-- A meter with a pending request is ACTIVE and holds no unresolved grant; it stands exactly once in its own branch's
pending order, and nobody else stands in any (R58). -/
def OrderLaw (s : State) : Prop :=
  (∀ m : MeterId, (s.meter m).pendingReq.isSome = true → (s.meter m).state = .active ∧ (s.meter m).grant = none) ∧
    ∀ (b : BranchId) (m : MeterId),
      (s.branch b).order.count m =
        if (s.meter m).pendingReq.isSome = true ∧ (s.meter m).branch = b then 1 else 0

/-- The amount a meter's unresolved grant holds in G (R106). -/
def heldInG (r : Meter) : Nat :=
  r.grant.elim 0 Grant.amount

/-- G is the sum of the amounts of all unresolved grants (R106). -/
def GrantTotal (s : State) : Prop :=
  s.pool.g = (s.meters.toList.map heldInG).sum

/-- An occupied slot holds the OFFERED grant of the meter it names, with its serial and amount, and an OFFERED grant's slot
names its meter (R86, R107). -/
def SlotLaw (s : State) : Prop :=
  (∀ (k : SlotId) (e : Slot), s.engine.slots.get k = some e →
      ∃ g, (s.meter e.meter).grant = some g ∧ g.phase = .offered k ∧ g.serial = e.serial ∧ g.amount = e.amount) ∧
    ∀ (m : MeterId) (g : Grant) (k : SlotId), (s.meter m).grant = some g → g.phase = .offered k →
      ∃ e, s.engine.slots.get k = some e ∧ e.meter = m

/-- No two unresolved grants share a serial, and no serial is 0 (R87). -/
def SerialLaw (s : State) : Prop :=
  s.engine.nextSerial ≠ 0 ∧
    (∀ (m : MeterId) (g : Grant), (s.meter m).grant = some g → g.serial ≠ 0) ∧
    ∀ (m n : MeterId) (g h : Grant), (s.meter m).grant = some g → (s.meter n).grant = some h → g.serial = h.serial →
      m = n

/-- A VACANT or RETIRED record holds no pending request, no unresolved grant and no rejected reading, and both its timers
are stopped (R20, R142); both are stopped in DRAINING and AWAITING-READING too (R131), where no DRAINING meter is without
an OFFERED grant and no AWAITING-READING meter holds one (R132). -/
def RecordLaw (s : State) : Prop :=
  ∀ m : MeterId,
    ((s.meter m).state = .vacant ∨ (s.meter m).state = .retired →
      (s.meter m).pendingReq = none ∧ (s.meter m).grant = none ∧ (s.meter m).rejected = none ∧
        (s.meter m).holdOff = none ∧ (s.meter m).supervision = none) ∧
    ((s.meter m).state = .draining ∨ (s.meter m).state = .awaitingReading →
      (s.meter m).holdOff = none ∧ (s.meter m).supervision = none) ∧
    ((s.meter m).state = .draining → (s.meter m).grant.any Grant.isOffered = true) ∧
    ((s.meter m).state = .awaitingReading → (s.meter m).grant.any Grant.isOffered = false)

/-- Once the part has been commissioned, a meter's supervision timer runs exactly while the meter is ACTIVE (R31). -/
def SupervisionLaw (s : State) : Prop :=
  ∀ m : MeterId, ((s.meter m).supervision.isSome = true → (s.meter m).state = .active) ∧
    (s.monitor.state ≠ .uncommissioned → (s.meter m).state = .active → (s.meter m).supervision.isSome = true)

/-- Every amount asked for or granted is at most 99,999,999 (00_scope.md, Amounts; R54, R80, R114). -/
def AmountLaw (s : State) : Prop :=
  (∀ m : MeterId, heldInG (s.meter m) ≤ Config.maxGrant ∧
      ∀ r, (s.meter m).pendingReq = some r → r.q ≤ Config.maxGrant) ∧
    ∀ e ∈ s.list.entries, e.q ≤ Config.maxGrant

/-- The engine's state fits the part's: STOPPED in UNCOMMISSIONED and LOCKDOWN, ACTIVE or QUIESCING in IN-SERVICE; and
with the engine QUIESCING some slot is occupied (R108, R109, R173). -/
def EngineLaw (s : State) : Prop :=
  (s.monitor.state = .inService ↔ s.engine.state ≠ .stopped) ∧ (s.engine.state = .quiescing → 0 < occupiedSlots s)

/-- The list holds at most 32 entries; the entries from the next entry on, and no others, are WAITING (R113, R118); and a
grant that names an entry is held by the entry's meter, the entry OFFERED (R20, R82, R123). -/
def ListLaw (s : State) : Prop :=
  s.list.entries.length ≤ Config.listEntries ∧ s.list.next ≤ s.list.entries.length ∧
    (∀ (n : Nat) (e : Entry), s.list.entries[n]? = some e → (e.outcome = .waiting ↔ s.list.next ≤ n)) ∧
    ∀ (m : MeterId) (g : Grant) (n : Nat), (s.meter m).grant = some g → g.source = .list (some n) →
      ∃ e, s.list.entries[n]? = some e ∧ e.meter = m ∧ e.outcome = .offered

/-- On hand lies in 0 to 999,999, and reorder raised tells that it is below the level (R155, R156). -/
def StockLaw (s : State) : Prop :=
  ∀ (b : BranchId) (l : LineNo),
    (s.stockLine b l).onHand ≤ Config.maxPieces ∧
      ((s.stockLine b l).raised = true ↔ (s.stockLine b l).onHand < (s.stockLine b l).level)

/-- Every pair in the reorder report list is a line whose on hand is below its level, and no pair appears twice (R157). -/
def ReorderLaw (s : State) : Prop :=
  s.stock.reorder.Nodup ∧
    ∀ x ∈ s.stock.reorder, (s.stockLine x.1 x.2).onHand < (s.stockLine x.1 x.2).level

/-- Both outbound queues hold at most 16 frames, and the bytes being sent are those of the frame at the head of their queue
(R200). -/
def QueueLaw (s : State) : Prop :=
  ∀ p : Port, (s.line p).queue.length ≤ Config.queuePlaces ∧
    ∀ bytes, (s.line p).sending = some bytes → ∃ f rest, (s.line p).queue = f :: rest ∧ bytes = f.bytes

/-- Every line counter lies in 0 to 65,535 (R202). -/
def LineCounters.inRange (c : LineCounters) : Prop :=
  ∀ x ∈ [c.discarded, c.shortLength, c.truncated, c.garbled, c.oversize, c.overruns, c.breaks], x ≤ Config.maxTally

/-- The counters of both lines and of the fault log lie in 0 to 65,535 (R178, R202). -/
def CounterLaw (s : State) : Prop :=
  (∀ p : Port, (s.line p).counters.inRange) ∧ s.monitor.log.later ≤ Config.maxTally ∧
    s.monitor.log.suppressed ≤ Config.maxTally

/-- A notice class is queued on a port exactly while one frame of the class stands in that port's queue (R203). -/
def NoticeLaw (s : State) : Prop :=
  ∀ (c : NoticeClass) (p : Port),
    (s.line p).queue.countP (fun f => match f with
      | .notice d _ _ => d == c
      | _ => false) =
      if (s.noticeClass c).phase.holder = some p then 1 else 0

/-- An unpowered part holds no volatile state: the two report lists and the notice phases are empty, and so is all of each
line but its strapped rate and its ready-in pin, the line counters among it.
DESIGN CHOICE (notes/assumptions/6.md): the manual has volatile state start empty at every power-on (00_scope.md, Retained and
volatile state; R202); the model clears it when the power is lost. -/
def UnpoweredLaw (s : State) : Prop :=
  s.powered = false → s.silentList = [] ∧ s.retireList = [] ∧ (∀ c, (s.noticeClass c).phase = .idle) ∧
    ∀ p, (s.line p).queue = [] ∧ (s.line p).sending = none ∧ (s.line p).buffer = none ∧
      (s.line p).receiver = .waiting ∧ (s.line p).breakNow = false ∧ (s.line p).counters = LineCounters.zero

end Sys2Proof.Machine
end

