-- ==== Sys2Proof/Certificates/Slice0/Obligations.lean ====
section
/-!
DEFINITION. The statements for the provers.

`Taken p kind tag body s t` (Safety.lean) says that the Dispatcher takes this frame on port `p` of state `s`, in either of the
two ways a frame can stand there, and that `t` is the state once the frame has left the line; `replied` places the reply in
the port's queue. Every statement about a message holds in both ways, and what happens to a message that a check of the
Dispatcher turns away is `DispatcherJudgesInOrder`. An equation for the next state gives every field of the state, so it
holds the frame of the command too. What a shared operation named in a statement does (`recheckPool`, `setCondition`,
`handFault`, `acceptReading`, `confirmGrant`, `releaseGrant`, `evaluateReorder`, `restartTakesEffect`) is a statement of its
own.
-/

open Sys2Proof Sys2Proof.Machine

/-! ## Steps and the Dispatcher -/

/-- A step takes the command at the front of the queue and runs it with the queue's rest; with no command waiting, a powered
part's time base advances by one second and nothing else changes (the model's choice, notes/assumptions/5.md). -/
def Obligations.StepRunsTheFrontCommand : Prop :=
  (∀ (c : Instr) (rest : List Instr) (s : State), s.pending = c :: rest → step s = exec c { s with pending := rest }) ∧
    (∀ s : State, s.pending = [] → s.powered = true → step s = .next { s with timeBase := s.timeBase + 1 }) ∧
    ∀ s : State, s.pending = [] → s.powered = false → step s = .next s

/-- R197: a taken message is judged in order: a body of another length than the kind's row gives is MALFORMED, then the port
permission, then the set taken in UNCOMMISSIONED, then the kinds locked out in LOCKDOWN; these are answered with no effect
but the reply. Otherwise the owner answers. R198: the kinds of the Audit port, those of both ports, and the rest, of the
Operations port. R197, check 4: the kinds taken in UNCOMMISSIONED. R185: the kinds locked out, FINAL-READING on the Audit port
only. -/
def Obligations.DispatcherJudgesInOrder : Prop :=
  let queries : List Kind :=
    [.queryPool, .queryMeter, .queryBranch, .queryStock, .queryList, .queryPeriod, .queryFaults, .queryLine, .queryNotices]
  let ofAudit : List Kind :=
    [.commission, .refund, .setPoolLimits, .setFaultPolicy, .setTolerance, .resumeMeter, .release, .clearFaults]
  let ofOperations : List Kind :=
    [.meterStatus, .refillRequest, .grantApplied, .grantRejected, .deposit, .enrolMeter, .configureMeter, .suspendMeter,
     .retireMeter, .configureBranch, .setUrgencyMap, .setEngine, .engineRestart, .configureStockLine, .stockReceipt,
     .stockSale, .stockSpoil, .stockCount, .loadList, .startList, .haltList, .abortList, .clearList, .closePeriod,
     .collectPeriod, .setNotices]
  let permitted (k : Kind) (p : Port) : Bool :=
    decide (k = .finalReading ∨ k ∈ queries ∨ (p = .operations ∧ k ∈ ofOperations) ∨ (p = .audit ∧ k ∈ ofAudit))
  let configures : List Kind :=
    [.configureMeter, .enrolMeter, .configureBranch, .configureStockLine, .setUrgencyMap, .setEngine, .setNotices,
     .setPoolLimits, .setFaultPolicy, .setTolerance, .commission]
  let lockedOut : List Kind :=
    [.deposit, .refund, .setPoolLimits, .refillRequest, .engineRestart, .loadList, .startList, .resumeMeter]
  ∀ (c : Instr) (m : Message) (s t : State), messageOf c = some m → Taken m.port m.kind.code m.tag m.bytes s t →
    let turnedAway (status : Status) : Prop := exec c s = .next (replied m.port m.kind.code m.tag status [] t)
    if m.sized = false then turnedAway .malformed
    else if permitted m.kind m.port = false then turnedAway .wrongPort
    else if t.monitor.state = .uncommissioned ∧ m.kind ∉ configures ∧ m.kind ∉ queries then turnedAway .badState
    else if t.monitor.state = .lockdown ∧ (m.kind ∈ lockedOut ∨ (m.kind = .finalReading ∧ m.port = .audit)) then
      turnedAway .locked
    else exec c s = .next (replied m.port m.kind.code m.tag (m.owner t).status (m.owner t).body (m.owner t).state)

/-- R197, checks 1 and 2: a frame whose kind is no inbound kind is answered MALFORMED, whatever the port and the part state,
and OVERSIZE if it exceeds L_max, from the receive buffer or as it arrives; nothing else changes but the oversize counter of
an arrival. R196: while the port's outbound queue is full the frame stays in the buffer, and one that arrives whole comes to
stand there, of an oversize one the first L_max bytes, counted. R194: a frame that a silence has ended no longer stands in the
way, and is counted truncated (the model's reading, notes/assumptions/15.md).
The model's choice (notes/assumptions/2.md): the arrival of a whole frame; and on an unpowered part, during a break, with
another frame being received or another frame in the buffer, the command has no effect. -/
def Obligations.UnknownKindIsMalformed : Prop :=
  ∀ (p : Port) (tag kind : Byte) (body : List Byte) (s : State), (∀ k ∈ Kind.all, k.code ≠ kind) →
    (∀ t : State, Taken p kind tag body s t →
      exec (.unknownKind p tag kind body) s = .next (replied p kind tag .malformed [] t)) ∧
    (s.powered = true → 1 ≤ (s.line p).free → CanReceive s p → s.engine.lMax < body.length + 7 →
      exec (.unknownKind p tag kind body) s = .next (replied p kind tag .oversize [.u16 s.engine.lMax]
        (s.setLine p { idleLine s p with counters := { (idleLine s p).counters with
            oversize := if (s.line p).counters.oversize < 65535 then (s.line p).counters.oversize + 1 else 65535 } }))) ∧
    (s.powered = true → 1 ≤ (s.line p).free → ∀ kept : List Byte, kept <+: body →
      (s.line p).buffer = some { kind := kind, tag := tag, body := kept, length := body.length + 2, oversize := true } →
      exec (.unknownKind p tag kind body) s = .next (replied p kind tag .oversize [.u16 s.engine.lMax]
        (s.setLine p { s.line p with buffer := none }))) ∧
    (s.powered = true → (s.line p).free = 0 → CanReceive s p →
      exec (.unknownKind p tag kind body) s = .next
        (if body.length + 7 ≤ s.engine.lMax then
          s.setLine p { idleLine s p with
            buffer := some { kind := kind, tag := tag, body := body, length := body.length + 2, oversize := false } }
        else
          s.setLine p { idleLine s p with
            buffer := some { kind := kind, tag := tag, body := body.take (s.engine.lMax - 5), length := body.length + 2,
                             oversize := true }
            counters := { (idleLine s p).counters with
              oversize := if (s.line p).counters.oversize < 65535 then (s.line p).counters.oversize + 1 else 65535 } })) ∧
    ((s.line p).free = 0 → (s.line p).buffer.isSome = true → exec (.unknownKind p tag kind body) s = .next s) ∧
    (s.powered = false ∨
        ((s.line p).buffer = none ∧
          ((s.line p).breakNow = true ∨ ((s.line p).receiver ≠ .waiting ∧ silenceDue s p = false))) ∨
        (∃ f, (s.line p).buffer = some f ∧
          (f.kind ≠ kind ∨ f.tag ≠ tag ∨ f.length ≠ body.length + 2 ∨ (f.oversize = false ∧ f.body ≠ body))) →
      exec (.unknownKind p tag kind body) s = .next s)

/-- What becomes of a message that is not judged. R193, R195, R197 check 1: a frame longer than L_max is answered OVERSIZE
with the L_max in force; one that arrives whole on an idle line is then counted oversize. R196: while the port's outbound
queue is full no frame is taken, one in the buffer stays there, and one that arrives whole comes to stand there, of an
oversize one the first L_max bytes, counted. R194: a frame that a silence has ended no longer stands in the way, and is counted
truncated (the model's reading, notes/assumptions/15.md).
The model's choice (notes/assumptions/2.md): on an unpowered part, during a break, with another frame being received or
another frame in the buffer, the command has no effect. -/
def Obligations.FramesThatAreNotJudged : Prop :=
  ∀ (c : Instr) (m : Message) (s : State), messageOf c = some m →
    (s.powered = true → 1 ≤ (s.line m.port).free → ∀ kept : List Byte, kept <+: m.bytes →
      (s.line m.port).buffer =
        some { kind := m.kind.code, tag := m.tag, body := kept, length := m.bytes.length + 2, oversize := true } →
      exec c s = .next (replied m.port m.kind.code m.tag .oversize [.u16 s.engine.lMax]
        (s.setLine m.port { s.line m.port with buffer := none }))) ∧
    (s.powered = true → CanReceive s m.port →
      (1 ≤ (s.line m.port).free → s.engine.lMax < m.bytes.length + 7 →
        exec c s = .next (replied m.port m.kind.code m.tag .oversize [.u16 s.engine.lMax]
          (s.setLine m.port { idleLine s m.port with counters := { (idleLine s m.port).counters with
            oversize := if (s.line m.port).counters.oversize < 65535 then (s.line m.port).counters.oversize + 1
              else 65535 } }))) ∧
      ((s.line m.port).free = 0 → m.bytes.length + 7 ≤ s.engine.lMax →
        exec c s = .next (s.setLine m.port { idleLine s m.port with
          buffer := some { kind := m.kind.code, tag := m.tag, body := m.bytes, length := m.bytes.length + 2,
                           oversize := false } })) ∧
      ((s.line m.port).free = 0 → s.engine.lMax < m.bytes.length + 7 →
        exec c s = .next (s.setLine m.port { idleLine s m.port with
          buffer := some { kind := m.kind.code, tag := m.tag, body := m.bytes.take (s.engine.lMax - 5),
                           length := m.bytes.length + 2, oversize := true }
          counters := { (idleLine s m.port).counters with
            oversize := if (s.line m.port).counters.oversize < 65535 then (s.line m.port).counters.oversize + 1
              else 65535 } }))) ∧
    ((s.line m.port).free = 0 → (s.line m.port).buffer.isSome = true → exec c s = .next s) ∧
    (s.powered = false ∨
        ((s.line m.port).buffer = none ∧
          ((s.line m.port).breakNow = true ∨ ((s.line m.port).receiver ≠ .waiting ∧ silenceDue s m.port = false))) ∨
        (∃ f, (s.line m.port).buffer = some f ∧
          (f.kind ≠ m.kind.code ∨ f.tag ≠ m.tag ∨ f.length ≠ m.bytes.length + 2 ∨
            (f.oversize = false ∧ f.body ≠ m.bytes))) →
      exec c s = .next s)

/-! ## Pool Accounts -/

/-- R4, R5: working the pool condition out anew records the condition that V, T and E give. If it is more constrained than
the recorded one, the POOL class's condition is set and the worst condition becomes the more constrained of itself and the
new one while the class is PENDING, and the new one otherwise. Nothing else changes.
(That a class queued again takes the new condition as the worst one is the model's reading of R5, notes/assumptions/17.md.) -/
def Obligations.PoolConditionIsWorkedOut : Prop :=
  ∀ s : State,
    ∃ c : PoolCondition,
      (c = .dry ↔ s.pool.p - s.pool.floor < s.pool.engagement) ∧
      (c = .ration ↔ s.pool.engagement ≤ s.pool.p - s.pool.floor ∧ 0 < s.pool.threshold ∧
        s.pool.p - s.pool.floor < s.pool.threshold) ∧
      recheckPool s =
        if s.pool.recorded.rank < c.rank then
          setCondition .pool { s with pool := { s.pool with
            recorded := c
            worst := if (s.noticeClass .pool).phase = .pending ∧ c.rank ≤ s.pool.worst.rank then s.pool.worst else c } }
        else { s with pool := { s.pool with recorded := c } }

/-- R6: a DEPOSIT with an amount of 1 to 99,999,999,999 and a voucher above the last one raises P, Dep and the deposits of
the current bank, each up to 2^48 − 1, with the saturated mark where one is held there; the voucher is kept, the pool
condition is worked out anew, and the reply gives the voucher, P, V and the condition. Any other is refused OUT-OF-RANGE
with no effect.
R7: a REFUND of 1 to 99,999,999,999 that does not exceed P lowers P and raises RF and the refunds of the current bank;
the pool condition is worked out anew, and the reply gives P, V and the condition. It is checked against P and not V. An
amount out of range is refused OUT-OF-RANGE and one above P LIMIT, with no effect.
(That an amount out of range and above P is answered OUT-OF-RANGE is the model's choice, notes/assumptions/25.md.) -/
def Obligations.DepositsAndRefundsMovePoolMoney : Prop :=
  (∀ (tag : Byte) (m : DepositMsg) (s t : State), Taken .operations 0x10 tag m.bytes s t → t.monitor.state = .inService →
    exec (.deposit .operations tag (.fields m)) s = .next
      (if m.amount.toNat = 0 ∨ 99999999999 < m.amount.toNat ∨ m.voucher.toNat ≤ t.pool.lastVoucher.toNat then
        replied .operations 0x10 tag .outOfRange [] t
      else
        let x := m.amount.toNat
        let u := recheckPool
          { t with
            pool := { t.pool with p := min (t.pool.p + x) (2 ^ 48 - 1), dep := min (t.pool.dep + x) (2 ^ 48 - 1),
                                  lastVoucher := m.voucher }
            periods := { t.periods with current := { t.periods.current with
              deposits := min (t.periods.current.deposits + x) (2 ^ 48 - 1)
              saturated := t.periods.current.saturated ||
                decide (2 ^ 48 - 1 < t.periods.current.deposits + x ∨ 2 ^ 48 - 1 < t.pool.p + x ∨
                  2 ^ 48 - 1 < t.pool.dep + x) } } }
        replied .operations 0x10 tag .ok
          [.u32 m.voucher.toNat, .u48 u.pool.p, .u48 (u.pool.p - u.pool.floor), .u8 u.pool.recorded.code] u)) ∧
  ∀ (tag : Byte) (m : RefundMsg) (s t : State), Taken .audit 0x31 tag m.bytes s t → t.monitor.state = .inService →
    exec (.refund .audit tag (.fields m)) s = .next
      (if m.amount.toNat = 0 ∨ 99999999999 < m.amount.toNat then replied .audit 0x31 tag .outOfRange [] t
      else if t.pool.p < m.amount.toNat then replied .audit 0x31 tag .limit [] t
      else
        let x := m.amount.toNat
        let u := recheckPool
          { t with
            pool := { t.pool with p := t.pool.p - x, rf := min (t.pool.rf + x) (2 ^ 48 - 1) }
            periods := { t.periods with current := { t.periods.current with
              refunds := min (t.periods.current.refunds + x) (2 ^ 48 - 1)
              saturated := t.periods.current.saturated ||
                decide (2 ^ 48 - 1 < t.periods.current.refunds + x ∨ 2 ^ 48 - 1 < t.pool.p ∨
                  2 ^ 48 - 1 < t.pool.rf + x) } } }
        replied .audit 0x31 tag .ok [.u48 u.pool.p, .u48 (u.pool.p - u.pool.floor), .u8 u.pool.recorded.code] u)

/-! ## Settings -/

/-- R8, R53, R88, R154, R182, R204: a request that replaces settings, with every field in its range, replaces them all in
one change and answers OK with them: SET-POOL-LIMITS (the condition worked out anew), SET-URGENCY-MAP, SET-ENGINE,
SET-TOLERANCE, SET-FAULT-POLICY and SET-NOTICES (the phases stay). With a field out of its range it is refused OUT-OF-RANGE
and changes nothing.
(The width of the occupied slots in the SET-ENGINE reply, and the port after a queued phase in that of SET-NOTICES, are the
model's choice, notes/assumptions/14.md.) -/
def Obligations.SettingsAreReplaced : Prop :=
  (∀ (tag : Byte) (m : PoolLimitsMsg) (s t : State), Taken .audit 0x32 tag m.bytes s t → t.monitor.state ≠ .lockdown →
      exec (.setPoolLimits .audit tag (.fields m)) s = .next
        (if m.floor.toNat < 10 ^ 12 ∧ m.threshold.toNat < 10 ^ 12 ∧ 1 ≤ m.engagement.toNat ∧
            m.engagement.toNat ≤ 99999999 then
          let u := recheckPool { t with pool := { t.pool with
              floor := m.floor.toNat, threshold := m.threshold.toNat, engagement := m.engagement.toNat } }
          replied .audit 0x32 tag .ok
            [.u48 m.floor.toNat, .u48 m.threshold.toNat, .u48 m.engagement.toNat, .u48 t.pool.p,
             .u48 (t.pool.p - m.floor.toNat), .u8 u.pool.recorded.code] u
        else replied .audit 0x32 tag .outOfRange [] t)) ∧
  (∀ (tag : Byte) (m : UrgencyMapMsg) (s t : State), Taken .operations 0x17 tag m.bytes s t →
      exec (.setUrgencyMap .operations tag (.fields m)) s = .next
        (if ∀ x ∈ m.entries.toList, x = 0 ∨ x = 1 then
          replied .operations 0x17 tag .ok (m.entries.toList.map (fun x => .u8 x.toNat))
            { t with urgencyMap := mapAll (fun x => if x = 1 then .high else .low) m.entries }
        else replied .operations 0x17 tag .outOfRange [] t)) ∧
  (∀ (tag : Byte) (m : SetEngineMsg) (s t : State), Taken .operations 0x18 tag m.bytes s t →
      exec (.setEngine .operations tag (.fields m)) s = .next
        (if 30 ≤ m.window.toNat ∧ m.window.toNat ≤ 3600 ∧ 1 ≤ m.batchLimit.toNat ∧ m.batchLimit.toNat ≤ 16 ∧
            64 ≤ m.lMax.toNat ∧ m.lMax.toNat ≤ 1024 then
          replied .operations 0x18 tag .ok
            [.u16 m.window.toNat, .u8 m.batchLimit.toNat, .u16 m.lMax.toNat, .u8 t.engine.state.code,
             .u8 (occupiedSlots t), .u16 t.engine.nextSerial.toNat]
            { t with engine := { t.engine with
                window := m.window.toNat, batchLimit := m.batchLimit.toNat, lMax := m.lMax.toNat } }
        else replied .operations 0x18 tag .outOfRange [] t)) ∧
  (∀ (tag : Byte) (m : ToleranceMsg) (s t : State), Taken .audit 0x34 tag m.bytes s t →
      exec (.setTolerance .audit tag (.fields m)) s = .next
        (if m.tolerance.toNat < 10 ^ 12 then
          replied .audit 0x34 tag .ok [.u48 m.tolerance.toNat]
            { t with stock := { t.stock with tolerance := m.tolerance.toNat } }
        else replied .audit 0x34 tag .outOfRange [] t)) ∧
  (∀ (tag : Byte) (m : PolicyMsg) (s t : State), Taken .audit 0x33 tag m.bytes s t →
      exec (.setFaultPolicy .audit tag (.fields m)) s = .next
        (if m.policy = 0 ∨ m.policy = 1 then
          replied .audit 0x33 tag .ok [.u8 m.policy.toNat, .u8 t.monitor.state.code, .u8 t.monitor.log.severity.code]
            { t with monitor := { t.monitor with policy := if m.policy = 0 then .strict else .advisory } }
        else replied .audit 0x33 tag .outOfRange [] t)) ∧
  ∀ (tag : Byte) (m : SetNoticesMsg) (s t : State), Taken .operations 0x27 tag m.bytes s t →
      exec (.setNotices .operations tag (.fields m)) s = .next
        (if ∀ x ∈ m.pairs.toList, (x.enabled = 0 ∨ x.enabled = 1) ∧ (x.route = 0 ∨ x.route = 1) then
          let u := { t with notices := { t.notices with
            classes := zipAll (fun e x => { e with
                enabled := x.enabled == 1, route := if x.route = 1 then .audit else .operations })
              t.notices.classes m.pairs } }
          replied .operations 0x27 tag .ok (noticesBody u) u
        else replied .operations 0x27 tag .outOfRange [] t)

/-! ## Queries -/

/-- R9, R42, R68, R128, R159, R170, R183, R205: on either port and in every part state, a query with its numbers in range
is answered OK with the figures as they stand, one with a number out of range OUT-OF-RANGE, and either changes nothing but
the line that carries it. R202: QUERY-LINE answers with the named port's rate, L_max, free places, buffer, ready-in,
ready-out and seven counters, and sets that port's counters to 0; a silence that has passed there is counted first (R194). The bodies of the other replies are given field by field.
(How a reply lays out its optional parts, and the count before the pending order of QUERY-BRANCH, are the model's choice,
notes/assumptions/14.md.)
(Where two readings of a reply fit, the model's reading is in notes/assumptions/11.md, 15.md and 24.md; that the present level of ready-in comes
with the query, and is kept, is its choice, notes/assumptions/8.md.) -/
def Obligations.QueriesChangeNothing : Prop :=
  ∀ (p : Port) (tag : Byte) (s t : State),
    (Taken p 0x40 tag [] s t →
      exec (.queryPool p tag (.fields ())) s = .next (replied p 0x40 tag .ok (poolBody t.pool) t)) ∧
    (∀ m : MeterMsg, Taken p 0x41 tag m.bytes s t →
      exec (.queryMeter p tag (.fields m)) s = .next
        (if h : m.meter.toNat < 192 then replied p 0x41 tag .ok (meterBody t ⟨m.meter.toNat, h⟩) t
        else replied p 0x41 tag .outOfRange [] t)) ∧
    (∀ m : BranchMsg, Taken p 0x42 tag m.bytes s t →
      exec (.queryBranch p tag (.fields m)) s = .next
        (if h : m.branch.toNat < 48 then replied p 0x42 tag .ok (branchBody t ⟨m.branch.toNat, h⟩) t
        else replied p 0x42 tag .outOfRange [] t)) ∧
    (∀ m : QueryStockMsg, Taken p 0x43 tag m.bytes s t →
      exec (.queryStock p tag (.fields m)) s = .next
        (if h : m.branch.toNat < 48 ∧ m.first.toNat < 12 ∧ m.count.toNat ≤ 12 then
          let b : BranchId := ⟨m.branch.toNat, h.1⟩
          replied p 0x43 tag .ok
            ([.u48 t.stock.tolerance, .u16 t.stock.reorder.length,
              .u8 (t.stock.reorder.countP (fun x => x.1 == b))] ++
              (((List.finRange 12).drop m.first.toNat).take m.count.toNat).flatMap (stockLineFields t b)) t
        else replied p 0x43 tag .outOfRange [] t)) ∧
    (∀ m : QueryListMsg, Taken p 0x44 tag m.bytes s t →
      exec (.queryList p tag (.fields m)) s = .next
        (if m.first.toNat ≤ 31 ∧ m.count.toNat ≤ 32 then
          replied p 0x44 tag .ok (listBody t m.first.toNat m.count.toNat) t
        else replied p 0x44 tag .outOfRange [] t)) ∧
    (∀ m : QueryPeriodMsg, Taken p 0x45 tag m.bytes s t →
      exec (.queryPeriod p tag (.fields m)) s = .next
        (if h : m.first.toNat < 48 ∧ (m.bank = 0 ∨ m.bank = 1) ∧ m.count.toNat ≤ 8 then
          replied p 0x45 tag .ok (periodBody t (m.bank == 1) ⟨m.first.toNat, h.1⟩ m.count.toNat) t
        else replied p 0x45 tag .outOfRange [] t)) ∧
    (Taken p 0x46 tag [] s t →
      exec (.queryFaults p tag (.fields ())) s = .next (replied p 0x46 tag .ok (faultsBody t) t)) ∧
    (Taken p 0x48 tag [] s t →
      exec (.queryNotices p tag (.fields ())) s = .next (replied p 0x48 tag .ok (noticesBody t) t)) ∧
    (∀ m : QueryLineMsg, Taken p 0x47 tag m.bytes s t →
      (∀ q : Port, m.port.toNat = q.code →
        exec (.queryLine p tag (.fields m)) s = .next
          (replied p 0x47 tag .ok
            [.u32 (t.line q).rate.bitsPerSecond, .u16 t.engine.lMax, .u8 (16 - (t.line q).queue.length),
             flag (t.line q).buffer.isSome, flag m.readyIn,
             flag (decide ((t.line q).buffer = none ∧ 2 ≤ 16 - (t.line q).queue.length)),
             .u16 (t.line q).counters.discarded, .u16 (t.line q).counters.shortLength,
             .u16 (truncatedNow t q), .u16 (t.line q).counters.garbled, .u16 (t.line q).counters.oversize,
             .u16 (t.line q).counters.overruns, .u16 (t.line q).counters.breaks]
            (t.setLine q { t.line q with
              readyIn := m.readyIn
              receiver := if silenceDue t q then .waiting else (t.line q).receiver
              counters := { discarded := 0, shortLength := 0, truncated := 0, garbled := 0, oversize := 0, overruns := 0,
                            breaks := 0 } }))) ∧
      (2 ≤ m.port.toNat →
        exec (.queryLine p tag (.fields m)) s = .next (replied p 0x47 tag .outOfRange [] t))) ∧
    let opt (x : Option (List WireField)) : List WireField := x.elim [.u8 0] (fun fs => .u8 1 :: fs)
    let parts (xs : List (List WireField)) : List WireField := xs.flatten
    let left (e : Word32) : Nat := if (t.timeBase - e).toNat < 2 ^ 31 then 0 else (e - t.timeBase).toNat
    poolBody t.pool =
      [.u48 t.pool.p, .u48 t.pool.dep, .u48 t.pool.g, .u48 t.pool.i, .u48 t.pool.r, .u48 t.pool.rf, .u48 t.pool.k,
       .u48 t.pool.floor, .u48 t.pool.threshold, .u48 t.pool.engagement, .u48 (t.pool.p - t.pool.floor),
       .u8 t.pool.recorded.code, .u8 t.pool.worst.code, .u32 t.pool.lastVoucher.toNat, flag (t.pool.p == 2 ^ 48 - 1),
       flag (t.pool.dep == 2 ^ 48 - 1), flag (t.pool.g == 2 ^ 48 - 1), flag (t.pool.i == 2 ^ 48 - 1),
       flag (t.pool.r == 2 ^ 48 - 1), flag (t.pool.rf == 2 ^ 48 - 1), flag (t.pool.k == 2 ^ 48 - 1)] ∧
    (∀ n : MeterId,
      let r := t.meter n
      meterBody t n = parts
        [[.u8 r.state.code, .u8 r.branch.val, .u48 r.base, .s64 r.credited, .u48 r.ct, .u48 r.arMirror, .u48 r.drMirror,
          .u32 r.lastLabels.toNat, .u48 r.settings.ceiling, .u48 r.settings.step, .u48 r.settings.minimum,
          .u32 r.settings.holdOff, .u8 r.settings.hours, .u8 (r.settings.link.elim 255 Fin.val)],
         opt (r.pendingReq.map (fun q =>
           [.u48 q.q, .u8 q.urgency.val, .u8 ((t.branch r.branch).order.idxOf n + 1)])),
         opt (r.grant.map (fun g => parts
           [[.u16 g.serial.toNat, .u48 g.amount, .u8 g.phase.code, .u8 g.source.code],
            match g.source with
            | .list i => opt (i.map (fun x => [.u8 x]))
            | .request => [],
            match g.phase with
            | .offered k => [.u8 k.val, .u32 ((t.engine.slots.get k).elim 0 (fun x => left x.expiry))]
            | .doubtful => []])),
         opt (r.lastOutcome.map (fun o => parts
           [[.u16 o.serial.toNat, .u8 (if o.result = .applied then 3 else 4), .u8 o.claim.code],
            match o.claim with
            | .rejected reason => [.u8 reason.toNat]
            | _ => []])),
         opt (r.rejected.map (fun x => [.u48 x.ar, .u48 x.dr])), opt (r.holdOff.map (fun e => [.u32 (left e)])),
         opt (r.supervision.map (fun e => [.u32 (left e)]))]) ∧
    (∀ b : BranchId,
      let k := t.branch b
      branchBody t b = parts
        [[flag k.configured, .u8 k.cls.code, .u8 k.weight, flag k.batch, flag k.suspended],
         opt (k.allowance.map (fun a => [.u48 a.period, .u48 a.remaining])),
         [.u8 k.pace, .u8 (enrolledAt t b), .u8 k.order.length],
         k.order.flatMap (fun n =>
           let r := t.meter n
           [.u8 n.val, .u48 (r.pendingReq.elim 0 PendingRequest.q), .u8 (r.pendingReq.elim 0 (fun x => x.urgency.val)),
            .u8 (r.pendingReq.elim 0 (fun x => (t.urgencyMap.get x.urgency).code)),
            flag (r.pendingReq.isSome && r.state == .active && r.holdOff.isNone), .u32 (r.holdOff.elim 0 left)]),
         t.urgencyMap.toList.map (fun x => .u8 x.code), [.u8 t.arbiter.high.val, .u8 t.arbiter.low.val],
         opt (t.arbiter.holder.map (fun h => [.u8 h.1.val])), [.u8 t.arbiter.counter]]) ∧
    (∀ (b : BranchId) (l : LineNo),
      let x := t.stockLine b l
      stockLineFields t b l =
        [.u8 l.val, flag x.configured, .u16 x.item.toNat, .u8 x.kind.code, .u32 x.face, .u32 x.onHand, .u32 x.level,
         flag x.raised, flag (t.stock.reorder.contains (b, l)), .u32 x.receipts, .u32 x.issues, .u32 x.spoilage,
         .u32 x.shortfall, .u8 (linkedTo t b l)]) ∧
    (∀ first count : Nat, listBody t first count = parts
      [[.u8 t.list.state.code, .u8 t.list.cls.code, flag t.list.batch, .u8 t.list.entries.length, .u8 t.list.next],
       (List.range 8).map (fun code => .u8 (t.list.entries.countP (fun e => e.outcome.code == code))),
       [flag (t.arbiter.holder.any (fun h => h.1 == 48))],
       ((t.list.entries.zipIdx.drop first).take count).flatMap (fun x => parts
         [[.u8 x.2, .u8 x.1.meter.val, .u48 x.1.q, .u8 (x.1.quiet.toNat + 2 * x.1.stopOnShort.toNat),
           .u8 x.1.outcome.code],
          match x.1.outcome with
          | .skippedState found => [.u8 1, .u8 found.code]
          | .short cause => [.u8 1, .u8 cause.code]
          | _ => [.u8 0],
          opt (x.1.serial.map (fun n => [.u16 n.toNat]))])]) ∧
    (∀ (closing : Bool) (first : BranchId) (count : Nat),
      let k := if closing then t.periods.closing else t.periods.current
      periodBody t closing first count = parts
        [[flag closing, .u32 k.stamp.toNat, .u8 k.spanned, flag k.saturated],
         opt (k.poolAtClose.map (fun x => [.u48 x])),
         if closing then [flag t.periods.held, flag t.periods.collected] else [],
         [.u48 k.deposits, .u48 k.refunds, .u48 k.purchases, .u48 k.sweeps, .s64 k.adjustments],
         opt (k.poolAtClose.map (fun x => [.u48 x])),
         (((List.finRange 48).drop first.val).take count).flatMap (fun b =>
           let f := k.branches.get b
           [.u8 b.val, .u48 f.used, .u32 f.appliedCount, .u48 f.appliedAmount, .u32 f.reversed, .u32 f.short,
            .u48 f.sales, .u48 f.spoilage, .s64 f.variance])]) ∧
    (let log := t.monitor.log
    faultsBody t = parts
      [[.u8 t.monitor.state.code, .u8 t.engine.state.code, .u8 t.monitor.policy.code, .u8 log.severity.code],
       opt (log.first.map (fun f =>
         [.u8 f.kind.code, .u8 f.kind.severity.code, .u32 f.time.toNat, .u48 f.ct, .u8 (f.meter.elim 0 Fin.val),
          flag f.meter.isSome, .u16 f.serial.toNat, .u48 f.amount, flag f.grantValid, .u48 (f.reading.elim 0 Reading.ar),
          .u48 (f.reading.elim 0 Reading.dr), flag f.reading.isSome])),
       [.u16 log.later, .u8 (log.lastKind.elim 0 FaultKind.code), .u16 log.suppressed]]) ∧
    noticesBody t = NoticeClass.all.flatMap (fun c =>
      let e := t.noticeClass c
      parts
        [[flag e.enabled, .u8 e.route.code, .u8 e.phase.code],
         match e.phase with
         | .queued q => [.u8 q.code]
         | .queuedAgain q => [.u8 q.code]
         | _ => []])

/-! ## The Meter Table -/

/-- R24, R25: ENROL-METER of a VACANT or RETIRED meter at a configured branch with a free place and DR 0 sets the record up
afresh, ACTIVE, with base, CT and AR mirror at the opening AR; the supervision timer starts with 26 hours unless the part is
UNCOMMISSIONED. A number out of range, another DR or an unconfigured branch is refused OUT-OF-RANGE, an enrolled meter
BAD-STATE, and a branch of 8 enrolled meters FULL, with no effect. -/
def Obligations.EnrolmentSetsUpTheRecord : Prop :=
  ∀ (tag : Byte) (m : EnrolMsg) (s t : State), Taken .operations 0x11 tag m.bytes s t →
    let refused (st : Status) : State := replied .operations 0x11 tag st [] t
    exec (.enrolMeter .operations tag (.fields m)) s = .next
      (if h : m.meter.toNat < 192 ∧ m.branch.toNat < 48 then
        let n : MeterId := ⟨m.meter.toNat, h.1⟩
        let b : BranchId := ⟨m.branch.toNat, h.2⟩
        if m.dr ≠ 0 ∨ (t.branch b).configured = false then refused .outOfRange
        else if (t.meter n).state ≠ .vacant ∧ (t.meter n).state ≠ .retired then refused .badState
        else if 8 ≤ enrolledAt t b then refused .full
        else
          replied .operations 0x11 tag .ok [.u8 n.val, .u8 b.val, .u48 m.ar.toNat, .u8 1]
            (modMeter n (fun _ =>
              { state := .active, branch := b, base := m.ar.toNat, credited := 0, ct := m.ar.toNat,
                arMirror := m.ar.toNat, drMirror := 0, lastLabels := m.labels,
                settings := { ceiling := 500000, step := 100, minimum := 1000, holdOff := 600, hours := 26, link := none },
                pendingReq := none, grant := none, lastOutcome := none, rejected := none, holdOff := none,
                supervision := if t.monitor.state = .uncommissioned then none else some (t.timeBase + 93600) }) t)
      else refused .outOfRange)

/-- R27, R28: CONFIGURE-METER of an ACTIVE, SILENT or SUSPENDED meter, with every setting in range and a link that is absent
or names a configured LABEL line of the meter's branch, replaces all six settings, and a running supervision timer starts
afresh with the new period. Any other is refused, OUT-OF-RANGE or BAD-STATE, with no effect. -/
def Obligations.MeterSettingsAreReplaced : Prop :=
  ∀ (tag : Byte) (m : ConfigureMeterMsg) (s t : State), Taken .operations 0x12 tag m.bytes s t →
    let refused (st : Status) : State := replied .operations 0x12 tag st [] t
    exec (.configureMeter .operations tag (.fields m)) s = .next
      (if h : m.meter.toNat < 192 then
        let n : MeterId := ⟨m.meter.toNat, h⟩
        if (t.meter n).state ≠ .active ∧ (t.meter n).state ≠ .silent ∧ (t.meter n).state ≠ .suspended then
          refused .badState
        else if 100 ≤ m.ceiling.toNat ∧ m.ceiling.toNat ≤ 99999999 ∧ 1 ≤ m.step.toNat ∧ m.step.toNat ≤ 100000 ∧
            m.minimum.toNat ≤ 99999999 ∧ m.holdOff.toNat ≤ 86400 ∧ 1 ≤ m.hours.toNat ∧ m.hours.toNat ≤ 168 ∧
            (m.link = 255 ∨ ∃ l : LineNo, m.link.toNat = l.val ∧
              (t.stockLine (t.meter n).branch l).configured = true ∧
              (t.stockLine (t.meter n).branch l).kind = .label) then
          replied .operations 0x12 tag .ok
            [.u8 n.val, .u48 m.ceiling.toNat, .u48 m.step.toNat, .u48 m.minimum.toNat, .u32 m.holdOff.toNat,
             .u8 m.hours.toNat, .u8 m.link.toNat, .u8 (t.meter n).state.code]
            (modMeter n (fun r => { r with
              settings :=
                { ceiling := m.ceiling.toNat, step := m.step.toNat, minimum := m.minimum.toNat,
                  holdOff := m.holdOff.toNat, hours := m.hours.toNat, link := lineOf m.link }
              supervision := r.supervision.map (fun _ => t.timeBase + BitVec.ofNat 32 (3600 * m.hours.toNat)) }) t)
        else refused .outOfRange
      else refused .outOfRange)

/-- R23, R29, R30, R57: SUSPEND-METER makes an ACTIVE or SILENT meter SUSPENDED, drops its pending request, which leaves its
branch's pending order in the same change, and stops its supervision timer. A SUSPENDED meter is answered OK with no
effect, a VACANT or RETIRED one UNKNOWN-METER, a DRAINING or AWAITING-READING one BAD-STATE. -/
def Obligations.SuspensionWithholdsTheMeter : Prop :=
  ∀ (tag : Byte) (m : MeterMsg) (s t : State), Taken .operations 0x13 tag m.bytes s t →
    t.monitor.state ≠ .uncommissioned →
    let refused (st : Status) : State := replied .operations 0x13 tag st [] t
    exec (.suspendMeter .operations tag (.fields m)) s = .next
      (if h : m.meter.toNat < 192 then
        let n : MeterId := ⟨m.meter.toNat, h⟩
        let b := (t.meter n).branch
        if (t.meter n).state = .vacant ∨ (t.meter n).state = .retired then refused .unknownMeter
        else if (t.meter n).state = .draining ∨ (t.meter n).state = .awaitingReading then refused .badState
        else
          replied .operations 0x13 tag .ok [.u8 3]
            (if (t.meter n).state = .suspended then t
            else
              modMeter n (fun r => { r with state := .suspended, pendingReq := none, supervision := none })
                (if (t.meter n).pendingReq = none then t
                else modBranch b (fun k => { k with order := k.order.filter (fun x => x != n) }) t))
      else refused .outOfRange)

/-- R130, R131: RETIRE-METER of an ACTIVE, SILENT or SUSPENDED meter drops its pending request and stops both timers; it
enters DRAINING while it holds an OFFERED grant and AWAITING-READING otherwise. In DRAINING and AWAITING-READING the
request is answered OK with no effect; a VACANT or RETIRED meter is refused UNKNOWN-METER. The reply gives the state and
any unresolved grant.
(How a reply lays out its optional parts is the model's choice, notes/assumptions/14.md.) -/
def Obligations.RetirementBegins : Prop :=
  ∀ (tag : Byte) (m : MeterMsg) (s t : State), Taken .operations 0x14 tag m.bytes s t →
    t.monitor.state ≠ .uncommissioned →
    let refused (st : Status) : State := replied .operations 0x14 tag st [] t
    exec (.retireMeter .operations tag (.fields m)) s = .next
      (if h : m.meter.toNat < 192 then
        let n : MeterId := ⟨m.meter.toNat, h⟩
        let b := (t.meter n).branch
        if (t.meter n).state = .vacant ∨ (t.meter n).state = .retired then refused .unknownMeter
        else
          let u :=
            if (t.meter n).state = .draining ∨ (t.meter n).state = .awaitingReading then t
            else
              modMeter n (fun r => { r with
                  pendingReq := none, supervision := none, holdOff := none
                  state := if r.grant.any Grant.isOffered then .draining else .awaitingReading })
                (if (t.meter n).pendingReq = none then t
                else modBranch b (fun k => { k with order := k.order.filter (fun x => x != n) }) t)
          replied .operations 0x14 tag .ok
            (match (t.meter n).grant with
            | none => [.u8 n.val, .u8 (u.meter n).state.code, .u8 0]
            | some g =>
              [.u8 n.val, .u8 (u.meter n).state.code, .u8 1, .u16 g.serial.toNat, .u48 g.amount, .u8 g.phase.code]) u
      else refused .outOfRange)

/-- R38 steps 1 to 6, R39, R151: an accepted reading adds its usage to the branch's postage used when it is above 0, takes
the registers into the mirrors and the label counter into last labels, clears the last rejected reading, makes a SILENT meter
ACTIVE, and starts an ACTIVE meter's supervision timer afresh. A label delta above 0 consumes pieces of the linked line, the
excess going to shortfall, and the line is evaluated for reorder. Nothing else changes. -/
def Obligations.AcceptedReadingsAreMirrored : Prop :=
  ∀ (m : MeterId) (rd : Report) (s : State),
    let r := s.meter m
    let used := rd.ar - r.arMirror
    let delta := (rd.labels - r.lastLabels).toNat
    let banked : State :=
      if used = 0 then s
      else { s with periods := { s.periods with current := { s.periods.current with
        branches := modifyAt s.periods.current.branches r.branch (fun k => { k with used := min (k.used + used) (2 ^ 48 - 1) })
        saturated := s.periods.current.saturated ||
          decide (2 ^ 48 - 1 < (s.periods.current.branches.get r.branch).used + used) } } }
    let met : State := modMeter m (fun x => { x with
        arMirror := rd.ar, drMirror := rd.dr, lastLabels := rd.labels, rejected := none
        state := if x.state = .silent then .active else x.state
        supervision := if x.state = .silent ∨ x.state = .active then
            some (s.timeBase + BitVec.ofNat 32 (3600 * x.settings.hours))
          else x.supervision }) banked
    acceptReading m rd s =
      match r.settings.link with
      | none => met
      | some l =>
        if delta = 0 then met
        else
          evaluateReorder r.branch l (modStockLine r.branch l (fun x => { x with
            onHand := x.onHand - delta
            shortfall := min (x.shortfall + (delta - x.onHand)) (2 ^ 32 - 1)
            issues := min (x.issues + delta) (2 ^ 32 - 1) }) met)

/-- R36, R37, R40, R103, R104: METER-STATUS, for a meter in service. An AR below the mirror is REGISTER-REGRESS. A total of
CT is consistent, and its reading is accepted; a DOUBTFUL grant is then released with it. A total of CT and the grant's
amount, within 2^48 − 1, confirms the grant. Any other total is TOTAL-MISMATCH. An inconsistent reading is kept as the last
rejected reading, and a fault with the meter, CT, the grant and the reading is handed over.
(The reply of a report that settles a grant is the model's reading of R38, notes/assumptions/12.md.) -/
def Obligations.StatusReportsAreJudged : Prop :=
  ∀ (tag : Byte) (m : ReadingMsg) (s t : State), Taken .operations 0x01 tag m.bytes s t →
    t.monitor.state ≠ .uncommissioned →
    let refused (st : Status) : State := replied .operations 0x01 tag st [] t
    (192 ≤ m.meter.toNat → exec (.meterStatus .operations tag (.fields m)) s = .next (refused .outOfRange)) ∧
    ∀ n : MeterId, m.meter.toNat = n.val →
      let r := t.meter n
      let rd : Report := { ar := m.ar.toNat, dr := m.dr.toNat, labels := m.labels }
      let total := m.ar.toNat + m.dr.toNat
      let consistent (u : State) : State :=
        replied .operations 0x01 tag .ok
          [.u8 1, .u8 (u.meter n).state.code, .u48 (u.meter n).ct, .u48 (u.meter n).arMirror, .u48 (u.meter n).drMirror,
           .u48 (u.meter n).drMirror] u
      let inconsistent (k : FaultKind) : State :=
        let u := handFault
          { kind := k, time := t.timeBase, ct := r.ct, meter := some n, serial := r.grant.elim 0 Grant.serial,
            amount := r.grant.elim 0 Grant.amount, grantValid := r.grant.isSome,
            reading := some { ar := m.ar.toNat, dr := m.dr.toNat } }
          (modMeter n (fun x => { x with rejected := some { ar := m.ar.toNat, dr := m.dr.toNat } }) t)
        replied .operations 0x01 tag .ok
          [.u8 2, .u8 k.code, .u8 (u.meter n).state.code, .u48 (u.meter n).ct, .u48 (u.meter n).arMirror,
           .u48 (u.meter n).drMirror] u
      (r.state = .vacant ∨ r.state = .retired →
        exec (.meterStatus .operations tag (.fields m)) s = .next (refused .unknownMeter)) ∧
      (r.state = .active ∨ r.state = .silent ∨ r.state = .suspended ∨ r.state = .draining →
        exec (.meterStatus .operations tag (.fields m)) s = .next
          (if m.ar.toNat < r.arMirror then inconsistent .registerRegress
          else
            match r.grant with
            | none => if total = r.ct then consistent (acceptReading n rd t) else inconsistent .totalMismatch
            | some g =>
              if total = r.ct + g.amount ∧ total < 2 ^ 48 ∧ (total = r.ct → g.isOffered = true) then
                consistent (confirmGrant n g .none rd t)
              else if total = r.ct then
                if g.isOffered then consistent (acceptReading n rd t)
                else consistent (releaseGrant n g .none (some rd) t)
              else inconsistent .totalMismatch))

/-! ## Faults -/

/-- R30, R177, R179 to R181, R184: a fault handed over in LOCKDOWN by an inconsistency kind only counts among the suppressed.
Any other is logged: the severity becomes the greater, the first fault is kept, later ones are counted, and the FAULT class's
condition is set. Outside LOCKDOWN an ACTIVE or SILENT meter that it names becomes SUSPENDED. In service a BREACH, and under
STRICT a DISCREPANCY, takes the part into LOCKDOWN: the engine stops, every pending request is dropped, and a RUNNING or
HALTING list is HALTED with its condition. Nothing else changes. -/
def Obligations.FaultsAreHandled : Prop :=
  ∀ (f : FaultRecord) (s : State),
    let u := handFault f s
    let breach : Bool := f.kind == .registerRegress || f.kind == .retentionLost
    let discrepancy : Bool := f.kind == .totalMismatch || f.kind == .claimMismatch || f.kind == .finalMismatch
    let hushed : Bool := s.monitor.state == .lockdown && (discrepancy || f.kind == .registerRegress)
    let locks : Bool := s.monitor.state == .inService && (breach || (discrepancy && s.monitor.policy == .strict))
    let suspends (n : MeterId) : Bool :=
      f.meter == some n && s.monitor.state != .lockdown && ((s.meter n).state == .active || (s.meter n).state == .silent)
    let halts : Bool := locks && (s.list.state == .running || s.list.state == .halting)
    (hushed = true →
      u = { s with monitor := { s.monitor with log := { s.monitor.log with
        suppressed := min (s.monitor.log.suppressed + 1) 65535 } } }) ∧
    (hushed = false →
      u.monitor =
        { state := if locks then .lockdown else s.monitor.state
          policy := s.monitor.policy
          log :=
            { severity := if breach then .breach
                else if discrepancy then (if s.monitor.log.severity = .breach then .breach else .discrepancy)
                else (if s.monitor.log.severity = .none then .note else s.monitor.log.severity)
              first := if s.monitor.log.severity = .none then some f else s.monitor.log.first
              later := if s.monitor.log.severity = .none then s.monitor.log.later else min (s.monitor.log.later + 1) 65535
              lastKind := some f.kind
              suppressed := s.monitor.log.suppressed } } ∧
      u.engine = { s.engine with state := if locks then .stopped else s.engine.state } ∧
      u.list = { s.list with state := if halts then .halted else s.list.state } ∧
      (∀ n : MeterId, u.meter n = { s.meter n with
        state := if suspends n then .suspended else (s.meter n).state
        pendingReq := if locks || suspends n then none else (s.meter n).pendingReq
        supervision := if suspends n then none else (s.meter n).supervision }) ∧
      (∀ b : BranchId, u.branch b = { s.branch b with
        order :=
          if locks then []
          else (s.branch b).order.filter (fun n =>
            !(suspends n && (s.meter n).pendingReq.isSome && (s.meter n).branch == b)) }) ∧
      (∀ c : NoticeClass, u.noticeClass c = { s.noticeClass c with
        phase := if c = .fault ∨ (c = .list ∧ halts = true) then (s.noticeClass c).phase.afterCondition
          else (s.noticeClass c).phase }) ∧
      u = { s with
        monitor := u.monitor, engine := u.engine, list := u.list, meters := u.meters, branches := u.branches
        notices := { s.notices with classes := u.notices.classes } })

/-! ## Branches and refill requests -/

/-- R54 to R56: in service, a REFILL-REQUEST for 1 to 99,999,999 with an urgency of 0 to 7 from an ACTIVE meter with no
unresolved grant joins the end of its branch's pending order, or replaces the meter's request and keeps its place; the reply
is QUEUED. Any other is refused with the code of the table in R54 and no effect.
(That one byte of the reply tells a new request from a replacement is the model's reading, notes/assumptions/24.md.)
(The width of the place and the length of the pending order in the reply is the model's choice, notes/assumptions/14.md.) -/
def Obligations.RefillRequestsAreQueued : Prop :=
  ∀ (tag : Byte) (m : RefillMsg) (s t : State), Taken .operations 0x02 tag m.bytes s t → t.monitor.state = .inService →
    let refused (st : Status) : State := replied .operations 0x02 tag st [] t
    exec (.refillRequest .operations tag (.fields m)) s = .next
      (if h : m.meter.toNat < 192 then
        let n : MeterId := ⟨m.meter.toNat, h⟩
        let b := (t.meter n).branch
        if (t.meter n).state = .vacant ∨ (t.meter n).state = .retired then refused .unknownMeter
        else if hu : m.urgency.toNat < 8 then
          if m.q.toNat = 0 ∨ 99999999 < m.q.toNat then refused .outOfRange
          else if (t.meter n).state = .silent then refused .silent
          else if (t.meter n).state = .suspended then refused .suspended
          else if (t.meter n).state = .draining ∨ (t.meter n).state = .awaitingReading then refused .badState
          else if (t.meter n).grant ≠ none then refused .busy
          else
            let isNew := (t.meter n).pendingReq.isNone
            let order := if isNew then (t.branch b).order ++ [n] else (t.branch b).order
            let u := modBranch b (fun k => { k with order := order })
              (modMeter n (fun r => { r with pendingReq := some { q := m.q.toNat, urgency := ⟨m.urgency.toNat, hu⟩ } }) t)
            replied .operations 0x02 tag .queued
              [.u8 n.val, .u8 b.val, .u8 (order.idxOf n + 1), .u8 order.length, .u8 (if isNew then 1 else 0),
               .u32 (timerLeft t.timeBase (t.meter n).holdOff)] u
        else refused .outOfRange
      else refused .outOfRange)

/-- R45, R46, R48: a CONFIGURE-BRANCH with every field in range replaces the class, weight, batch, suspension and period
allowance and marks the branch configured. A becomes the period allowance where none was set, the lesser of itself and the
period allowance where one was, and ceases with it; pace and the pending order stay. With a field out of range it is refused
OUT-OF-RANGE with no effect.
(How a reply lays out its optional parts is the model's choice, notes/assumptions/14.md.) -/
def Obligations.BranchConfigurationIsReplaced : Prop :=
  ∀ (tag : Byte) (m : ConfigureBranchMsg) (s t : State), Taken .operations 0x16 tag m.bytes s t →
    exec (.configureBranch .operations tag (.fields m)) s = .next
      (if h : m.branch.toNat < 48 ∧ (m.cls = 0 ∨ m.cls = 1) ∧ 1 ≤ m.weight.toNat ∧ m.weight.toNat ≤ 64 ∧
          (m.batch = 0 ∨ m.batch = 1) ∧ (m.suspended = 0 ∨ m.suspended = 1) ∧
          (m.allowancePresent = 0 ∨
            (m.allowancePresent = 1 ∧ 1 ≤ m.allowance.toNat ∧ m.allowance.toNat < 10 ^ 12)) then
        let b : BranchId := ⟨m.branch.toNat, h.1⟩
        let new : Branch :=
          { configured := true
            cls := if m.cls = 1 then .high else .low
            weight := m.weight.toNat
            batch := m.batch == 1
            suspended := m.suspended == 1
            allowance := if m.allowancePresent = 0 then none
              else some { period := m.allowance.toNat
                          remaining := match (t.branch b).allowance with
                            | none => m.allowance.toNat
                            | some a => min a.remaining m.allowance.toNat }
            pace := (t.branch b).pace
            order := (t.branch b).order }
        replied .operations 0x16 tag .ok (.u8 b.val :: branchFields new ++ [.u8 new.order.length])
          (modBranch b (fun _ => new) t)
      else replied .operations 0x16 tag .outOfRange [] t)

/-! ## The Grant Engine -/

/-- R94, R98, R11, R34, R51, R122, R123: the confirmation of a grant `g` of meter `n` with the reading that showed it applied.
G falls and I rises by the amount, and the pool condition is worked out anew; credited and CT rise by it, the reading is
accepted, the last outcome is written, the grant is cleared and its slot freed, and a DRAINING meter is left
AWAITING-READING. For an ACTIVE or SUSPENDED meter the hold-off starts, 4 times as long while the pace read is above 0, and
the pace falls by 1. The branch's grants applied rise in the current bank. An entry of the list that the grant names becomes
APPLIED, and where it was the last one OFFERED of a list in DRAINING-LIST the list becomes DONE; a non-quiet entry and the
end of the list set the LIST condition (R127). A restart that waited for the last slot then takes effect (R105). Nothing else
changes before it: every field of every block is given. -/
def Obligations.ConfirmationCreditsTheMeter : Prop :=
  ∀ (n : MeterId) (g : Grant) (claim : Claim) (rd : Report) (s : State), (s.meter n).grant = some g →
    ∃ v : State,
      confirmGrant n g claim rd s =
        (if g.isOffered = true ∧ v.engine.state = .quiescing ∧ occupiedSlots v = 0 then restartTakesEffect v else v) ∧
      (let r := s.meter n
      let b := r.branch
      let met : MeterState := if r.state = .silent then .active else r.state
      let length := r.settings.holdOff * (if (s.branch b).pace = 0 then 1 else 4)
      let used := rd.ar - r.arMirror
      let bank := s.periods.current.branches.get b
      let entry : Option Nat := match g.source with
        | .list i => i
        | .request => none
      let entries : List Entry := match entry with
        | some i => s.list.entries.modify i (fun e => { e with outcome := .applied })
        | none => s.list.entries
      let ends : Bool := entry.isSome && s.list.state == .drainingList && entries.all (fun e => e.outcome != .offered)
      let spoken : Bool := entry.any (fun i => s.list.entries[i]?.any (fun e => !e.quiet))
      v.meter n =
        { r with
          credited := r.credited + g.amount, ct := r.ct + g.amount, arMirror := rd.ar, drMirror := rd.dr
          lastLabels := rd.labels, rejected := none, grant := none
          lastOutcome := some { serial := g.serial, result := .applied, claim := claim }
          state := if met = .draining then .awaitingReading else met
          supervision := if met = .active then some (s.timeBase + BitVec.ofNat 32 (3600 * r.settings.hours))
            else r.supervision
          holdOff := if met = .active ∨ met = .suspended then
              (if length = 0 then none else some (s.timeBase + BitVec.ofNat 32 length))
            else r.holdOff } ∧
      (∀ o : MeterId, o ≠ n → v.meter o = s.meter o) ∧
      v.branch b = { s.branch b with pace := (s.branch b).pace - 1 } ∧
      (∀ c : BranchId, c ≠ b → v.branch c = s.branch c) ∧
      v.pool = (recheckPool { s with
        pool := { s.pool with g := s.pool.g - g.amount, i := min (s.pool.i + g.amount) (2 ^ 48 - 1) } }).pool ∧
      (∀ k : SlotId, v.engine.slots.get k = if g.phase = .offered k then none else s.engine.slots.get k) ∧
      v.engine = { s.engine with slots := v.engine.slots } ∧
      v.periods = { s.periods with current := { s.periods.current with
        branches := modifyAt s.periods.current.branches b (fun k => { k with
          used := if used = 0 then k.used else min (k.used + used) (2 ^ 48 - 1)
          appliedCount := min (k.appliedCount + 1) (2 ^ 32 - 1)
          appliedAmount := min (k.appliedAmount + g.amount) (2 ^ 48 - 1) })
        saturated := s.periods.current.saturated ||
          decide (2 ^ 48 - 1 < s.pool.g ∨ s.pool.g < g.amount ∨ 2 ^ 48 - 1 < s.pool.i + g.amount ∨
            (0 < used ∧ 2 ^ 48 - 1 < bank.used + used) ∨ 2 ^ 32 - 1 < bank.appliedCount + 1 ∨
            2 ^ 48 - 1 < bank.appliedAmount + g.amount) } } ∧
      v.list = { s.list with entries := entries, state := if ends then .done else s.list.state } ∧
      v.stock = (acceptReading n rd s).stock ∧
      (∀ c : NoticeClass, v.noticeClass c = { s.noticeClass c with
        phase :=
          if (c = .pool ∧ s.pool.recorded.rank < v.pool.recorded.rank) ∨
              (c = .list ∧ (ends || spoken) = true) then
            (s.noticeClass c).phase.afterCondition
          else ((acceptReading n rd s).noticeClass c).phase }) ∧
      v = { s with
        pool := v.pool, meters := v.meters, branches := v.branches, engine := v.engine, list := v.list
        stock := v.stock, periods := v.periods
        notices := { s.notices with classes := v.notices.classes } })

/-- R95, R11, R49, R122, R123: the release of a grant `g` of meter `n`, with the reading that showed it not applied or, by an
audit action, with none. G falls and P rises by the amount, and the pool condition is worked out anew; for a REQUEST grant the
branch's A rises by it and is held at the period allowance; a reading is accepted; the last outcome is written REVERSED with
the claim, the grant is cleared and its slot freed, and a DRAINING meter is left AWAITING-READING. The hold-off and the pace
stay. The branch's grants reversed rise in the current bank. An entry of the list that the grant names becomes REVERSED, and
where it was the last one OFFERED of a list in DRAINING-LIST the list becomes DONE; a non-quiet entry and the end of the list
set the LIST condition (R127). A restart that waited for the last slot then takes effect. Nothing else changes before it:
every field of every block is given. -/
def Obligations.ReleaseReturnsTheAmount : Prop :=
  ∀ (n : MeterId) (g : Grant) (claim : Claim) (rd : Option Report) (s : State), (s.meter n).grant = some g →
    ∃ v : State,
      releaseGrant n g claim rd s =
        (if g.isOffered = true ∧ v.engine.state = .quiescing ∧ occupiedSlots v = 0 then restartTakesEffect v else v) ∧
      (let b := (s.meter n).branch
      let read : State := match rd with
        | some x => acceptReading n x s
        | none => s
      let r := read.meter n
      let used := rd.elim 0 (fun x => x.ar - (s.meter n).arMirror)
      let bank := s.periods.current.branches.get b
      let entry : Option Nat := match g.source with
        | .list i => i
        | .request => none
      let entries : List Entry := match entry with
        | some i => s.list.entries.modify i (fun e => { e with outcome := .reversed })
        | none => s.list.entries
      let ends : Bool := entry.isSome && s.list.state == .drainingList && entries.all (fun e => e.outcome != .offered)
      let spoken : Bool := entry.any (fun i => s.list.entries[i]?.any (fun e => !e.quiet))
      v.meter n =
        { r with
          grant := none
          lastOutcome := some { serial := g.serial, result := .reversed, claim := claim }
          state := if r.state = .draining then .awaitingReading else r.state } ∧
      (∀ o : MeterId, o ≠ n → v.meter o = s.meter o) ∧
      v.branch b = { s.branch b with
        allowance :=
          if g.source = .request then
            (s.branch b).allowance.map (fun a => { a with remaining := min (a.remaining + g.amount) a.period })
          else (s.branch b).allowance } ∧
      (∀ c : BranchId, c ≠ b → v.branch c = s.branch c) ∧
      v.pool = (recheckPool { s with
        pool := { s.pool with g := s.pool.g - g.amount, p := min (s.pool.p + g.amount) (2 ^ 48 - 1) } }).pool ∧
      (∀ k : SlotId, v.engine.slots.get k = if g.phase = .offered k then none else s.engine.slots.get k) ∧
      v.engine = { s.engine with slots := v.engine.slots } ∧
      v.periods = { s.periods with current := { s.periods.current with
        branches := modifyAt s.periods.current.branches b (fun k => { k with
          used := if used = 0 then k.used else min (k.used + used) (2 ^ 48 - 1)
          reversed := min (k.reversed + 1) (2 ^ 32 - 1) })
        saturated := s.periods.current.saturated ||
          decide (2 ^ 48 - 1 < s.pool.g ∨ s.pool.g < g.amount ∨ 2 ^ 48 - 1 < s.pool.p + g.amount ∨
            (0 < used ∧ 2 ^ 48 - 1 < bank.used + used) ∨ 2 ^ 32 - 1 < bank.reversed + 1) } } ∧
      v.list = { s.list with entries := entries, state := if ends then .done else s.list.state } ∧
      v.stock = read.stock ∧
      (∀ c : NoticeClass, v.noticeClass c = { s.noticeClass c with
        phase :=
          if (c = .pool ∧ s.pool.recorded.rank < v.pool.recorded.rank) ∨
              (c = .list ∧ (ends || spoken) = true) then
            (s.noticeClass c).phase.afterCondition
          else (read.noticeClass c).phase }) ∧
      v = { s with
        pool := v.pool, meters := v.meters, branches := v.branches, engine := v.engine, list := v.list
        stock := v.stock, periods := v.periods
        notices := { s.notices with classes := v.notices.classes } })

/-- R92 to R97, R99, R100: an outcome message for a meter in service. Where its serial is that of the meter's unresolved
grant, the registers decide and not the claim: a total of CT releases the grant, a total of CT and the amount, within
2^48 − 1, confirms it, and a claim that disagrees with the result then raises CLAIM-MISMATCH with the CT from before. An AR
below the mirror, or another total, leaves the grant unresolved and DOUBTFUL, keeps the reading as the last rejected one and
raises REGISTER-REGRESS or TOTAL-MISMATCH. With any other serial the message is judged as a status report, and
SERIAL-UNKNOWN is then raised. A VACANT or RETIRED meter is refused UNKNOWN-METER.
(The kind shown for a suppressed fault is the model's reading of R100, notes/assumptions/13.md.)
(How a reply lays out its optional parts is the model's choice, notes/assumptions/14.md.)
(That a restart takes effect before the fault of the same change is the model's reading, notes/assumptions/9.md.) -/
def Obligations.OutcomesFollowTheRegisters : Prop :=
  let judged (c : Instr) (kind tag : Byte) (bytes : List Byte) (claim : Claim) (meter : Byte) (serial : Word16)
      (rd : Report) : Prop :=
    ∀ s t : State, Taken .operations kind tag bytes s t → t.monitor.state ≠ .uncommissioned →
      let refused (st : Status) : State := replied .operations kind tag st [] t
      (192 ≤ meter.toNat → exec c s = .next (refused .outOfRange)) ∧
      ∀ n : MeterId, meter.toNat = n.val →
        let r := t.meter n
        let total := rd.ar + rd.dr
        let answer (result : Nat) (unknown mismatch : Bool) (raised : Option FaultKind) (u : State) : State :=
          replied .operations kind tag .ok
            ([.u8 result, flag unknown, flag mismatch, .u8 (raised.elim 0 FaultKind.code), .u8 (u.meter n).state.code,
              .u48 (u.meter n).ct, .u48 (u.meter n).arMirror, .u48 (u.meter n).drMirror] ++
              match (u.meter n).grant with
              | none => [.u8 0]
              | some g => [.u8 1, .u8 g.phase.code]) u
        let shown (k : FaultKind) (u : State) : Option FaultKind := if u.monitor.state = .lockdown then none else some k
        let fault (k : FaultKind) (number : Word16) (amount : Nat) (ct : Nat) (valid : Bool) (u : State) : FaultRecord :=
          { kind := k, time := u.timeBase, ct := ct, meter := some n, serial := number, amount := amount,
            grantValid := valid, reading := some { ar := rd.ar, dr := rd.dr } }
        (r.state = .vacant ∨ r.state = .retired → exec c s = .next (refused .unknownMeter)) ∧
        (r.state = .active ∨ r.state = .silent ∨ r.state = .suspended ∨ r.state = .draining →
          (∀ g : Grant, r.grant = some g → g.serial = serial →
            exec c s = .next
              (let unresolved (k : FaultKind) : State :=
                let v := modMeter n (fun x => { x with
                    grant := some { g with phase := .doubtful }, rejected := some { ar := rd.ar, dr := rd.dr }
                    state := if x.state = .draining then .awaitingReading else x.state })
                  (freeGrantSlot g t)
                let w := if g.isOffered = true ∧ v.engine.state = .quiescing ∧ occupiedSlots v = 0 then
                    restartTakesEffect v else v
                answer 5 false false (shown k w) (handFault (fault k g.serial g.amount r.ct true w) w)
              let resolved (result : Nat) (disagrees : Bool) (w : State) : State :=
                if disagrees then
                  answer result false true (shown .claimMismatch w)
                    (handFault (fault .claimMismatch g.serial g.amount r.ct true w) w)
                else answer result false false none w
              if rd.ar < r.arMirror then unresolved .registerRegress
              else if total = r.ct then resolved 4 (claim == .applied) (releaseGrant n g claim (some rd) t)
              else if total = r.ct + g.amount ∧ total < 2 ^ 48 then
                resolved 3 (claim != .applied) (confirmGrant n g claim rd t)
              else unresolved .totalMismatch)) ∧
          ((∀ g : Grant, r.grant = some g → g.serial ≠ serial) →
            exec c s = .next
              (let j := statusReport n rd t
              answer j.result.code true false (some .serialUnknown)
                (handFault (fault .serialUnknown serial 0 (j.state.meter n).ct false j.state) j.state))))
  (∀ (tag : Byte) (m : AppliedMsg),
    judged (.grantApplied .operations tag (.fields m)) 0x03 tag m.bytes .applied m.meter m.serial
      { ar := m.ar.toNat, dr := m.dr.toNat, labels := m.labels }) ∧
  ∀ (tag : Byte) (m : RejectedMsg),
    judged (.grantRejected .operations tag (.fields m)) 0x04 tag m.bytes (.rejected m.reason) m.meter m.serial
      { ar := m.ar.toNat, dr := m.dr.toNat, labels := m.labels }

/-- R69, R105, R109, R110: in service, ENGINE-RESTART with no slot occupied takes effect at once, with a slot occupied the
engine becomes QUIESCING, and in QUIESCING it is answered with no effect. A restart taking effect drops every pending
request, puts the ring pointers, the batch fields and every pace at 0, stops every hold-off timer, halts a RUNNING or HALTING
list, makes the engine ACTIVE and sets the STARTED condition with the cause RESTART. Nothing else changes.
(The width of the occupied slots in the reply is the model's choice, notes/assumptions/14.md.) -/
def Obligations.EngineRestarts : Prop :=
  (∀ (tag : Byte) (s t : State), Taken .operations 0x19 tag [] s t → t.monitor.state = .inService →
    exec (.engineRestart .operations tag (.fields ())) s = .next
      (if t.engine.state = .active then
        if ∀ k : SlotId, t.engine.slots.get k = none then
          replied .operations 0x19 tag .ok [.u8 0, .u8 0] (restartTakesEffect t)
        else
          replied .operations 0x19 tag .ok [.u8 1, .u8 (occupiedSlots t)]
            { t with engine := { t.engine with state := .quiescing } }
      else replied .operations 0x19 tag .ok [.u8 t.engine.state.code, .u8 (occupiedSlots t)] t)) ∧
  ∀ s : State,
    let u := restartTakesEffect s
    let halts : Bool := s.list.state == .running || s.list.state == .halting
    (∀ n : MeterId, u.meter n = { s.meter n with pendingReq := none, holdOff := none }) ∧
    (∀ b : BranchId, u.branch b = { s.branch b with order := [], pace := 0 }) ∧
    (∀ c : NoticeClass, u.noticeClass c = { s.noticeClass c with
      phase := if c = .started ∨ (c = .list ∧ halts = true) then (s.noticeClass c).phase.afterCondition
        else (s.noticeClass c).phase }) ∧
    u = { s with
      meters := u.meters
      branches := u.branches
      arbiter := { high := 0, low := 0, holder := none, counter := 0 }
      engine := { s.engine with state := .active }
      list := { s.list with state := if halts then .halted else s.list.state }
      notices := { classes := u.notices.classes, cause := .restart, completed := false } }

/-- R101, R105, R132: GRANT-EXPIRY of an occupied slot, once the time base has reached its expiry time: the grant of the
slot's meter becomes DOUBTFUL, the slot is freed, the offer is withdrawn from the Operations queue unless its transmission has
begun, and a DRAINING meter becomes AWAITING-READING. A restart that waited for the last slot then takes effect. A free slot
does not expire, and an unpowered part takes no expiry.
(That the event brings the time base to the expiry time, and has no effect on a free slot, is the model's choice,
notes/assumptions/3.md and 4.md.) -/
def Obligations.GrantsExpire : Prop :=
  ∀ (k : SlotId) (s : State),
    (s.powered = false ∨ s.engine.slots.get k = none → exec (.grantExpiry k) s = .next s) ∧
    ∀ e : Slot, s.powered = true → s.engine.slots.get k = some e →
      let offer (f : OutFrame) : Bool := match f with
        | .grantOffer _ serial _ _ => serial == e.serial
        | _ => false
      let v : State := modMeter e.meter (fun r => { r with
          grant := r.grant.map (fun g => { g with phase := .doubtful })
          state := if r.state = .draining then .awaitingReading else r.state })
        { s with
          timeBase := if (s.timeBase - e.expiry).toNat < 2 ^ 31 then s.timeBase else e.expiry
          engine := { s.engine with slots := modifyAt s.engine.slots k (fun _ => none) }
          operations := { s.operations with
            queue := if s.operations.sending = none then s.operations.queue.filter (fun f => !offer f)
              else s.operations.queue.take 1 ++ (s.operations.queue.drop 1).filter (fun f => !offer f) } }
      exec (.grantExpiry k) s = .next
        (if v.engine.state = .quiescing ∧ ∀ j : SlotId, v.engine.slots.get j = none then restartTakesEffect v else v)

/-! ## Retirement and resumption -/

/-- R13, R133 to R137, R140, R141: a final reading of a meter in AWAITING-READING, as METER-STATUS or the plain FINAL-READING
brings it. The meter's DOUBTFUL grant, if any, is settled first by the registers, confirmed or released; a consistent reading
is accepted, the meter becomes RETIRED, its DR is swept into P and R, and the retirement joins the report list, replacing an
entry of the meter in place with its unreported mark. An AR below the mirror, or another total, is kept as the last rejected
reading and raises REGISTER-REGRESS or FINAL-MISMATCH; the reply shows a suppressed fault as none. In other states the plain
FINAL-READING is refused.
(That a suppressed fault is shown as none is the model's reading, notes/assumptions/13.md; the mark of the entries sampled is
its own, notes/assumptions/16.md.)
(How a reply lays out its optional parts is the model's choice, notes/assumptions/14.md.) -/
def Obligations.FinalReadingsRetireTheMeter : Prop :=
  let retired (n : MeterId) (v : State) : State :=
    let x := (v.meter n).drMirror
    let swept := recheckPool { v with
      pool := { v.pool with p := min (v.pool.p + x) (2 ^ 48 - 1), r := min (v.pool.r + x) (2 ^ 48 - 1) }
      periods := { v.periods with current := { v.periods.current with
        sweeps := min (v.periods.current.sweeps + x) (2 ^ 48 - 1)
        saturated := v.periods.current.saturated ||
          decide (2 ^ 48 - 1 < v.periods.current.sweeps + x ∨ 2 ^ 48 - 1 < v.pool.p + x ∨
            2 ^ 48 - 1 < v.pool.r + x) } } }
    let e : RetireEntry :=
      { meter := n, branch := (v.meter n).branch, finalAr := (v.meter n).arMirror, swept := x, delta := 0,
        time := v.timeBase, unreported := v.retireList.any (fun y => y.meter == n), sampled := false }
    setCondition .retire (modMeter n (fun y => { y with state := .retired })
      { swept with retireList :=
          if e.unreported then v.retireList.map (fun y => if y.meter = n then e else y) else v.retireList ++ [e] })
  let judged (c : Instr) (kind tag : Byte) (m : ReadingMsg) : Prop :=
    ∀ (n : MeterId) (s t : State), m.meter.toNat = n.val → Taken .operations kind tag m.bytes s t →
      t.monitor.state ≠ .uncommissioned → (t.meter n).state = .awaitingReading →
      exec c s = .next
        (let r := t.meter n
        let rd : Report := { ar := m.ar.toNat, dr := m.dr.toNat, labels := m.labels }
        let total := m.ar.toNat + m.dr.toNat
        let answer (result grantResult : Nat) (raised : Option FaultKind) (swept : Nat) (u : State) : State :=
          replied .operations kind tag .ok
            [.u8 result, .u8 (raised.elim 0 FaultKind.code), .u8 grantResult, .s64 0, .u48 swept,
             .u8 (u.meter n).state.code, .u48 (u.meter n).ct, .u48 (u.meter n).arMirror, .u48 (u.meter n).drMirror] u
        let done (grantResult : Nat) (v : State) : State := answer 6 grantResult none (v.meter n).drMirror (retired n v)
        let halted (k : FaultKind) : State :=
          answer 2 (if r.grant = none then 0 else 5) (if t.monitor.state = .lockdown then none else some k) 0
            (handFault
              { kind := k, time := t.timeBase, ct := r.ct, meter := some n, serial := r.grant.elim 0 Grant.serial,
                amount := r.grant.elim 0 Grant.amount, grantValid := r.grant.isSome,
                reading := some { ar := m.ar.toNat, dr := m.dr.toNat } }
              (modMeter n (fun x => { x with rejected := some { ar := m.ar.toNat, dr := m.dr.toNat } }) t))
        if m.ar.toNat < r.arMirror then halted .registerRegress
        else
          match r.grant with
          | none => if total = r.ct then done 0 (acceptReading n rd t) else halted .finalMismatch
          | some g =>
            if total = r.ct then done 4 (releaseGrant n g .none (some rd) t)
            else if total = r.ct + g.amount ∧ total < 2 ^ 48 then done 3 (confirmGrant n g .none rd t)
            else halted .finalMismatch)
  (∀ (tag : Byte) (m : ReadingMsg), judged (.meterStatus .operations tag (.fields m)) 0x01 tag m) ∧
  (∀ (tag : Byte) (m : ReadingMsg), judged (.finalReading tag (.fields m)) 0x15 tag m) ∧
  ∀ (tag : Byte) (m : ReadingMsg) (s t : State), Taken .operations 0x15 tag m.bytes s t →
    t.monitor.state ≠ .uncommissioned →
    (192 ≤ m.meter.toNat →
      exec (.finalReading tag (.fields m)) s = .next (replied .operations 0x15 tag .outOfRange [] t)) ∧
    ∀ n : MeterId, m.meter.toNat = n.val → (t.meter n).state ≠ .awaitingReading →
      exec (.finalReading tag (.fields m)) s = .next (replied .operations 0x15 tag
        (if (t.meter n).state = .vacant ∨ (t.meter n).state = .retired then .unknownMeter else .badState) [] t)

/-- R92, R97, R99, R133 to R137, R140: an outcome message for a meter in AWAITING-READING is judged once, as its final
reading. With the serial of the meter's DOUBTFUL grant, a total of CT releases the grant and a total of CT and the amount,
within 2^48 − 1, confirms it, the claim being carried to the last outcome; the retirement is completed, and a claim that
disagrees with the result then raises CLAIM-MISMATCH with the CT from before. An AR below the mirror, or another total, is
kept as the last rejected reading and raises REGISTER-REGRESS or FINAL-MISMATCH, the grant staying unresolved. With any other
serial, or no grant held, the reading is judged in the same way with no claim, and SERIAL-UNKNOWN is raised last. The reply is
that of a final reading with the two marks and the kind SERIAL-UNKNOWN, if raised.
(The kind shown for a suppressed fault is the model's reading, notes/assumptions/13.md.)
(How a reply lays out its optional parts is the model's choice, notes/assumptions/14.md.) -/
def Obligations.OutcomesCanBeFinalReadings : Prop :=
  let judged (c : Instr) (kind tag : Byte) (bytes : List Byte) (claim : Claim) (meter : Byte) (serial : Word16)
      (rd : Report) : Prop :=
    ∀ (n : MeterId) (s t : State), meter.toNat = n.val → Taken .operations kind tag bytes s t →
      t.monitor.state ≠ .uncommissioned → (t.meter n).state = .awaitingReading →
      let r := t.meter n
      let total := rd.ar + rd.dr
      let fault (k : FaultKind) (number : Word16) (amount ct : Nat) (valid : Bool) (u : State) : State :=
        handFault
          { kind := k, time := u.timeBase, ct := ct, meter := some n, serial := number, amount := amount,
            grantValid := valid, reading := some { ar := rd.ar, dr := rd.dr } } u
      let shown (k : FaultKind) (u : State) : Option FaultKind := if u.monitor.state = .lockdown then none else some k
      let answer (result grantResult : Nat) (raised : Option FaultKind) (swept : Nat) (mismatch unknown : Bool)
          (u : State) : State :=
        replied .operations kind tag .ok
          [.u8 result, .u8 (raised.elim 0 FaultKind.code), .u8 grantResult, .s64 0, .u48 swept,
           .u8 (u.meter n).state.code, .u48 (u.meter n).ct, .u48 (u.meter n).arMirror, .u48 (u.meter n).drMirror,
           flag mismatch, flag unknown, .u8 (if unknown then 5 else 0)] u
      let halted (k : FaultKind) : State :=
        fault k (r.grant.elim 0 Grant.serial) (r.grant.elim 0 Grant.amount) r.ct r.grant.isSome
          (modMeter n (fun x => { x with rejected := some { ar := rd.ar, dr := rd.dr } }) t)
      (∀ g : Grant, r.grant = some g → g.serial = serial →
        exec c s = .next
          (let done (grantResult : Nat) (disagrees : Bool) (v : State) : State :=
            let u := completeRetirement n 0 v
            if disagrees then
              answer 6 grantResult (shown .claimMismatch u) (v.meter n).drMirror true false
                (fault .claimMismatch g.serial g.amount r.ct true u)
            else answer 6 grantResult none (v.meter n).drMirror false false u
          if rd.ar < r.arMirror then answer 2 5 (shown .registerRegress t) 0 false false (halted .registerRegress)
          else if total = r.ct then done 4 (claim == .applied) (releaseGrant n g claim (some rd) t)
          else if total = r.ct + g.amount ∧ total < 2 ^ 48 then
            done 3 (claim != .applied) (confirmGrant n g claim rd t)
          else answer 2 5 (shown .finalMismatch t) 0 false false (halted .finalMismatch))) ∧
      ((∀ g : Grant, r.grant = some g → g.serial ≠ serial) →
        exec c s = .next
          (let unknown (result grantResult : Nat) (raised : Option FaultKind) (swept : Nat) (u : State) : State :=
            answer result grantResult raised swept false true (fault .serialUnknown serial 0 (u.meter n).ct false u)
          let done (grantResult : Nat) (v : State) : State :=
            unknown 6 grantResult none (v.meter n).drMirror (completeRetirement n 0 v)
          let stopped (k : FaultKind) : State := unknown 2 (if r.grant = none then 0 else 5) (shown k t) 0 (halted k)
          if rd.ar < r.arMirror then stopped .registerRegress
          else
            match r.grant with
            | none => if total = r.ct then done 0 (acceptReading n rd t) else stopped .finalMismatch
            | some g =>
              if total = r.ct then done 4 (releaseGrant n g .none (some rd) t)
              else if total = r.ct + g.amount ∧ total < 2 ^ 48 then done 3 (confirmGrant n g .none rd t)
              else stopped .finalMismatch))
  (∀ (tag : Byte) (m : AppliedMsg),
    judged (.grantApplied .operations tag (.fields m)) 0x03 tag m.bytes .applied m.meter m.serial
      { ar := m.ar.toNat, dr := m.dr.toNat, labels := m.labels }) ∧
  ∀ (tag : Byte) (m : RejectedMsg),
    judged (.grantRejected .operations tag (.fields m)) 0x04 tag m.bytes (.rejected m.reason) m.meter m.serial
      { ar := m.ar.toNat, dr := m.dr.toNat, labels := m.labels }

/-- R13, R138 to R141: in service, the adjusting FINAL-READING of a meter in AWAITING-READING, with a total of at most
2^48 − 1 and the two conditions of R13 met, releases the meter's DOUBTFUL grant, moves Δ = RT − CT from P to I and into
credited, CT and the bank's adjustments, accepts the reading, sweeps the DR and leaves the meter RETIRED and reported.
Otherwise it is refused, OUT-OF-RANGE, LIMIT, UNKNOWN-METER or BAD-STATE, with no effect.
R13: an adjustment of a meter's figures by Δ to a new total. Δ above 0 takes it from P and adds it to I, Δ below 0 the
other way about; credited rises by Δ, CT becomes the total, the bank's adjustments rise by Δ within their range, and the pool
condition is worked out anew. For Δ = 0 nothing changes. A sweep adds the DR mirror to P, R and the bank's sweeps, the pool
condition is worked out anew, and the meter is left RETIRED, with the RETIRE condition set and its entry at the end of the
report list, or in place of its earlier one with the unreported mark.
(The mark of the entries sampled is the model's own, notes/assumptions/16.md.) -/
def Obligations.AdjustingReadingsRetireTheMeter : Prop :=
  (∀ (tag : Byte) (m : ReadingMsg) (s t : State), Taken .audit 0x15 tag m.bytes s t → t.monitor.state = .inService →
    let refused (st : Status) : State := replied .audit 0x15 tag st [] t
    exec (.adjustingFinalReading tag (.fields m)) s = .next
      (if h : m.meter.toNat < 192 then
        let n : MeterId := ⟨m.meter.toNat, h⟩
        let r := t.meter n
        let total := m.ar.toNat + m.dr.toNat
        let delta : Int := (total : Int) - (r.ct : Int)
        let back := r.grant.elim 0 Grant.amount
        if r.state = .vacant ∨ r.state = .retired then refused .unknownMeter
        else if r.state ≠ .awaitingReading then refused .badState
        else if 2 ^ 48 ≤ total then refused .outOfRange
        else if (0 < delta ∧ ((t.pool.p + back : Nat) : Int) < delta) ∨ (delta < 0 ∧ (t.pool.i : Int) < -delta) then
          refused .limit
        else
          let settled := match r.grant with
            | none => t
            | some g => releaseGrant n g .none none t
          let v := acceptReading n { ar := m.ar.toNat, dr := m.dr.toNat, labels := m.labels }
            (adjustMeter n delta total settled)
          let u := completeRetirement n delta v
          replied .audit 0x15 tag .ok
            [.u8 6, .u8 0, .u8 (if r.grant = none then 0 else 4), .s64 delta, .u48 (v.meter n).drMirror,
             .u8 (u.meter n).state.code, .u48 (u.meter n).ct, .u48 (u.meter n).arMirror, .u48 (u.meter n).drMirror] u
      else refused .outOfRange)) ∧
  (∀ (n : MeterId) (delta : Int) (total : Nat) (s : State),
    adjustMeter n delta total s =
      if delta = 0 then s
      else
        let up := delta.toNat
        let down := (-delta).toNat
        modMeter n (fun r => { r with credited := r.credited + delta, ct := total })
          (recheckPool { s with
            pool := { s.pool with
              p := min (s.pool.p - up + down) (2 ^ 48 - 1), i := min (s.pool.i + up) (2 ^ 48 - 1) - down }
            periods := { s.periods with current := { s.periods.current with
              adjustments := max (-2 ^ 47) (min (2 ^ 47 - 1) (s.periods.current.adjustments + delta))
              saturated := s.periods.current.saturated ||
                decide (2 ^ 47 - 1 < s.periods.current.adjustments + delta ∨
                  s.periods.current.adjustments + delta < -2 ^ 47 ∨ s.pool.p < up ∨ 2 ^ 48 - 1 < s.pool.p + down ∨
                  s.pool.i < down ∨ 2 ^ 48 - 1 < s.pool.i + up) } } })) ∧
  ∀ (n : MeterId) (delta : Int) (s : State),
    let x := (s.meter n).drMirror
    let swept := recheckPool { s with
      pool := { s.pool with p := min (s.pool.p + x) (2 ^ 48 - 1), r := min (s.pool.r + x) (2 ^ 48 - 1) }
      periods := { s.periods with current := { s.periods.current with
        sweeps := min (s.periods.current.sweeps + x) (2 ^ 48 - 1)
        saturated := s.periods.current.saturated ||
          decide (2 ^ 48 - 1 < s.periods.current.sweeps + x ∨ 2 ^ 48 - 1 < s.pool.p + x ∨ 2 ^ 48 - 1 < s.pool.r + x) } } }
    let e : RetireEntry :=
      { meter := n, branch := (s.meter n).branch, finalAr := (s.meter n).arMirror, swept := x, delta := delta,
        time := s.timeBase, unreported := s.retireList.any (fun y => y.meter == n), sampled := false }
    completeRetirement n delta s =
      setCondition .retire (modMeter n (fun y => { y with state := .retired })
        { swept with retireList :=
            if e.unreported then s.retireList.map (fun y => if y.meter = n then e else y) else s.retireList ++ [e] })

/-- R189 to R191: in service, RESUME-METER makes a SUSPENDED meter ACTIVE with its supervision timer started. Where it holds
a last rejected reading and the checks pass, its DOUBTFUL grant is released, CT is adjusted to that reading's total, an AR
above the mirror is added to postage used, the reading becomes the mirrors and is cleared. An OFFERED grant is refused BUSY,
a total above 2^48 − 1 OUT-OF-RANGE, an adjustment that R13 does not allow LIMIT, another state BAD-STATE or UNKNOWN-METER.
(That a meter without a rejected reading is answered in the layout of R190 is the model's choice, notes/assumptions/14.md.) -/
def Obligations.ResumptionRebaselines : Prop :=
  ∀ (tag : Byte) (m : MeterMsg) (s t : State), Taken .audit 0x35 tag m.bytes s t → t.monitor.state = .inService →
    let refused (st : Status) : State := replied .audit 0x35 tag st [] t
    exec (.resumeMeter .audit tag (.fields m)) s = .next
      (if h : m.meter.toNat < 192 then
        let n : MeterId := ⟨m.meter.toNat, h⟩
        let r := t.meter n
        let timer : Word32 := t.timeBase + BitVec.ofNat 32 (3600 * r.settings.hours)
        let answer (result : Nat) (delta : Int) (u : State) : State :=
          replied .audit 0x35 tag .ok
            [.u8 n.val, .u8 result, .s64 delta, .u8 1, .u48 (u.meter n).ct, .u48 (u.meter n).arMirror,
             .u48 (u.meter n).drMirror] u
        if r.state = .vacant ∨ r.state = .retired then refused .unknownMeter
        else if r.state ≠ .suspended then refused .badState
        else
          match r.rejected with
          | none => answer 0 0 (modMeter n (fun x => { x with state := .active, supervision := some timer }) t)
          | some x =>
            let delta : Int := ((x.ar + x.dr : Nat) : Int) - (r.ct : Int)
            let back := r.grant.elim 0 Grant.amount
            if r.grant.any Grant.isOffered = true then refused .busy
            else if 2 ^ 48 ≤ x.ar + x.dr then refused .outOfRange
            else if (0 < delta ∧ ((t.pool.p + back : Nat) : Int) < delta) ∨
                (delta < 0 ∧ (t.pool.i : Int) < -delta) then
              refused .limit
            else
              let settled := match r.grant with
                | none => t
                | some g => releaseGrant n g .none none t
              let adjusted := adjustMeter n delta (x.ar + x.dr) settled
              let used := x.ar - r.arMirror
              let banked : State :=
                if used = 0 then adjusted
                else { adjusted with periods := { adjusted.periods with current := { adjusted.periods.current with
                  branches := modifyAt adjusted.periods.current.branches r.branch
                    (fun k => { k with used := min (k.used + used) (2 ^ 48 - 1) })
                  saturated := adjusted.periods.current.saturated ||
                    decide (2 ^ 48 - 1 < (adjusted.periods.current.branches.get r.branch).used + used) } } }
              answer (if r.grant = none then 0 else 4) delta
                (modMeter n (fun y => { y with
                  arMirror := x.ar, drMirror := x.dr, rejected := none, state := .active, supervision := some timer })
                  banked)
      else refused .outOfRange)

/-! ## Stock Accounts -/

/-- R145, R156: the evaluation of a line for reorder. Below its level and not yet raised, the line is raised, joins the end of
the reorder list, and the REORDER class's condition is set; not below its level and raised, the mark is cleared and the line
leaves the list; otherwise nothing changes. CONFIGURE-STOCK-LINE for a configured branch, with its fields in range and no
change of face value over pieces on hand, replaces item code, kind, face value and level, and evaluates the line.
(Which records the count of linked meters takes in is the model's reading, notes/assumptions/11.md.)
(The width of that count in the reply is the model's choice, notes/assumptions/14.md.) -/
def Obligations.StockLinesAreConfiguredAndReordered : Prop :=
  (∀ (b : BranchId) (l : LineNo) (s : State),
    let x := s.stockLine b l
    let mark (v : Bool) : Vector (Vector StockLine 12) 48 :=
      modifyAt s.stock.lines b (fun ls => modifyAt ls l (fun y => { y with raised := v }))
    evaluateReorder b l s =
      if x.onHand < x.level ∧ x.raised = false then
        setCondition .reorder { s with stock := { s.stock with lines := mark true, reorder := s.stock.reorder ++ [(b, l)] } }
      else if x.level ≤ x.onHand ∧ x.raised = true then
        { s with stock := { s.stock with
          lines := mark false, reorder := s.stock.reorder.filter (fun y => y != (b, l)) } }
      else s) ∧
  ∀ (tag : Byte) (m : StockLineMsg) (s t : State), Taken .operations 0x1A tag m.bytes s t →
    let refused (st : Status) : State := replied .operations 0x1A tag st [] t
    exec (.configureStockLine .operations tag (.fields m)) s = .next
      (if h : m.branch.toNat < 48 ∧ m.line.toNat < 12 then
        let b : BranchId := ⟨m.branch.toNat, h.1⟩
        let l : LineNo := ⟨m.line.toNat, h.2⟩
        let x := t.stockLine b l
        if (t.branch b).configured = false ∨ 2 < m.kind.toNat ∨ m.item = 0 ∨ 9999999 < m.face.toNat ∨
            999999 < m.level.toNat then refused .outOfRange
        else if m.face.toNat ≠ x.face ∧ 0 < x.onHand then refused .badState
        else
          let u := evaluateReorder b l (modStockLine b l (fun y => { y with
            configured := true, item := m.item, face := m.face.toNat, level := m.level.toNat
            kind := if m.kind = 0 then .adhesive else if m.kind = 1 then .label else .other }) t)
          replied .operations 0x1A tag .ok
            [.u8 b.val, .u8 l.val, .u16 m.item.toNat, .u8 m.kind.toNat, .u32 m.face.toNat, .u32 m.level.toNat,
             .u32 x.onHand, flag (u.stockLine b l).raised, .u8 (linkedTo t b l)] u
      else refused .outOfRange)

/-- R144, R147, R148: a STOCK-RECEIPT of 1 to 999,999 pieces that keeps on hand within 999,999 raises on hand and the receipts
and evaluates the line. A paid one is refused LIMIT when count × face exceeds V; otherwise P falls and K and the bank's
purchases rise by it. A line out of range or not configured, and a field out of range, are refused OUT-OF-RANGE. -/
def Obligations.ReceiptsAddPieces : Prop :=
  ∀ (tag : Byte) (m : ReceiptMsg) (s t : State), Taken .operations 0x1B tag m.bytes s t →
    t.monitor.state ≠ .uncommissioned →
    let refused (st : Status) : State := replied .operations 0x1B tag st [] t
    exec (.stockReceipt .operations tag (.fields m)) s = .next
      (if h : m.branch.toNat < 48 ∧ m.line.toNat < 12 then
        let b : BranchId := ⟨m.branch.toNat, h.1⟩
        let l : LineNo := ⟨m.line.toNat, h.2⟩
        let x := t.stockLine b l
        let n := m.count.toNat
        let cost := if m.paid = 1 then n * x.face else 0
        if x.configured = false ∨ (m.paid ≠ 0 ∧ m.paid ≠ 1) ∨ n = 0 ∨ 999999 < n ∨ 999999 < x.onHand + n then
          refused .outOfRange
        else if m.paid = 1 ∧ t.pool.p - t.pool.floor < cost then refused .limit
        else
          let paid : State :=
            if m.paid = 1 then
              recheckPool { t with
                pool := { t.pool with p := t.pool.p - cost, k := min (t.pool.k + cost) (2 ^ 48 - 1) }
                periods := { t.periods with current := { t.periods.current with
                  purchases := min (t.periods.current.purchases + cost) (2 ^ 48 - 1)
                  saturated := t.periods.current.saturated ||
                    decide (2 ^ 48 - 1 < t.periods.current.purchases + cost ∨ 2 ^ 48 - 1 < t.pool.p ∨
                      t.pool.p < cost ∨ 2 ^ 48 - 1 < t.pool.k + cost) } } }
            else t
          let u := evaluateReorder b l (modStockLine b l (fun y => { y with
            onHand := y.onHand + n, receipts := min (y.receipts + n) (2 ^ 32 - 1) }) paid)
          replied .operations 0x1B tag .ok
            [.u8 b.val, .u8 l.val, .u32 (x.onHand + n), .u48 cost, flag (u.stockLine b l).raised] u
      else refused .outOfRange)

/-- R144, R149: STOCK-SALE and STOCK-SPOIL of 1 to 999,999 pieces take the pieces from on hand as far as it goes, the excess
going to shortfall; the whole count is added to issues or to spoilage, and its value at the face value to the branch's sales
or spoilage value in the current bank; the line is then evaluated. The reply gives the pieces taken, the excess, on hand, the
value and the reorder mark. A line or a count out of range is refused OUT-OF-RANGE with no effect. -/
def Obligations.SalesAndSpoilageTakePieces : Prop :=
  let judged (c : Instr) (kind tag : Byte) (m : PiecesMsg) (sale : Bool) : Prop :=
    ∀ s t : State, Taken .operations kind tag m.bytes s t → t.monitor.state ≠ .uncommissioned →
      exec c s = .next
        (if h : m.branch.toNat < 48 ∧ m.line.toNat < 12 then
          let b : BranchId := ⟨m.branch.toNat, h.1⟩
          let l : LineNo := ⟨m.line.toNat, h.2⟩
          let x := t.stockLine b l
          let n := m.count.toNat
          let value := n * x.face
          let bank := t.periods.current.branches.get b
          if x.configured = false ∨ n = 0 ∨ 999999 < n then replied .operations kind tag .outOfRange [] t
          else
            let moved : State := modStockLine b l (fun y => { y with
              onHand := y.onHand - n
              shortfall := min (y.shortfall + (n - y.onHand)) (2 ^ 32 - 1)
              issues := if sale then min (y.issues + n) (2 ^ 32 - 1) else y.issues
              spoilage := if sale then y.spoilage else min (y.spoilage + n) (2 ^ 32 - 1) }) t
            let u := evaluateReorder b l { moved with periods := { t.periods with current := { t.periods.current with
              branches := modifyAt t.periods.current.branches b (fun k => { k with
                sales := if sale then min (k.sales + value) (2 ^ 48 - 1) else k.sales
                spoilage := if sale then k.spoilage else min (k.spoilage + value) (2 ^ 48 - 1) })
              saturated := t.periods.current.saturated ||
                decide (2 ^ 48 - 1 < (if sale then bank.sales else bank.spoilage) + value) } } }
            replied .operations kind tag .ok
              [.u8 b.val, .u8 l.val, .u32 (min n x.onHand), .u32 (n - x.onHand), .u32 (x.onHand - n), .u48 value,
               flag (u.stockLine b l).raised] u
        else replied .operations kind tag .outOfRange [] t)
  (∀ (tag : Byte) (m : PiecesMsg), judged (.stockSale .operations tag (.fields m)) 0x1C tag m true) ∧
  ∀ (tag : Byte) (m : PiecesMsg), judged (.stockSpoil .operations tag (.fields m)) 0x1D tag m false

/-- R144, R152, R153: a STOCK-COUNT of 0 to 999,999 sets on hand to the count and the shortfall to 0, adds the signed value
of the variance to the branch's count variance value, and evaluates the line; a value whose magnitude exceeds the tolerance
raises STOCK-VARIANCE. The reply gives the pieces before and after, the variance in pieces and value, the shortfall cleared,
the reorder mark and whether the variance was large. A line or a count out of range is refused OUT-OF-RANGE. -/
def Obligations.CountsSetTheLine : Prop :=
  ∀ (tag : Byte) (m : PiecesMsg) (s t : State), Taken .operations 0x1E tag m.bytes s t →
    t.monitor.state ≠ .uncommissioned →
    exec (.stockCount .operations tag (.fields m)) s = .next
      (if h : m.branch.toNat < 48 ∧ m.line.toNat < 12 then
        let b : BranchId := ⟨m.branch.toNat, h.1⟩
        let l : LineNo := ⟨m.line.toNat, h.2⟩
        let x := t.stockLine b l
        let n := m.count.toNat
        let pieces : Int := (n : Int) - (x.onHand : Int)
        let value : Int := pieces * (x.face : Int)
        let large : Bool := decide ((t.stock.tolerance : Int) < value ∨ value < -(t.stock.tolerance : Int))
        let sum : Int := (t.periods.current.branches.get b).variance + value
        if x.configured = false ∨ 999999 < n then replied .operations 0x1E tag .outOfRange [] t
        else
          let moved : State := modStockLine b l (fun y => { y with onHand := n, shortfall := 0 }) t
          let v := evaluateReorder b l { moved with periods := { t.periods with current := { t.periods.current with
            branches := modifyAt t.periods.current.branches b
              (fun k => { k with variance := max (-2 ^ 47) (min (2 ^ 47 - 1) (k.variance + value)) })
            saturated := t.periods.current.saturated || decide (2 ^ 47 - 1 < sum ∨ sum < -2 ^ 47) } } }
          let u := if large then
              handFault { kind := .stockVariance, time := t.timeBase, ct := 0, meter := none, serial := 0, amount := 0,
                          grantValid := false, reading := none } v
            else v
          replied .operations 0x1E tag .ok
            [.u8 b.val, .u8 l.val, .u32 x.onHand, .u32 n, .s64 pieces, .s64 value, .u32 x.shortfall,
             flag (v.stockLine b l).raised, flag large] u
      else replied .operations 0x1E tag .outOfRange [] t)

/-! ## The List Unit -/

/-- R116: in service, a LOAD-LIST of 1 to 32 well-formed entries appends them WAITING to a list in EMPTY or LOADED, or to a
list in DONE or ABORTED once that has been emptied; the list is LOADED and its next entry is the first WAITING one. More than
32 entries in all are refused FULL, an entry or a count out of range OUT-OF-RANGE, and any other list state BAD-STATE, with no
effect.
(The width of the entries held and of the first entry number in the reply is the model's choice, notes/assumptions/14.md.) -/
def Obligations.ListsAreLoaded : Prop :=
  ∀ (tag : Byte) (m : LoadListMsg) (s t : State), Taken .operations 0x20 tag m.bytes s t → t.monitor.state = .inService →
    let refused (st : Status) : State := replied .operations 0x20 tag st [] t
    let good (e : ListEntryMsg) : Prop :=
      e.meter.toNat < 192 ∧ 1 ≤ e.q.toNat ∧ e.q.toNat ≤ 99999999 ∧ e.flags.toNat ≤ 3
    let fresh := t.list.state = .empty ∨ t.list.state = .loaded
    let finished := t.list.state = .done ∨ t.list.state = .aborted
    (¬ fresh → ¬ finished → exec (.loadList .operations tag (.fields m)) s = .next (refused .badState)) ∧
    (fresh ∨ finished →
      ((m.entries.length = 0 ∨ 32 < m.entries.length ∨ ∃ e ∈ m.entries, ¬ good e) →
        exec (.loadList .operations tag (.fields m)) s = .next (refused .outOfRange)) ∧
      ∀ (base : State) (new : List Entry), (fresh → base = t) → (finished → base = emptyList t) →
        m.entries.length ≠ 0 → m.entries.length ≤ 32 →
        List.Forall₂ (fun (e : ListEntryMsg) (x : Entry) => good e ∧ x.meter.val = e.meter.toNat ∧
          x = { meter := x.meter, q := e.q.toNat, quiet := e.flags.getLsbD 0, stopOnShort := e.flags.getLsbD 1,
                outcome := .waiting, serial := none }) m.entries new →
        exec (.loadList .operations tag (.fields m)) s = .next
          (if 32 < base.list.entries.length + new.length then refused .full
          else
            replied .operations 0x20 tag .ok
              [.u8 1, .u8 (base.list.entries.length + new.length), .u8 base.list.entries.length]
              { base with list := { base.list with
                state := .loaded
                entries := base.list.entries ++ new
                next := (base.list.entries ++ new).findIdx (fun e => e.outcome == .waiting) } }))

/-- R117, R122: in service, START-LIST in LOADED, HALTED, HALTING or RUNNING makes the list RUNNING with the class and batch
setting of the request. A list started from LOADED or HALTED with no WAITING entry ends its run at once: DRAINING-LIST while
an entry is OFFERED, DONE with the LIST condition otherwise. Other states are refused BAD-STATE, and other fields
OUT-OF-RANGE, with no effect.
(The width of the next entry number in the reply is the model's choice, notes/assumptions/14.md.) -/
def Obligations.ListsAreStarted : Prop :=
  ∀ (tag : Byte) (m : StartListMsg) (s t : State), Taken .operations 0x21 tag m.bytes s t → t.monitor.state = .inService →
    let refused (st : Status) : State := replied .operations 0x21 tag st [] t
    exec (.startList .operations tag (.fields m)) s = .next
      (if (m.cls ≠ 0 ∧ m.cls ≠ 1) ∨ (m.batch ≠ 0 ∧ m.batch ≠ 1) then refused .outOfRange
      else if t.list.state = .empty ∨ t.list.state = .drainingList ∨ t.list.state = .done ∨ t.list.state = .aborted then
        refused .badState
      else
        let ends : Bool := (t.list.state == .loaded || t.list.state == .halted) &&
          t.list.entries.all (fun e => e.outcome != .waiting)
        let offered : Bool := t.list.entries.any (fun e => e.outcome == .offered)
        let next : ListState := if ends then (if offered then .drainingList else .done) else .running
        let v : State := { t with list := { t.list with
          state := next, cls := if m.cls = 1 then .high else .low, batch := m.batch == 1 } }
        replied .operations 0x21 tag .ok [.u8 next.code, .u8 m.cls.toNat, .u8 m.batch.toNat, .u8 t.list.next]
          (if next = .done then setCondition .list v else v))

/-- R124 to R127: HALT-LIST makes a RUNNING list HALTED with the LIST condition, or HALTING while the List Unit holds the
batch; in HALTING and HALTED it has no effect. ABORT-LIST of a LOADED, RUNNING, HALTING or HALTED list abandons its WAITING
entries, leaves it ABORTED with the LIST condition, and answers with the eight counts. CLEAR-LIST empties a DONE or ABORTED
list, takes its entry numbers from the unresolved grants and answers how many. Other states are refused BAD-STATE.
(The width of the next entry, of the eight counts and of the cleared count in the replies is the model's choice,
notes/assumptions/14.md.) -/
def Obligations.ListsAreHaltedAbortedAndCleared : Prop :=
  (∀ (tag : Byte) (s t : State), Taken .operations 0x22 tag [] s t → t.monitor.state ≠ .uncommissioned →
    exec (.haltList .operations tag (.fields ())) s = .next
      (if t.list.state = .running then
        if t.arbiter.holder.map Prod.fst = some 48 then
          replied .operations 0x22 tag .ok [.u8 3, .u8 t.list.next] { t with list := { t.list with state := .halting } }
        else
          replied .operations 0x22 tag .ok [.u8 4, .u8 t.list.next]
            (setCondition .list { t with list := { t.list with state := .halted } })
      else if t.list.state = .halting ∨ t.list.state = .halted then
        replied .operations 0x22 tag .ok [.u8 t.list.state.code, .u8 t.list.next] t
      else replied .operations 0x22 tag .badState [] t)) ∧
  (∀ (tag : Byte) (s t : State), Taken .operations 0x23 tag [] s t → t.monitor.state ≠ .uncommissioned →
    exec (.abortList .operations tag (.fields ())) s = .next
      (if t.list.state = .loaded ∨ t.list.state = .running ∨ t.list.state = .halting ∨ t.list.state = .halted then
        let entries := t.list.entries.map (fun e => { e with
          outcome := if e.outcome = .waiting then .abandoned else e.outcome })
        replied .operations 0x23 tag .ok
          ((List.range 8).map (fun code => .u8 (entries.countP (fun e => e.outcome.code == code))))
          (setCondition .list { t with list := { t.list with
            state := .aborted, entries := entries, next := t.list.entries.length } })
      else replied .operations 0x23 tag .badState [] t)) ∧
  ∀ (tag : Byte) (s t : State), Taken .operations 0x24 tag [] s t → t.monitor.state ≠ .uncommissioned →
    exec (.clearList .operations tag (.fields ())) s = .next
      (if t.list.state = .done ∨ t.list.state = .aborted then
        replied .operations 0x24 tag .ok
          [.u8 (t.meters.toList.countP (fun r => r.grant.any Grant.linked))]
          { t with
            list := { t.list with state := .empty, entries := [], next := 0 }
            meters := mapAll (fun r => { r with grant := r.grant.map (fun g => { g with
              source := if g.source = .request then .request else .list none }) }) t.meters }
      else replied .operations 0x24 tag .badState [] t)

/-! ## Accounting Periods -/

/-- R165 to R169: CLOSE-PERIOD under a new stamp moves the current bank into a collected closing bank, or merges it into an
uncollected one, each field saturating, with the saturated mark of either bank or of a sum that saturates; pool at close is P, the closing bank is held and uncollected, the current bank is
empty under the new stamp, every A is reset to its period allowance, the period counts of every stock line are cleared, and
the PERIOD condition is set. Under the stamp of the current bank it is answered REPEATED with no effect. COLLECT-PERIOD with
the stamp of a held closing bank marks it collected; any other is refused OUT-OF-RANGE.
(How a reply lays out its optional parts is the model's choice, notes/assumptions/14.md.) -/
def Obligations.PeriodsAreClosedAndCollected : Prop :=
  (∀ (tag : Byte) (m : StampMsg) (s t : State), Taken .operations 0x25 tag m.bytes s t →
    t.monitor.state ≠ .uncommissioned →
    ∃ (u : State) (k : Bank),
      exec (.closePeriod .operations tag (.fields m)) s = .next (replied .operations 0x25 tag .ok
        ([.u8 (if m.stamp = t.periods.current.stamp then 9 else if t.periods.collected then 7 else 8),
          .u32 k.stamp.toNat, .u8 k.spanned, flag k.saturated] ++
          (match k.poolAtClose with
          | none => [.u8 0]
          | some p => [.u8 1, .u48 p]) ++ [.u32 m.stamp.toNat]) u) ∧
      k = u.periods.closing ∧
      (m.stamp = t.periods.current.stamp → u = t) ∧
      (m.stamp ≠ t.periods.current.stamp →
        u = setCondition .period { t with
          periods :=
            { current :=
                { stamp := m.stamp, spanned := 1, saturated := false, poolAtClose := none
                  branches := Vector.replicate 48
                    { used := 0, appliedCount := 0, appliedAmount := 0, reversed := 0, short := 0, sales := 0,
                      spoilage := 0, variance := 0 }
                  deposits := 0, refunds := 0, purchases := 0, sweeps := 0, adjustments := 0 }
              closing := k, held := true, collected := false }
          branches := mapAll (fun b => { b with
            allowance := b.allowance.map (fun a => { a with remaining := a.period }) }) t.branches
          stock := { t.stock with lines := mapAll (mapAll (fun l => { l with
            receipts := 0, issues := 0, spoilage := 0 })) t.stock.lines } } ∧
        (t.periods.collected = true → k = { t.periods.current with poolAtClose := some t.pool.p }) ∧
        (t.periods.collected = false →
          let old := t.periods.closing
          let new := t.periods.current
          k.stamp = new.stamp ∧ k.spanned = min (old.spanned + new.spanned) 255 ∧ k.poolAtClose = some t.pool.p ∧
          (∀ b : BranchId,
            let x := old.branches.get b
            let y := new.branches.get b
            k.branches.get b =
              { used := min (x.used + y.used) (2 ^ 48 - 1)
                appliedCount := min (x.appliedCount + y.appliedCount) (2 ^ 32 - 1)
                appliedAmount := min (x.appliedAmount + y.appliedAmount) (2 ^ 48 - 1)
                reversed := min (x.reversed + y.reversed) (2 ^ 32 - 1)
                short := min (x.short + y.short) (2 ^ 32 - 1)
                sales := min (x.sales + y.sales) (2 ^ 48 - 1)
                spoilage := min (x.spoilage + y.spoilage) (2 ^ 48 - 1)
                variance := max (-2 ^ 47) (min (2 ^ 47 - 1) (x.variance + y.variance)) }) ∧
          k.deposits = min (old.deposits + new.deposits) (2 ^ 48 - 1) ∧
          k.refunds = min (old.refunds + new.refunds) (2 ^ 48 - 1) ∧
          k.purchases = min (old.purchases + new.purchases) (2 ^ 48 - 1) ∧
          k.sweeps = min (old.sweeps + new.sweeps) (2 ^ 48 - 1) ∧
          k.adjustments = max (-2 ^ 47) (min (2 ^ 47 - 1) (old.adjustments + new.adjustments)) ∧
          (k.saturated = true ↔ old.saturated = true ∨ new.saturated = true ∨
            (∃ b : BranchId,
              let x := old.branches.get b
              let y := new.branches.get b
              2 ^ 48 - 1 < x.used + y.used ∨ 2 ^ 32 - 1 < x.appliedCount + y.appliedCount ∨
                2 ^ 48 - 1 < x.appliedAmount + y.appliedAmount ∨ 2 ^ 32 - 1 < x.reversed + y.reversed ∨
                2 ^ 32 - 1 < x.short + y.short ∨ 2 ^ 48 - 1 < x.sales + y.sales ∨
                2 ^ 48 - 1 < x.spoilage + y.spoilage ∨ 2 ^ 47 - 1 < x.variance + y.variance ∨
                x.variance + y.variance < -2 ^ 47) ∨
            2 ^ 48 - 1 < old.deposits + new.deposits ∨ 2 ^ 48 - 1 < old.refunds + new.refunds ∨
            2 ^ 48 - 1 < old.purchases + new.purchases ∨ 2 ^ 48 - 1 < old.sweeps + new.sweeps ∨
            2 ^ 47 - 1 < old.adjustments + new.adjustments ∨ old.adjustments + new.adjustments < -2 ^ 47)))) ∧
  ∀ (tag : Byte) (m : StampMsg) (s t : State), Taken .operations 0x26 tag m.bytes s t →
    t.monitor.state ≠ .uncommissioned →
    exec (.collectPeriod .operations tag (.fields m)) s = .next
      (if t.periods.held = true ∧ m.stamp = t.periods.closing.stamp then
        replied .operations 0x26 tag .ok [.u32 m.stamp.toNat, .u8 t.periods.closing.spanned, .u8 1]
          { t with periods := { t.periods with collected := true } }
      else replied .operations 0x26 tag .outOfRange [] t)

/-! ## Operating states -/

/-- R174, R186, R187: COMMISSION takes an UNCOMMISSIONED part into service, with the engine ACTIVE, the supervision timer of
every ACTIVE meter started and the STARTED condition with the cause COMMISSION. RELEASE returns a locked-down part to service
with the engine ACTIVE. CLEAR-FAULTS empties the log in service and answers with the log as it stood. In any other part state
each is refused BAD-STATE with no effect.
(How a reply lays out its optional parts is the model's choice, notes/assumptions/14.md.) -/
def Obligations.AuditorsChangeTheOperatingState : Prop :=
  (∀ (tag : Byte) (s t : State), Taken .audit 0x30 tag [] s t →
    exec (.commission .audit tag (.fields ())) s = .next
      (if t.monitor.state = .uncommissioned then
        replied .audit 0x30 tag .ok
          [.u8 1, .u8 0, .u8 (t.branches.toList.countP (fun b => b.configured)),
           .u8 (t.meters.toList.countP (fun r => r.state.enrolled))]
          (setCondition .started { t with
            monitor := { t.monitor with state := .inService }
            engine := { t.engine with state := .active }
            meters := mapAll (fun r =>
              if r.state = .active then
                { r with supervision := some (t.timeBase + BitVec.ofNat 32 (3600 * r.settings.hours)) }
              else r) t.meters
            notices := { t.notices with cause := .commission, completed := false } })
      else replied .audit 0x30 tag .badState [] t)) ∧
  (∀ (tag : Byte) (s t : State), Taken .audit 0x36 tag [] s t →
    exec (.release .audit tag (.fields ())) s = .next
      (if t.monitor.state = .lockdown then
        replied .audit 0x36 tag .ok [.u8 1, .u8 0, .u8 t.monitor.log.severity.code]
          { t with monitor := { t.monitor with state := .inService }, engine := { t.engine with state := .active } }
      else replied .audit 0x36 tag .badState [] t)) ∧
  ∀ (tag : Byte) (s t : State), Taken .audit 0x37 tag [] s t →
    exec (.clearFaults .audit tag (.fields ())) s = .next
      (if t.monitor.state = .inService then
        replied .audit 0x37 tag .ok (faultLogFields t.monitor.log ++ [.u8 t.monitor.policy.code])
          { t with monitor := { t.monitor with
            log := { severity := .none, first := none, later := 0, lastKind := none, suppressed := 0 } } }
      else replied .audit 0x37 tag .badState [] t)

/-! ## The Line Interfaces -/

/-- R192, R194, R196: between frames, on a powered part and outside a break, a byte that is no start marker, or whose stop
bit is missing, is counted discarded. A start marker begins a frame while the receive buffer is free, with the L_max then in
force; with the buffer occupied it begins an overrun, which is counted. An event whose condition does not stand, as a byte of a frame
where none is being received, has no effect (the model's choice, notes/assumptions/4.md). -/
def Obligations.BytesBetweenFrames : Prop :=
  ∀ (p : Port) (b : Byte) (stop : Bool) (s : State), (s.line p).receiver = .waiting →
    let l := s.line p
    let up (n : Nat) : Nat := min (n + 1) 65535
    (s.powered = true → l.breakNow = false →
      exec (.discardedByte p b stop) s = .next
        (if b = 0xA5 ∧ stop = true then s
        else s.setLine p { l with counters := { l.counters with discarded := up l.counters.discarded } }) ∧
      exec (.startMarkerReceived p) s = .next
        (if l.buffer = none then
          s.setLine p { l with receiver := .frame {
              lMax := s.engine.lMax, kept := [0xA5], count := 1, length := 0, crc := 0xFFFF, check := 0,
              badStop := false, last := s.timeBase } }
        else s) ∧
      exec (.overrun p) s = .next
        (if l.buffer = none then s
        else s.setLine p { l with
          receiver := .overrun { count := 1, length := 0, last := s.timeBase }
          counters := { l.counters with overruns := up l.counters.overruns } })) ∧
    ((s.powered = false ∨ l.breakNow = true) →
      exec (.discardedByte p b stop) s = .next s ∧ exec (.startMarkerReceived p) s = .next s ∧
        exec (.overrun p) s = .next s) ∧
    exec (.frameByteReceived p b stop) s = .next s ∧ exec (.shortLength p b stop) s = .next s ∧
      exec (.frameCheck p b stop) s = .next s

/-- R192 to R196: within a frame, on a powered part and outside a break; first less than 3 seconds after the latest byte. A byte
that is not the last check byte joins the frame; a second length byte that makes the length less than 2 abandons it, counted.
The last check byte, number length + 4, ends the frame: a bad check or a missing stop bit is counted garbled, and otherwise
the frame stands in the receive buffer, counted oversize if it exceeds L_max. A byte with a missing stop bit is counted
discarded too. Of an overrun frame every byte is discarded until its stated end. From 3 seconds on the frame is abandoned,
counted truncated, and a byte that comes then is one between frames.
(An event whose condition does not stand, an overrun of a short length, missing stop bits and a silence settled by the next
byte are the model's choices and readings, notes/assumptions/4.md and 15.md.) -/
def Obligations.BytesWithinFrames : Prop :=
  ∀ (p : Port) (b : Byte) (stop : Bool) (s : State), s.powered = true → (s.line p).breakNow = false →
    let l := s.line p
    let up (n : Nat) : Nat := min (n + 1) 65535
    let late (c : LineCounters) : LineCounters := if stop then c else { c with discarded := up c.discarded }
    (∀ f : RxProgress, l.receiver = .frame f → (s.timeBase - f.last).toNat < 3 →
      let short : Bool := f.count == 2 && decide (f.length + b.toNat < 2)
      let atLast : Bool := decide (3 ≤ f.count) && f.count == f.length + 4
      let g := f.push b stop s.timeBase
      let abandoned : State := s.setLine p { l with
        receiver := .waiting, counters := late ({ l.counters with shortLength := up l.counters.shortLength }) }
      exec (.frameByteReceived p b stop) s = .next
        (if atLast then s
        else if short then abandoned
        else s.setLine p { l with receiver := .frame g, counters := late l.counters }) ∧
      exec (.shortLength p b stop) s = .next (if short then abandoned else s) ∧
      exec (.frameCheck p b stop) s = .next
        (if atLast then
          if g.crc ≠ g.check ∨ f.badStop = true ∨ stop = false then
            s.setLine p { l with
              receiver := .waiting, counters := late { l.counters with garbled := up l.counters.garbled } }
          else
            let c := if f.lMax < f.length + 5 then { l.counters with oversize := up l.counters.oversize } else l.counters
            s.setLine p { l with receiver := .waiting, buffer := some g.frame, counters := c }
        else s)) ∧
    (∀ o : OverrunProgress, l.receiver = .overrun o → (s.timeBase - o.last).toNat < 3 →
      let length := if o.count = 1 then b.toNat * 256 else if o.count = 2 then o.length + b.toNat else o.length
      exec (.frameByteReceived p b stop) s = .next (s.setLine p { l with
        receiver := if 2 ≤ o.count ∧ o.count = length + 4 then .waiting
          else .overrun { count := o.count + 1, length := length, last := s.timeBase }
        counters := late l.counters }) ∧
      exec (.shortLength p b stop) s = .next s ∧ exec (.frameCheck p b stop) s = .next s) ∧
    ∀ last : Word32, ((∃ f, l.receiver = .frame f ∧ f.last = last) ∨ ∃ o, l.receiver = .overrun o ∧ o.last = last) →
      ((s.timeBase - last).toNat < 3 →
        exec (.discardedByte p b stop) s = .next s ∧ exec (.startMarkerReceived p) s = .next s ∧
          exec (.overrun p) s = .next s) ∧
      (3 ≤ (s.timeBase - last).toNat →
        let cut : LineCounters := { l.counters with truncated := up l.counters.truncated }
        exec (.frameByteReceived p b stop) s = .next s ∧ exec (.shortLength p b stop) s = .next s ∧
          exec (.frameCheck p b stop) s = .next s ∧
          exec (.discardedByte p b stop) s = .next
            (if b = 0xA5 ∧ stop = true then s
            else s.setLine p { l with receiver := .waiting, counters := { cut with discarded := up cut.discarded } }) ∧
          exec (.startMarkerReceived p) s = .next
            (if l.buffer = none then
              s.setLine p { l with
                receiver := .frame {
                  lMax := s.engine.lMax, kept := [0xA5], count := 1, length := 0, crc := 0xFFFF, check := 0,
                  badStop := false, last := s.timeBase }
                counters := cut }
            else s) ∧
          exec (.overrun p) s = .next
            (if l.buffer = none then s
            else s.setLine p { l with
              receiver := .overrun { count := 1, length := 0, last := s.timeBase }
              counters := { cut with overruns := up cut.overruns } }))

/-- R194, R201: a silence of 3 seconds after the latest byte of a frame, overrun or not, abandons it, counted truncated; the
event brings the time base there if it has not come so far (the model's choice, notes/assumptions/3.md). A break abandons the
frame, empties the receive buffer and the outbound queue, stops the transmission, is counted once and un-queues every notice
class whose frame stood there, which stays pending; the end of the break lets the interface wait for a start marker. A silence
that has passed before the break is counted truncated as well.
(That a silence in an overrun, and one settled by the break, count truncated is the model's reading, notes/assumptions/15.md; events whose condition does not
stand have no effect by its choice, notes/assumptions/4.md.) -/
def Obligations.SilencesAndBreaksAbandonFrames : Prop :=
  ∀ (p : Port) (s : State),
    let l := s.line p
    let up (n : Nat) : Nat := min (n + 1) 65535
    let unqueued : Vector NoticeEntry 8 := mapAll
      (fun e => { e with phase := if e.phase = .queued p ∨ e.phase = .queuedAgain p then .pending else e.phase })
      s.notices.classes
    (s.powered = true →
      (∀ last : Word32, ((∃ f, l.receiver = .frame f ∧ f.last = last) ∨ ∃ o, l.receiver = .overrun o ∧ o.last = last) →
        exec (.silence p) s = .next
          (State.setLine
            { s with timeBase := if (s.timeBase - (last + 3)).toNat < 2 ^ 31 then s.timeBase else last + 3 } p
            { l with receiver := .waiting, counters := { l.counters with truncated := up l.counters.truncated } })) ∧
      (l.receiver = .waiting → exec (.silence p) s = .next s) ∧
      exec (.lineBreak p) s = .next
        (if l.breakNow then s
        else
          State.setLine
            { s with notices := { s.notices with classes := unqueued } } p
            { rate := l.rate, readyIn := l.readyIn, breakNow := true, receiver := .waiting, buffer := none, queue := [],
              sending := none
              counters := { l.counters with breaks := up l.counters.breaks, truncated := truncatedNow s p } }) ∧
      exec (.breakEnd p) s = .next (s.setLine p { l with breakNow := false })) ∧
    (s.powered = false →
      exec (.silence p) s = .next s ∧ exec (.lineBreak p) s = .next s ∧ exec (.breakEnd p) s = .next s)

/-- R33, R141, R158, R193, R200, R203: with ready-in asserted and no frame being sent, the frame at the head of a port's queue
begins on the transmit line as its bytes. Its full transmission takes it from the queue. For a notice the class leaves
QUEUED for IDLE and QUEUED-AGAIN for PENDING, and the entries that a SILENT, REORDER or RETIRE notice carried leave their
list, the class's condition being set again while entries remain; a retirement replaced since the sampling stays, with its
unreported mark cleared.
(That ready-in comes with the event, the mark of the entries sampled, and an event with no frame being sent are the model's
choices, notes/assumptions/8.md, 16.md and 4.md.) -/
def Obligations.FramesAreTransmitted : Prop :=
  ∀ (p : Port) (s : State), s.powered = true →
    let l := s.line p
    (∀ readyIn : Bool, exec (.frameTransmissionStart p readyIn) s = .next
      (s.setLine p { l with
        readyIn := readyIn
        sending := if l.sending = none ∧ readyIn = true then l.queue.head?.map OutFrame.bytes else l.sending })) ∧
    (l.sending = none → exec (.fullyTransmitted p) s = .next s) ∧
    ∀ (f : OutFrame) (rest : List OutFrame), l.sending.isSome = true → l.queue = f :: rest →
      let v := s.setLine p { l with queue := rest, sending := none }
      let again (c : NoticeClass) (left : Bool) (w : State) : State := if left then setCondition c w else w
      let sent (c : NoticeClass) : State :=
        { v with notices := { v.notices with classes := modifyAt v.notices.classes c.idx (fun e => { e with
          phase := match e.phase with
            | .queued _ => .idle
            | .queuedAgain _ => .pending
            | ph => ph }) } }
      ((∀ c body carried, f ≠ .notice c body carried) → exec (.fullyTransmitted p) s = .next v) ∧
      (∀ c body, f = .notice c body .nothing → exec (.fullyTransmitted p) s = .next (sent c)) ∧
      (∀ body ms, f = .notice .silent body (.meters ms) →
        exec (.fullyTransmitted p) s = .next
          (let left := s.silentList.filter (fun e => !ms.contains e.meter)
          again .silent (!left.isEmpty) { sent .silent with silentList := left })) ∧
      (∀ body ps, f = .notice .reorder body (.pairs ps) →
        exec (.fullyTransmitted p) s = .next
          (let left := s.stock.reorder.filter (fun x => !ps.contains x)
          again .reorder (!left.isEmpty) { sent .reorder with stock := { s.stock with reorder := left } })) ∧
      ∀ body ms, f = .notice .retire body (.meters ms) →
        exec (.fullyTransmitted p) s = .next
          (let kept := s.retireList.filter (fun e => !(ms.contains e.meter && e.sampled))
          let left := kept.map (fun e => { e with unreported := e.unreported && !ms.contains e.meter })
          again .retire (!left.isEmpty) { sent .retire with retireList := left })

/-- R193, R195: the bytes of a frame, received one by one with good stop bits from its start marker on, give a good check and
the frame itself, whole within L_max and marked oversize beyond it. The frame's length field is its body's length and 2. -/
def Obligations.FramesAreReadAsTheyAreWritten : Prop :=
  ∀ (kind tag : Byte) (body : List Byte) (lMax : Nat) (now : Word32), body.length + 2 < 2 ^ 16 → 5 ≤ lMax →
    ∃ rest : List Byte, frameBytes kind tag body = 0xA5 :: rest ∧ rest.length = body.length + 6 ∧
      let f := rest.foldl (fun f b => f.push b true now) (RxProgress.begin lMax now)
      (∀ n, n < rest.length →
        let g := (rest.take n).foldl (fun f b => f.push b true now) (RxProgress.begin lMax now)
        g.atLast = (n + 1 == rest.length) ∧ g.shortBy (rest[n]?.getD 0) = false) ∧
      f.good = true ∧
      f.frame = { kind := kind, tag := tag, body := body.take (lMax - 5), length := body.length + 2
                  oversize := decide (lMax < body.length + 7) }

/-! ## The Notice Unit -/

/-- R203: setting a notice condition takes the class from IDLE to PENDING and from QUEUED to QUEUED-AGAIN, and changes
nothing else. At a queuing opportunity on a port, the lowest class in code order that is PENDING, enabled and routed there,
with more than 2 places free in the queue, is sampled and its frame queued; without such a class nothing changes.
R5, R33, R127, R141, R158, R171: the body and the page of entries that the owner of each class gives.
R79: the LIST notice shows the causes of the SHORT entries.
(How a body lays out its optional parts is the model's choice, notes/assumptions/14.md; that the LIST notice shows the causes as
three counts, CEILING, POOL and MINIMUM, after the fields of R127 is its choice too, notes/assumptions/23.md.)
(That the event names a port, and the mark of the entries sampled, are the model's choices, notes/assumptions/18.md and 16.md.) -/
def Obligations.NoticesAreQueued : Prop :=
  (∀ (c : NoticeClass) (s : State),
    setCondition c s = { s with notices := { s.notices with
      classes := modifyAt s.notices.classes c.idx (fun e => { e with
        phase := match e.phase with
          | .idle => .pending
          | .queued p => .queuedAgain p
          | ph => ph }) } }) ∧
  (∀ s : State,
    let k := s.periods.closing
    let parts (xs : List (List WireField)) : List WireField := xs.flatten
    let silent := s.silentList.take 32
    let pairs := s.stock.reorder.take 16
    let retired := s.retireList.take 16
    noticeBody s .started =
      [.u8 s.notices.cause.code, flag s.notices.completed, .u8 s.monitor.state.code, .u8 s.engine.state.code,
       .u32 s.timeBase.toNat] ∧
    noticeBody s .fault = faultsBody s ∧
    noticeBody s .pool =
      [.u8 s.pool.condition.code, .u8 s.pool.worst.code, .u48 s.pool.p, .u48 (s.pool.p - s.pool.floor), .u48 s.pool.g,
       .u48 s.pool.floor, .u48 s.pool.threshold, .u48 s.pool.engagement] ∧
    noticeBody s .reorder = parts
      [[.u8 pairs.length],
       pairs.flatMap (fun x =>
         let y := s.stockLine x.1 x.2
         [.u8 x.1.val, .u8 x.2.val, .u16 y.item.toNat, .u8 y.kind.code, .u32 y.onHand, .u32 y.level]),
       [.u16 (s.stock.reorder.length - pairs.length)]] ∧
    noticeBody s .silent = parts
      [[.u8 silent.length],
       silent.flatMap (fun e => [.u8 e.meter.val, .u32 e.time.toNat, .u8 (s.meter e.meter).state.code])] ∧
    noticeBody s .list = parts
      [[.u8 s.list.state.code, .u8 s.list.entries.length],
       (List.range 8).map (fun code => .u8 (s.list.entries.countP (fun e => e.outcome.code == code))),
       [.u8 s.list.next],
       [Cause.ceiling, Cause.pool, Cause.minimum].map (fun cause =>
         .u8 (s.list.entries.countP (fun e => e.outcome == .short cause)))] ∧
    noticeBody s .period = parts
      [[.u32 k.stamp.toNat, .u8 k.spanned, flag s.periods.collected, flag k.saturated],
       k.poolAtClose.elim [.u8 0] (fun x => [.u8 1, .u48 x]),
       [flag (decide (1 < k.spanned)), .u32 s.periods.current.stamp.toNat]] ∧
    noticeBody s .retire = parts
      [[.u8 retired.length],
       retired.flatMap (fun e =>
         [.u8 e.meter.val, .u8 e.branch.val, .u48 e.finalAr, .u48 e.swept, .s64 e.delta, .u32 e.time.toNat,
          flag e.unreported])] ∧
    noticeCarries s .silent = .meters (silent.map SilentEntry.meter) ∧ noticeCarries s .reorder = .pairs pairs ∧
    noticeCarries s .retire = .meters (retired.map RetireEntry.meter) ∧
    ∀ c : NoticeClass, c ≠ .silent → c ≠ .reorder → c ≠ .retire → noticeCarries s c = .nothing) ∧
  ∀ (p : Port) (s : State),
    let ripe (c : NoticeClass) : Prop :=
      s.powered = true ∧ (s.noticeClass c).phase = .pending ∧ (s.noticeClass c).enabled = true ∧
        (s.noticeClass c).route = p ∧ (s.line p).queue.length < 14
    ((∀ c, ¬ ripe c) → exec (.queuingOpportunity p) s = .next s) ∧
    ∀ c : NoticeClass, ripe c → (∀ d : NoticeClass, d.idx < c.idx → ¬ ripe d) →
      exec (.queuingOpportunity p) s = .next
        (State.setLine { s with
          notices := { s.notices with classes := modifyAt s.notices.classes c.idx (fun e => { e with phase := .queued p }) }
          retireList := if c = .retire then
              s.retireList.map (fun e => { e with
                sampled := ((s.retireList.take 16).map RetireEntry.meter).contains e.meter })
            else s.retireList } p
          { s.line p with queue := (s.line p).queue ++ [.notice c (noticeBody s c) (noticeCarries s c)] })

/-! ## The Refill Arbiter -/

/-- R62 to R64: what a ring search finds. With a member in the high ring, positions are searched from the high pointer
upward and on from 0 after 49: the first member found is served from the high ring and the high pointer moves past it; where
the open low slot comes first, the first requester from the low pointer upward that is present and no high member is served
from the low ring, the high pointer is put at 0 and the low pointer moves past the requester. With no high member the first
present requester from the low pointer upward is served, and only the low pointer moves. Nothing is found only when no
requester is present.
R59: a branch is present when it is configured, not suspended and has an eligible request in its pending order, the meter
ACTIVE with no hold-off running; the List Unit when the list is RUNNING with a next WAITING entry. R62: a present branch is a
member of the high ring when its class is HIGH or an eligible request's urgency is mapped HIGH, the List Unit when present
with the class HIGH. -/
def Obligations.RingsAreSearchedFromThePointers : Prop :=
  ∀ s : State,
    let waits (n : MeterId) (q : PendingRequest) : Prop :=
      (s.meter n).pendingReq = some q ∧ (s.meter n).state = .active ∧ (s.meter n).holdOff = none
    (∀ r : Requester,
      if h : r.val < 48 then
        let b := s.branch ⟨r.val, h⟩
        (present s r = true ↔ b.configured = true ∧ b.suspended = false ∧ ∃ n ∈ b.order, ∃ q, waits n q) ∧
        (highMember s r = true ↔ present s r = true ∧
          (b.cls = .high ∨ ∃ n ∈ b.order, ∃ q, waits n q ∧ s.urgencyMap.get q.urgency = .high))
      else
        (present s r = true ↔
          s.list.state = .running ∧ ∃ e, s.list.entries[s.list.next]? = some e ∧ e.outcome = .waiting) ∧
        (highMember s r = true ↔ present s r = true ∧ s.list.cls = .high)) ∧
    let turnHigh (pos : Nat) : Nat := (pos + 50 - s.arbiter.high.val) % 50
    let turnLow (i : Nat) : Nat := (i + 49 - s.arbiter.low.val) % 49
    (ringSearch s = none ↔ ∀ r : Requester, present s r = false) ∧
    ∀ x : Pick, ringSearch s = some x →
      if ∃ r : Requester, highMember s r = true then
        (x.ring = .high ∧ highMember s x.requester = true ∧ x.high.val = x.requester.val + 1 ∧ x.low = s.arbiter.low ∧
          (∀ r : Requester, highMember s r = true → turnHigh x.requester.val ≤ turnHigh r.val) ∧
          ((∃ q : Requester, present s q = true ∧ highMember s q = false) → turnHigh x.requester.val < turnHigh 49)) ∨
        (x.ring = .low ∧ present s x.requester = true ∧ highMember s x.requester = false ∧ x.high.val = 0 ∧
          x.low.val = (x.requester.val + 1) % 49 ∧
          (∀ r : Requester, highMember s r = true → turnHigh 49 < turnHigh r.val) ∧
          ∀ q : Requester, present s q = true → highMember s q = false → turnLow x.requester.val ≤ turnLow q.val)
      else
        x.ring = .low ∧ present s x.requester = true ∧ x.high = s.arbiter.high ∧
          x.low.val = (x.requester.val + 1) % 49 ∧
          ∀ q : Requester, present s q = true → turnLow x.requester.val ≤ turnLow q.val

/-- R60, R61, R65 to R67: SELECTION. While one of the six conditions of R60 fails nothing changes. Otherwise the batch holder
is served again, its counter rising by 1, if it is present, its batch is on, the counter is below the batch limit and the rule
of its ring finds it a request. If not, it is no longer the holder, a HALTING list that held the batch becomes HALTED, and
the requester that a ring search finds is served; it becomes the holder, with a counter of 1, if its batch is on. Within a
branch the oldest eligible request is served, or, for a LOW branch chosen from the high ring, the oldest one mapped HIGH.
(That the event has no effect otherwise is the model's choice, notes/assumptions/4.md; that a batch holder then stays recorded is
its reading, notes/assumptions/10.md.) -/
def Obligations.SelectionPicksARequester : Prop :=
  ∀ s : State,
    let six : Prop :=
      s.monitor.state = .inService ∧ s.engine.state = .active ∧ (∃ k : SlotId, s.engine.slots.get k = none) ∧
        s.operations.queue.length ≤ 13 ∧ s.pool.engagement ≤ s.pool.p - s.pool.floor ∧
        ∃ r : Requester, present s r = true
    let found (b : BranchId) (ring : Ring) (v : State) : Option MeterId :=
      (v.branch b).order.find? (fun n =>
        (v.meter n).pendingReq.isSome && (v.meter n).state == .active && (v.meter n).holdOff.isNone &&
          (ring == .low || (v.branch b).cls == .high ||
            (v.meter n).pendingReq.any (fun q => v.urgencyMap.get q.urgency == .high)))
    let batches (r : Requester) : Bool := if h : r.val < 48 then (s.branch ⟨r.val, h⟩).batch else s.list.batch
    let served (r : Requester) (ring : Ring) (a : Arbiter) (v : State) : State :=
      if h : r.val < 48 then
        match found ⟨r.val, h⟩ ring v with
        | some n => serveRequest n { v with arbiter := a }
        | none => { v with arbiter := a }
      else serveList { v with arbiter := a }
    (s.powered = false ∨ ¬ six → exec .selection s = .next s) ∧
    (s.powered = true → six →
      let goesOn (r : Requester) (ring : Ring) : Prop :=
        s.arbiter.holder = some (r, ring) ∧ present s r = true ∧ batches r = true ∧
          s.arbiter.counter < s.engine.batchLimit ∧
          if h : r.val < 48 then (found ⟨r.val, h⟩ ring s).isSome = true
          else ∃ e, s.list.entries[s.list.next]? = some e ∧ e.outcome = .waiting
      (∀ (r : Requester) (ring : Ring), goesOn r ring →
        exec .selection s = .next (served r ring { s.arbiter with counter := s.arbiter.counter + 1 } s)) ∧
      ((∀ (r : Requester) (ring : Ring), ¬ goesOn r ring) →
        let freed : State := { s with arbiter := { s.arbiter with holder := none, counter := 0 } }
        let v := if s.list.state = .halting ∧ s.arbiter.holder.map Prod.fst = some 48 then
            setCondition .list { freed with list := { s.list with state := .halted } }
          else freed
        ∃ x : Pick, ringSearch s = some x ∧
          exec .selection s = .next (served x.requester x.ring
            { high := x.high
              low := x.low
              holder := if batches x.requester then some (x.requester, x.ring) else none
              counter := if batches x.requester then 1 else 0 } v)))

/-- R70 to R78, R81, R83, R86, R87, R90: the service of a meter's pending request. The raw amount is the least of Q, the
headroom, V, the branch's A where it has one and, under rationing, floor(V × W / 64); the grant is the largest multiple of
the step within it. A grant of 0 or below the minimum is refused SHORT with the first cause that binds: the pace is loaded
with 15, the refusal counted and REFILL-REFUSED queued. Otherwise it is reserved: P falls, G rises, A falls, the meter takes
the grant with the next free serial in the lowest free slot, and GRANT-OFFER is queued. Either way the request leaves its
branch's pending order. The serial taken is the first from the next serial on, 1 after 65,535, that no unresolved grant
holds. -/
def Obligations.RequestsAreGrantedOrRefused : Prop :=
  (∀ s : State, s.engine.nextSerial ≠ 0 →
    let held (x : Nat) : Prop := ∃ (m : MeterId) (g : Grant), (s.meter m).grant = some g ∧ g.serial.toNat = x
    let candidate (d : Nat) : Nat := (s.engine.nextSerial.toNat - 1 + d) % 65535 + 1
    ∃ d : Nat, (takenSerial s).toNat = candidate d ∧ ¬ held (candidate d) ∧ ∀ e, e < d → held (candidate e)) ∧
  ∀ (n : MeterId) (q : PendingRequest) (k : SlotId) (s : State), (s.meter n).pendingReq = some q →
    s.engine.slots.get k = none → (∀ j : SlotId, j < k → s.engine.slots.get j ≠ none) →
    ∃ raw : Nat,
      let r := s.meter n
      let b := s.branch r.branch
      let v := s.pool.p - s.pool.floor
      let head := r.settings.ceiling - r.drMirror
      let rations : Bool := decide (0 < s.pool.threshold ∧ v < s.pool.threshold)
      let cap := v * b.weight / 64
      let left : Option Nat := b.allowance.map (fun a => a.remaining)
      let x := r.settings.step * (raw / r.settings.step)
      let dropped (w : State) : State := modMeter n (fun y => { y with pendingReq := none })
        (modBranch r.branch (fun y => { y with order := y.order.filter (fun m => m != n) }) w)
      (raw ≤ q.q ∧ raw ≤ head ∧ raw ≤ v ∧ (∀ a, left = some a → raw ≤ a) ∧ (rations = true → raw ≤ cap)) ∧
      (raw = q.q ∨ raw = head ∨ raw = v ∨ left = some raw ∨ (rations = true ∧ raw = cap)) ∧
      (x = 0 ∨ x < r.settings.minimum →
        let cause : Cause :=
          if raw = q.q then .minimum
          else if raw = head then .ceiling
          else if left = some raw then .allowance
          else if raw = v then .pool
          else .ration
        let bank := s.periods.current.branches.get r.branch
        let u := dropped s
        serveRequest n s =
          { u with
            branches := modifyAt u.branches r.branch (fun y => { y with pace := 15 })
            periods := { s.periods with current := { s.periods.current with
              branches := modifyAt s.periods.current.branches r.branch (fun y => { y with
                short := min (y.short + 1) (2 ^ 32 - 1) })
              saturated := s.periods.current.saturated || decide (2 ^ 32 - 1 < bank.short + 1) } }
            operations := { s.operations with queue := s.operations.queue ++ [.refillRefused n cause] } }) ∧
      (x ≠ 0 → r.settings.minimum ≤ x →
        let serial := takenSerial s
        let u := dropped (modBranch r.branch (fun y => { y with
            allowance := y.allowance.map (fun a => { a with remaining := a.remaining - x }) })
          (recheckPool { s with
            pool := { s.pool with p := s.pool.p - x, g := min (s.pool.g + x) (2 ^ 48 - 1) }
            periods := { s.periods with current := { s.periods.current with
              saturated := s.periods.current.saturated ||
                decide (2 ^ 48 - 1 < s.pool.p ∨ s.pool.p < x ∨ 2 ^ 48 - 1 < s.pool.g + x) } } }))
        serveRequest n s =
          { modMeter n (fun y => { y with
              grant := some { serial := serial, amount := x, phase := .offered k, source := .request } }) u with
            engine := { s.engine with
              nextSerial := if serial = 65535 then 1 else serial + 1
              slots := modifyAt s.engine.slots k (fun _ => some
                { serial := serial, meter := n, amount := x
                  expiry := s.timeBase + BitVec.ofNat 32 s.engine.window }) }
            operations := { s.operations with
              queue := s.operations.queue ++ [.grantOffer n serial x s.engine.window] } })

/-- R79, R80, R82, R118 to R122: a service of the List Unit processes its next entry. Of a meter that is not ACTIVE the entry
is SKIPPED-STATE, of one with an unresolved grant SKIPPED-BUSY. Otherwise a pending request of the meter is superseded, with a
REFILL-REFUSED, and the grant is the least of the entry's amount, the headroom and V rounded down to the step, the minimum and
the hold-off not applying: of 0 the entry is SHORT, and a stop-on-short list with a WAITING entry after it becomes HALTED;
otherwise it is reserved with the entry OFFERED. The next entry then moves on, and with no WAITING entry left the run ends.
Of a meter that is skipped the whole record stays, and of one whose entry is SHORT all but the superseded request.
(That a list halted so keeps its recorded batch until the next selection is the model's reading, notes/assumptions/19.md.) -/
def Obligations.ListEntriesAreServed : Prop :=
  ∀ (e : Entry) (k : SlotId) (s : State), s.list.entries[s.list.next]? = some e → e.outcome = .waiting →
    s.engine.slots.get k = none → (∀ j : SlotId, j < k → s.engine.slots.get j ≠ none) →
    let i := s.list.next
    let r := s.meter e.meter
    let v := s.pool.p - s.pool.floor
    let head := r.settings.ceiling - r.drMirror
    let raw := min e.q (min head v)
    let x := r.settings.step * (raw / r.settings.step)
    let cause : Cause :=
      if raw = e.q then .minimum else if raw = head then .ceiling else .pool
    let outcome : EntryOutcome :=
      if r.state ≠ .active then .skippedState r.state
      else if r.grant ≠ none then .skippedBusy
      else if x = 0 then .short cause
      else .offered
    let entries := s.list.entries.modify i (fun y => { y with
      outcome := outcome, serial := if outcome = .offered then some (takenSerial s) else y.serial })
    let waits := entries.any (fun y => y.outcome == .waiting)
    let offers := entries.any (fun y => y.outcome == .offered)
    let halts : Bool := x == 0 && outcome == .short cause && e.stopOnShort && waits
    let done : Bool := !waits && !offers
    let supersedes : Bool := r.state == .active && r.grant.isNone && r.pendingReq.isSome
    (∀ y ∈ s.list.entries.take i, y.outcome ≠ .waiting) →
    ∃ u : State, serveList s = u ∧
      u.list = { s.list with
        entries := entries
        next := i + 1
        state := if halts then .halted
          else if waits then s.list.state else if offers then .drainingList else .done } ∧
      (∀ c : NoticeClass, u.noticeClass c = { s.noticeClass c with
        phase :=
          if (c = .list ∧ (halts || done || (outcome != .offered && !e.quiet)) = true) ∨
              (c = .pool ∧ outcome = .offered ∧ s.pool.recorded.rank < u.pool.recorded.rank) then
            (s.noticeClass c).phase.afterCondition
          else (s.noticeClass c).phase }) ∧
      (outcome ≠ .offered → u.pool = s.pool ∧ u.engine = s.engine ∧ u.periods = s.periods ∧
        u.meter e.meter = { r with pendingReq := if supersedes then none else r.pendingReq }) ∧
      (outcome = .offered →
        u.pool = (recheckPool { s with
          pool := { s.pool with p := s.pool.p - x, g := min (s.pool.g + x) (2 ^ 48 - 1) } }).pool ∧
        u.periods = { s.periods with current := { s.periods.current with
          saturated := s.periods.current.saturated ||
            decide (2 ^ 48 - 1 < s.pool.p ∨ s.pool.p < x ∨ 2 ^ 48 - 1 < s.pool.g + x) } } ∧
        u.meter e.meter = { r with
          pendingReq := none
          grant := some { serial := takenSerial s, amount := x, phase := .offered k, source := .list (some i) } } ∧
        u.engine = { s.engine with
          nextSerial := if takenSerial s = 65535 then 1 else takenSerial s + 1
          slots := modifyAt s.engine.slots k (fun _ => some
            { serial := takenSerial s, meter := e.meter, amount := x
              expiry := s.timeBase + BitVec.ofNat 32 s.engine.window }) }) ∧
      (∀ m : MeterId, m ≠ e.meter → u.meter m = s.meter m) ∧
      (u.operations = { s.operations with queue := s.operations.queue ++
        (if supersedes then [.refillRefused e.meter .superseded] else []) ++
        (if outcome = .offered then [.grantOffer e.meter (takenSerial s) x s.engine.window] else []) } ∧
      ∀ b : BranchId, u.branch b = { s.branch b with
        order := if supersedes ∧ r.branch = b then (s.branch b).order.filter (fun m => m != e.meter)
          else (s.branch b).order }) ∧
      u = { s with
        pool := u.pool, meters := u.meters, branches := u.branches, engine := u.engine, list := u.list
        operations := u.operations
        periods := u.periods
        notices := { s.notices with classes := u.notices.classes } }

/-! ## Timers -/

/-- R32, R33, R35: a running supervision timer that expires makes the meter SILENT, drops its pending request, puts it on the
silent list with the time, unless it stands there, and sets the SILENT condition. A running hold-off timer that expires stops.
The time base is then at least at the expiry time. A stopped timer does not expire, and an unpowered part takes no expiry.
(That the event brings the time base there is the model's choice, notes/assumptions/3.md.)
(That an expiry of a stopped timer has no effect is the model's choice, notes/assumptions/4.md.) -/
def Obligations.TimersExpire : Prop :=
  ∀ (n : MeterId) (s : State),
    let at_ (e : Word32) : State :=
      { s with timeBase := if (s.timeBase - e).toNat < 2 ^ 31 then s.timeBase else e }
    (∀ e : Word32, s.powered = true → (s.meter n).supervision = some e →
      exec (.supervisionExpiry n) s = .next
        (let v := at_ e
        let dropped := if (s.meter n).pendingReq = none then v
          else modBranch (s.meter n).branch (fun b => { b with order := b.order.filter (fun m => m != n) }) v
        let met := modMeter n (fun r => { r with state := .silent, supervision := none, pendingReq := none }) dropped
        setCondition .silent { met with
          silentList := if ∃ y ∈ s.silentList, y.meter = n then s.silentList
            else s.silentList ++ [{ meter := n, time := v.timeBase }] })) ∧
    (∀ e : Word32, s.powered = true → (s.meter n).holdOff = some e →
      exec (.holdOffExpiry n) s = .next (modMeter n (fun r => { r with holdOff := none }) (at_ e))) ∧
    (s.powered = false ∨ (s.meter n).supervision = none → exec (.supervisionExpiry n) s = .next s) ∧
    (s.powered = false ∨ (s.meter n).holdOff = none → exec (.holdOffExpiry n) s = .next s)

/-! ## Power -/

/-- R43, R69, R112, R129, R160, R172, R175, R192, R203: POWER-ON with retained memory intact. Both lines start empty at their
strapped rates; the notice classes and the two report lists are cleared; pending requests are dropped; every OFFERED grant
is DOUBTFUL and every slot free; DRAINING meters are AWAITING-READING; the arbiter's fields are at 0; a RUNNING or HALTING
list is HALTED; the engine is ACTIVE in service and STOPPED otherwise. A restart that was QUIESCING in service completes: every
pace is 0 and every hold-off timer stopped. STARTED is set with the cause POWER, FAULT in LOCKDOWN, REORDER while its list is
not empty, and PERIOD while the closing bank is held and uncollected. Everything else is kept, the time base with it.
(A power-on of a powered part, and the level kept of ready-in, are the model's choices, notes/assumptions/6.md and 8.md.) -/
def Obligations.PowerOnKeepsRetainedState : Prop :=
  ∀ (straps : Straps) (s : State),
    let completes : Bool := s.monitor.state == .inService && s.engine.state == .quiescing
    let rate (x : StrapPins) : LineRate :=
      if x.second then (if x.first then .r115200 else .r57600) else (if x.first then .r19200 else .r9600)
    let line (x : StrapPins) (l : LineIf) : LineIf :=
      { rate := rate x, readyIn := l.readyIn, breakNow := false, receiver := .waiting, buffer := none, queue := [],
        sending := none
        counters := { discarded := 0, shortLength := 0, truncated := 0, garbled := 0, oversize := 0, overruns := 0,
                      breaks := 0 } }
    let set (c : NoticeClass) : Bool :=
      match c with
      | .started => true
      | .fault => s.monitor.state == .lockdown
      | .reorder => s.stock.reorder != []
      | .period => s.periods.held && !s.periods.collected
      | _ => false
    ∃ u : State, exec (.powerOn straps) s = .next u ∧
      (∀ n : MeterId, u.meter n = { s.meter n with
        pendingReq := none
        grant := (s.meter n).grant.map (fun g => { g with phase := .doubtful })
        state := if (s.meter n).state = .draining then .awaitingReading else (s.meter n).state
        holdOff := if completes then none else (s.meter n).holdOff }) ∧
      (∀ b : BranchId, u.branch b = { s.branch b with
        order := [], pace := if completes then 0 else (s.branch b).pace }) ∧
      (∀ c : NoticeClass, u.noticeClass c = { s.noticeClass c with phase := if set c then .pending else .idle }) ∧
      u = { s with
        powered := true
        operations := line straps.operations s.operations
        audit := line straps.audit s.audit
        silentList := []
        retireList := []
        meters := u.meters
        branches := u.branches
        arbiter := { high := 0, low := 0, holder := none, counter := 0 }
        engine := { s.engine with
          slots := Vector.replicate 8 none
          state := if s.monitor.state = .inService then .active else .stopped }
        list := { s.list with
          state := if s.list.state = .running ∨ s.list.state = .halting then .halted else s.list.state }
        notices := { classes := u.notices.classes, cause := .power, completed := completes } }

/-- R17, R175, R176: a loss of power clears the volatile state, the lines, the notice phases and the two report lists, and
leaves the part unpowered with the time base standing still. POWER-ON with the retention-lost input asserted puts every
retained field at its value after retention loss: the part UNCOMMISSIONED under STRICT with RETENTION-LOST, a BREACH, logged
at time 0; the pool all 0 with E at 1, DRY; every meter VACANT; every branch and stock line unconfigured; the engine STOPPED
with next serial 1, window 180, batch limit 4 and L_max 512; the list EMPTY; no bank held; STARTED and FAULT pending.
(What happens on a part already unpowered, and when volatile state is cleared, is the model's choice, notes/assumptions/6.md; the
level of ready-in is kept by its choice, notes/assumptions/8.md.) -/
def Obligations.PowerLossAndRetentionLoss : Prop :=
  (∀ s : State,
    (s.powered = false → exec .powerLoss s = .next s) ∧
    (s.powered = true → ∃ u : State, exec .powerLoss s = .next u ∧
      (∀ p : Port, u.line p =
        { rate := (s.line p).rate, readyIn := (s.line p).readyIn, breakNow := false, receiver := .waiting,
          buffer := none, queue := [], sending := none
          counters := { discarded := 0, shortLength := 0, truncated := 0, garbled := 0, oversize := 0, overruns := 0,
                        breaks := 0 } }) ∧
      (∀ c : NoticeClass, u.noticeClass c = { s.noticeClass c with phase := .idle }) ∧
      u = { s with
        powered := false, silentList := [], retireList := [], operations := u.operations, audit := u.audit
        notices := { s.notices with classes := u.notices.classes } })) ∧
  ∀ (straps : Straps) (s : State),
    let rate (x : StrapPins) : LineRate :=
      if x.second then (if x.first then .r115200 else .r57600) else (if x.first then .r19200 else .r9600)
    let line (x : StrapPins) (readyIn : Bool) : LineIf :=
      { rate := rate x, readyIn := readyIn, breakNow := false, receiver := .waiting, buffer := none, queue := [],
        sending := none
        counters := { discarded := 0, shortLength := 0, truncated := 0, garbled := 0, oversize := 0, overruns := 0,
                      breaks := 0 } }
    let emptied (bank : Bank) : Prop :=
      (∀ b : BranchId, bank.branches.get b =
        { used := 0, appliedCount := 0, appliedAmount := 0, reversed := 0, short := 0, sales := 0, spoilage := 0,
          variance := 0 }) ∧
      bank = { stamp := 0, spanned := 1, saturated := false, poolAtClose := none, branches := bank.branches, deposits := 0,
               refunds := 0, purchases := 0, sweeps := 0, adjustments := 0 }
    ∃ u : State, exec (.powerOnRetentionLost straps) s = .next u ∧
      (∀ n : MeterId, u.meter n =
        { state := .vacant, branch := 0, base := 0, credited := 0, ct := 0, arMirror := 0, drMirror := 0, lastLabels := 0,
          settings := { ceiling := 500000, step := 100, minimum := 1000, holdOff := 600, hours := 26, link := none },
          pendingReq := none, grant := none, lastOutcome := none, rejected := none, holdOff := none,
          supervision := none }) ∧
      (∀ b : BranchId, u.branch b =
        { configured := false, cls := .low, weight := 16, batch := false, suspended := false, allowance := none, pace := 0,
          order := [] }) ∧
      (∀ x : Urgency, u.urgencyMap.get x = if 6 ≤ x.val then .high else .low) ∧
      (∀ k : SlotId, u.engine.slots.get k = none) ∧
      (∀ (b : BranchId) (l : LineNo), u.stockLine b l =
        { configured := false, item := 0, kind := .other, face := 0, onHand := 0, level := 0, raised := false,
          receipts := 0, issues := 0, spoilage := 0, shortfall := 0 }) ∧
      emptied u.periods.current ∧ emptied u.periods.closing ∧
      (∀ c : NoticeClass, u.noticeClass c =
        { enabled := true
          route := if c = .fault ∨ c = .period then .audit else .operations
          phase := if c = .started ∨ c = .fault then .pending else .idle }) ∧
      u =
        { powered := true, timeBase := 0
          pool := { p := 0, dep := 0, g := 0, i := 0, r := 0, rf := 0, k := 0, floor := 0, threshold := 0, engagement := 1,
                    lastVoucher := 0, recorded := .dry, worst := .dry }
          meters := u.meters, silentList := [], retireList := [], branches := u.branches, urgencyMap := u.urgencyMap
          arbiter := { high := 0, low := 0, holder := none, counter := 0 }
          engine := { state := .stopped, slots := u.engine.slots, nextSerial := 1, window := 180, batchLimit := 4,
                      lMax := 512 }
          list := { state := .empty, entries := [], next := 0, cls := .high, batch := false }
          stock := { lines := u.stock.lines, reorder := [], tolerance := 0 }
          periods := { current := u.periods.current, closing := u.periods.closing, held := false, collected := true }
          monitor :=
            { state := .uncommissioned, policy := .strict
              log :=
                { severity := .breach, later := 0, lastKind := some .retentionLost, suppressed := 0
                  first := some
                    { kind := .retentionLost, time := 0, ct := 0, meter := none, serial := 0, amount := 0,
                      grantValid := false, reading := none } } }
          notices := { classes := u.notices.classes, cause := .power, completed := false }
          operations := line straps.operations s.operations.readyIn
          audit := line straps.audit s.audit.readyIn
          pending := s.pending }

/-! ## Laws of every step

A law is stated as what every step keeps: it holds after a step from every state in which it holds, whether a run reaches that
state or not. Where another law rules out a state that no run reaches, it stands as a premise and is a statement of its own.
That the state after reset meets them all is `ResetMeetsTheLaws`. -/

/-- Every law that a statement of this file says every step keeps holds in the state after reset.
(The state after reset is the model's choice where the manual fixes no pin, notes/assumptions/1.md.) -/
def Obligations.ResetMeetsTheLaws : Prop :=
  PoolRange State.reset ∧ ConditionRecorded State.reset ∧ Conserved State.reset ∧ BranchCapacity State.reset ∧
    MirrorLaw State.reset ∧ BranchLaw State.reset ∧ OrderLaw State.reset ∧ GrantTotal State.reset ∧
    SlotLaw State.reset ∧ SerialLaw State.reset ∧ RecordLaw State.reset ∧ SupervisionLaw State.reset ∧
    AmountLaw State.reset ∧ EngineLaw State.reset ∧ ListLaw State.reset ∧ StockLaw State.reset ∧
    ReorderLaw State.reset ∧ QueueLaw State.reset ∧ CounterLaw State.reset ∧ NoticeLaw State.reset ∧
    UnpoweredLaw State.reset

/-- R1, R4, R15: P and the six totals stay within 0 to 2^48 − 1, and the recorded pool condition stays the one that V, T and
E give.
R15, R16: P + G + I − R + RF + K = Dep is kept by every step after which the current bank's saturated mark, which every
figure held at a limit sets, is clear.
(That the saturated mark stands for 'has reached its limit' is the model's reading of R16, notes/assumptions/22.md.) -/
def Obligations.PoolFiguresStayInRangeAndConserved : Prop :=
  (∀ s t : State, PoolRange s → ConditionRecorded s → step s = .next t → PoolRange t ∧ ConditionRecorded t) ∧
  ∀ s t : State, Conserved s → step s = .next t → t.periods.current.saturated = false → Conserved t

/-- R26: no branch has more than 8 meters whose state is neither VACANT nor RETIRED. -/
def Obligations.BranchesHoldEightMeters : Prop :=
  (∀ b : BranchId, State.reset.meters.toList.countP (fun r => r.branch == b && r.state != .vacant && r.state != .retired) ≤ 8) ∧
    ∀ s t : State, RecordLaw s →
      (∀ b : BranchId, s.meters.toList.countP (fun r => r.branch == b && r.state != .vacant && r.state != .retired) ≤ 8) →
      step s = .next t →
      ∀ b : BranchId, t.meters.toList.countP (fun r => r.branch == b && r.state != .vacant && r.state != .retired) ≤ 8

/-- R41: for every meter that is not VACANT, AR mirror ≤ CT and DR mirror = CT − AR mirror; with it R18's CT = base +
credited. -/
def Obligations.MirrorsMatchTheControlTotal : Prop :=
  (MirrorLaw State.reset ∧ ∀ s t : State, RecordLaw s → MirrorLaw s → step s = .next t → MirrorLaw t) ∧
    ∀ s : State, MirrorLaw s → ∀ m : MeterId, (s.meter m).state ≠ .vacant →
      (s.meter m).arMirror ≤ (s.meter m).ct ∧ (s.meter m).drMirror = (s.meter m).ct - (s.meter m).arMirror

/-- R50, R52: for every branch with an allowance set, 0 ≤ A ≤ its period allowance, and every branch's pace lies in 0..15. -/
def Obligations.AllowanceAndPaceStayInRange : Prop :=
  BranchLaw State.reset ∧ ∀ s t : State, BranchLaw s → step s = .next t → BranchLaw t

/-- R58: a meter with a pending request is ACTIVE, has no unresolved grant, and appears exactly once in its own branch's
pending order; no other meter appears in any pending order. -/
def Obligations.PendingOrdersMatchRequests : Prop :=
  OrderLaw State.reset ∧ ∀ s t : State, OrderLaw s → step s = .next t → OrderLaw t

/-- R20, R31, R54, R80, R114, R131, R132, R142: the meter records stay in form. VACANT and RETIRED records hold no grant, no
rejected reading and no running timer; a retiring meter's timers are stopped, and it is DRAINING exactly while its grant is
OFFERED; once commissioned, supervision runs exactly while a meter is ACTIVE; no amount exceeds 99,999,999. -/
def Obligations.MeterRecordsStayInForm : Prop :=
  (∀ s t : State, OrderLaw s → RecordLaw s → step s = .next t → RecordLaw t) ∧
    (∀ s t : State, SupervisionLaw s → step s = .next t → SupervisionLaw t) ∧
    ∀ s t : State, AmountLaw s → step s = .next t → AmountLaw t

/-- R106, R107: G equals the sum of the amounts of all unresolved grants, of which a meter holds at most one; a slot is
occupied exactly for an OFFERED grant.
R87: no serial is 0, and two unresolved grants never share a serial. -/
def Obligations.GrantsMatchPoolSlotsAndSerials : Prop :=
  ((∀ s t : State, OrderLaw s → RecordLaw s → AmountLaw s → GrantTotal s → step s = .next t → GrantTotal t) ∧
    (∀ s t : State, OrderLaw s → RecordLaw s → SlotLaw s → step s = .next t → SlotLaw t) ∧
    ∀ s : State, SlotLaw s →
      occupiedSlots s = s.meters.toList.countP (fun r => r.grant.any Grant.isOffered) ∧ occupiedSlots s ≤ 8) ∧
  ∀ s t : State, SerialLaw s → step s = .next t → SerialLaw t

/-- R105, R108, R109, R173: the engine is STOPPED exactly outside service, and while it is QUIESCING some slot is occupied.
R178, R202: the line counters and the counts of the fault log stay within 65,535.
An unpowered part holds no volatile state: no report list, notice phase, frame, queue or transmission stands, and every line
counter is 0. (This clause is the model's choice, notes/assumptions/6.md: the manual says that volatile state starts empty at
every power-on, and the model clears it at the loss of power already.) -/
def Obligations.EngineCountersAndPowerStayInForm : Prop :=
  (∀ s t : State, EngineLaw s → step s = .next t → EngineLaw t) ∧
    (∀ s t : State, CounterLaw s → step s = .next t → CounterLaw t) ∧
    ∀ s t : State, UnpoweredLaw s → step s = .next t → UnpoweredLaw t

/-- R113, R118, R123: the list holds at most 32 entries, those from the next entry on are the WAITING ones, and a grant that
names an entry is held by that entry's meter, the entry OFFERED. -/
def Obligations.TheListStaysInOrder : Prop :=
  ∀ s t : State, ListLaw s → step s = .next t → ListLaw t

/-- R155 to R157: every line's on hand stays within 999,999, its reorder mark tells that it is below its level, and the reorder
list holds only such lines, none twice. -/
def Obligations.StockStaysInForm : Prop :=
  (∀ s t : State, StockLaw s → step s = .next t → StockLaw t) ∧
    ∀ s t : State, StockLaw s → ReorderLaw s → step s = .next t → ReorderLaw t

/-- R200, R203: an outbound queue holds at most 16 frames, the bytes being sent are those of the frame at its head, and a
notice class is queued on a port exactly while one frame of the class stands in that port's queue. -/
def Obligations.QueuesStayInForm : Prop :=
  (∀ s t : State, QueueLaw s → step s = .next t → QueueLaw t) ∧
    ∀ s t : State, NoticeLaw s → step s = .next t → NoticeLaw t
end

