-- ==== Sys2Proof/Laws/State.lean ====
section
/-!
SUPPORT. What each update of the state does to each field: one lemma for each update and field, true by unfolding, so that
no later proof unfolds a record update.
-/

namespace Sys2Proof.Machine

variable (s : State)

/-! ## setPool -/

@[simp] theorem State.setPool_powered (x : Pool) : (s.setPool x).powered = s.powered := rfl
@[simp] theorem State.setPool_timeBase (x : Pool) : (s.setPool x).timeBase = s.timeBase := rfl
@[simp] theorem State.setPool_pool (x : Pool) : (s.setPool x).pool = x := rfl
@[simp] theorem State.setPool_meters (x : Pool) : (s.setPool x).meters = s.meters := rfl
@[simp] theorem State.setPool_silentList (x : Pool) : (s.setPool x).silentList = s.silentList := rfl
@[simp] theorem State.setPool_retireList (x : Pool) : (s.setPool x).retireList = s.retireList := rfl
@[simp] theorem State.setPool_branches (x : Pool) : (s.setPool x).branches = s.branches := rfl
@[simp] theorem State.setPool_urgencyMap (x : Pool) : (s.setPool x).urgencyMap = s.urgencyMap := rfl
@[simp] theorem State.setPool_arbiter (x : Pool) : (s.setPool x).arbiter = s.arbiter := rfl
@[simp] theorem State.setPool_engine (x : Pool) : (s.setPool x).engine = s.engine := rfl
@[simp] theorem State.setPool_list (x : Pool) : (s.setPool x).list = s.list := rfl
@[simp] theorem State.setPool_stock (x : Pool) : (s.setPool x).stock = s.stock := rfl
@[simp] theorem State.setPool_periods (x : Pool) : (s.setPool x).periods = s.periods := rfl
@[simp] theorem State.setPool_monitor (x : Pool) : (s.setPool x).monitor = s.monitor := rfl
@[simp] theorem State.setPool_notices (x : Pool) : (s.setPool x).notices = s.notices := rfl
@[simp] theorem State.setPool_operations (x : Pool) : (s.setPool x).operations = s.operations := rfl
@[simp] theorem State.setPool_audit (x : Pool) : (s.setPool x).audit = s.audit := rfl
@[simp] theorem State.setPool_pending (x : Pool) : (s.setPool x).pending = s.pending := rfl

/-! ## setMeters -/

@[simp] theorem State.setMeters_powered (x : Vector Meter 192) : (s.setMeters x).powered = s.powered := rfl
@[simp] theorem State.setMeters_timeBase (x : Vector Meter 192) : (s.setMeters x).timeBase = s.timeBase := rfl
@[simp] theorem State.setMeters_pool (x : Vector Meter 192) : (s.setMeters x).pool = s.pool := rfl
@[simp] theorem State.setMeters_meters (x : Vector Meter 192) : (s.setMeters x).meters = x := rfl
@[simp] theorem State.setMeters_silentList (x : Vector Meter 192) : (s.setMeters x).silentList = s.silentList := rfl
@[simp] theorem State.setMeters_retireList (x : Vector Meter 192) : (s.setMeters x).retireList = s.retireList := rfl
@[simp] theorem State.setMeters_branches (x : Vector Meter 192) : (s.setMeters x).branches = s.branches := rfl
@[simp] theorem State.setMeters_urgencyMap (x : Vector Meter 192) : (s.setMeters x).urgencyMap = s.urgencyMap := rfl
@[simp] theorem State.setMeters_arbiter (x : Vector Meter 192) : (s.setMeters x).arbiter = s.arbiter := rfl
@[simp] theorem State.setMeters_engine (x : Vector Meter 192) : (s.setMeters x).engine = s.engine := rfl
@[simp] theorem State.setMeters_list (x : Vector Meter 192) : (s.setMeters x).list = s.list := rfl
@[simp] theorem State.setMeters_stock (x : Vector Meter 192) : (s.setMeters x).stock = s.stock := rfl
@[simp] theorem State.setMeters_periods (x : Vector Meter 192) : (s.setMeters x).periods = s.periods := rfl
@[simp] theorem State.setMeters_monitor (x : Vector Meter 192) : (s.setMeters x).monitor = s.monitor := rfl
@[simp] theorem State.setMeters_notices (x : Vector Meter 192) : (s.setMeters x).notices = s.notices := rfl
@[simp] theorem State.setMeters_operations (x : Vector Meter 192) : (s.setMeters x).operations = s.operations := rfl
@[simp] theorem State.setMeters_audit (x : Vector Meter 192) : (s.setMeters x).audit = s.audit := rfl
@[simp] theorem State.setMeters_pending (x : Vector Meter 192) : (s.setMeters x).pending = s.pending := rfl

/-! ## setSilentList -/

@[simp] theorem State.setSilentList_powered (x : List SilentEntry) : (s.setSilentList x).powered = s.powered := rfl
@[simp] theorem State.setSilentList_timeBase (x : List SilentEntry) : (s.setSilentList x).timeBase = s.timeBase := rfl
@[simp] theorem State.setSilentList_pool (x : List SilentEntry) : (s.setSilentList x).pool = s.pool := rfl
@[simp] theorem State.setSilentList_meters (x : List SilentEntry) : (s.setSilentList x).meters = s.meters := rfl
@[simp] theorem State.setSilentList_silentList (x : List SilentEntry) : (s.setSilentList x).silentList = x := rfl
@[simp] theorem State.setSilentList_retireList (x : List SilentEntry) : (s.setSilentList x).retireList = s.retireList := rfl
@[simp] theorem State.setSilentList_branches (x : List SilentEntry) : (s.setSilentList x).branches = s.branches := rfl
@[simp] theorem State.setSilentList_urgencyMap (x : List SilentEntry) : (s.setSilentList x).urgencyMap = s.urgencyMap := rfl
@[simp] theorem State.setSilentList_arbiter (x : List SilentEntry) : (s.setSilentList x).arbiter = s.arbiter := rfl
@[simp] theorem State.setSilentList_engine (x : List SilentEntry) : (s.setSilentList x).engine = s.engine := rfl
@[simp] theorem State.setSilentList_list (x : List SilentEntry) : (s.setSilentList x).list = s.list := rfl
@[simp] theorem State.setSilentList_stock (x : List SilentEntry) : (s.setSilentList x).stock = s.stock := rfl
@[simp] theorem State.setSilentList_periods (x : List SilentEntry) : (s.setSilentList x).periods = s.periods := rfl
@[simp] theorem State.setSilentList_monitor (x : List SilentEntry) : (s.setSilentList x).monitor = s.monitor := rfl
@[simp] theorem State.setSilentList_notices (x : List SilentEntry) : (s.setSilentList x).notices = s.notices := rfl
@[simp] theorem State.setSilentList_operations (x : List SilentEntry) : (s.setSilentList x).operations = s.operations := rfl
@[simp] theorem State.setSilentList_audit (x : List SilentEntry) : (s.setSilentList x).audit = s.audit := rfl
@[simp] theorem State.setSilentList_pending (x : List SilentEntry) : (s.setSilentList x).pending = s.pending := rfl

/-! ## setRetireList -/

@[simp] theorem State.setRetireList_powered (x : List RetireEntry) : (s.setRetireList x).powered = s.powered := rfl
@[simp] theorem State.setRetireList_timeBase (x : List RetireEntry) : (s.setRetireList x).timeBase = s.timeBase := rfl
@[simp] theorem State.setRetireList_pool (x : List RetireEntry) : (s.setRetireList x).pool = s.pool := rfl
@[simp] theorem State.setRetireList_meters (x : List RetireEntry) : (s.setRetireList x).meters = s.meters := rfl
@[simp] theorem State.setRetireList_silentList (x : List RetireEntry) : (s.setRetireList x).silentList = s.silentList := rfl
@[simp] theorem State.setRetireList_retireList (x : List RetireEntry) : (s.setRetireList x).retireList = x := rfl
@[simp] theorem State.setRetireList_branches (x : List RetireEntry) : (s.setRetireList x).branches = s.branches := rfl
@[simp] theorem State.setRetireList_urgencyMap (x : List RetireEntry) : (s.setRetireList x).urgencyMap = s.urgencyMap := rfl
@[simp] theorem State.setRetireList_arbiter (x : List RetireEntry) : (s.setRetireList x).arbiter = s.arbiter := rfl
@[simp] theorem State.setRetireList_engine (x : List RetireEntry) : (s.setRetireList x).engine = s.engine := rfl
@[simp] theorem State.setRetireList_list (x : List RetireEntry) : (s.setRetireList x).list = s.list := rfl
@[simp] theorem State.setRetireList_stock (x : List RetireEntry) : (s.setRetireList x).stock = s.stock := rfl
@[simp] theorem State.setRetireList_periods (x : List RetireEntry) : (s.setRetireList x).periods = s.periods := rfl
@[simp] theorem State.setRetireList_monitor (x : List RetireEntry) : (s.setRetireList x).monitor = s.monitor := rfl
@[simp] theorem State.setRetireList_notices (x : List RetireEntry) : (s.setRetireList x).notices = s.notices := rfl
@[simp] theorem State.setRetireList_operations (x : List RetireEntry) : (s.setRetireList x).operations = s.operations := rfl
@[simp] theorem State.setRetireList_audit (x : List RetireEntry) : (s.setRetireList x).audit = s.audit := rfl
@[simp] theorem State.setRetireList_pending (x : List RetireEntry) : (s.setRetireList x).pending = s.pending := rfl

/-! ## setBranches -/

@[simp] theorem State.setBranches_powered (x : Vector Branch 48) : (s.setBranches x).powered = s.powered := rfl
@[simp] theorem State.setBranches_timeBase (x : Vector Branch 48) : (s.setBranches x).timeBase = s.timeBase := rfl
@[simp] theorem State.setBranches_pool (x : Vector Branch 48) : (s.setBranches x).pool = s.pool := rfl
@[simp] theorem State.setBranches_meters (x : Vector Branch 48) : (s.setBranches x).meters = s.meters := rfl
@[simp] theorem State.setBranches_silentList (x : Vector Branch 48) : (s.setBranches x).silentList = s.silentList := rfl
@[simp] theorem State.setBranches_retireList (x : Vector Branch 48) : (s.setBranches x).retireList = s.retireList := rfl
@[simp] theorem State.setBranches_branches (x : Vector Branch 48) : (s.setBranches x).branches = x := rfl
@[simp] theorem State.setBranches_urgencyMap (x : Vector Branch 48) : (s.setBranches x).urgencyMap = s.urgencyMap := rfl
@[simp] theorem State.setBranches_arbiter (x : Vector Branch 48) : (s.setBranches x).arbiter = s.arbiter := rfl
@[simp] theorem State.setBranches_engine (x : Vector Branch 48) : (s.setBranches x).engine = s.engine := rfl
@[simp] theorem State.setBranches_list (x : Vector Branch 48) : (s.setBranches x).list = s.list := rfl
@[simp] theorem State.setBranches_stock (x : Vector Branch 48) : (s.setBranches x).stock = s.stock := rfl
@[simp] theorem State.setBranches_periods (x : Vector Branch 48) : (s.setBranches x).periods = s.periods := rfl
@[simp] theorem State.setBranches_monitor (x : Vector Branch 48) : (s.setBranches x).monitor = s.monitor := rfl
@[simp] theorem State.setBranches_notices (x : Vector Branch 48) : (s.setBranches x).notices = s.notices := rfl
@[simp] theorem State.setBranches_operations (x : Vector Branch 48) : (s.setBranches x).operations = s.operations := rfl
@[simp] theorem State.setBranches_audit (x : Vector Branch 48) : (s.setBranches x).audit = s.audit := rfl
@[simp] theorem State.setBranches_pending (x : Vector Branch 48) : (s.setBranches x).pending = s.pending := rfl

/-! ## setUrgencyMap -/

@[simp] theorem State.setUrgencyMap_powered (x : Vector Priority 8) : (s.setUrgencyMap x).powered = s.powered := rfl
@[simp] theorem State.setUrgencyMap_timeBase (x : Vector Priority 8) : (s.setUrgencyMap x).timeBase = s.timeBase := rfl
@[simp] theorem State.setUrgencyMap_pool (x : Vector Priority 8) : (s.setUrgencyMap x).pool = s.pool := rfl
@[simp] theorem State.setUrgencyMap_meters (x : Vector Priority 8) : (s.setUrgencyMap x).meters = s.meters := rfl
@[simp] theorem State.setUrgencyMap_silentList (x : Vector Priority 8) : (s.setUrgencyMap x).silentList = s.silentList := rfl
@[simp] theorem State.setUrgencyMap_retireList (x : Vector Priority 8) : (s.setUrgencyMap x).retireList = s.retireList := rfl
@[simp] theorem State.setUrgencyMap_branches (x : Vector Priority 8) : (s.setUrgencyMap x).branches = s.branches := rfl
@[simp] theorem State.setUrgencyMap_urgencyMap (x : Vector Priority 8) : (s.setUrgencyMap x).urgencyMap = x := rfl
@[simp] theorem State.setUrgencyMap_arbiter (x : Vector Priority 8) : (s.setUrgencyMap x).arbiter = s.arbiter := rfl
@[simp] theorem State.setUrgencyMap_engine (x : Vector Priority 8) : (s.setUrgencyMap x).engine = s.engine := rfl
@[simp] theorem State.setUrgencyMap_list (x : Vector Priority 8) : (s.setUrgencyMap x).list = s.list := rfl
@[simp] theorem State.setUrgencyMap_stock (x : Vector Priority 8) : (s.setUrgencyMap x).stock = s.stock := rfl
@[simp] theorem State.setUrgencyMap_periods (x : Vector Priority 8) : (s.setUrgencyMap x).periods = s.periods := rfl
@[simp] theorem State.setUrgencyMap_monitor (x : Vector Priority 8) : (s.setUrgencyMap x).monitor = s.monitor := rfl
@[simp] theorem State.setUrgencyMap_notices (x : Vector Priority 8) : (s.setUrgencyMap x).notices = s.notices := rfl
@[simp] theorem State.setUrgencyMap_operations (x : Vector Priority 8) : (s.setUrgencyMap x).operations = s.operations := rfl
@[simp] theorem State.setUrgencyMap_audit (x : Vector Priority 8) : (s.setUrgencyMap x).audit = s.audit := rfl
@[simp] theorem State.setUrgencyMap_pending (x : Vector Priority 8) : (s.setUrgencyMap x).pending = s.pending := rfl

/-! ## setArbiter -/

@[simp] theorem State.setArbiter_powered (x : Arbiter) : (s.setArbiter x).powered = s.powered := rfl
@[simp] theorem State.setArbiter_timeBase (x : Arbiter) : (s.setArbiter x).timeBase = s.timeBase := rfl
@[simp] theorem State.setArbiter_pool (x : Arbiter) : (s.setArbiter x).pool = s.pool := rfl
@[simp] theorem State.setArbiter_meters (x : Arbiter) : (s.setArbiter x).meters = s.meters := rfl
@[simp] theorem State.setArbiter_silentList (x : Arbiter) : (s.setArbiter x).silentList = s.silentList := rfl
@[simp] theorem State.setArbiter_retireList (x : Arbiter) : (s.setArbiter x).retireList = s.retireList := rfl
@[simp] theorem State.setArbiter_branches (x : Arbiter) : (s.setArbiter x).branches = s.branches := rfl
@[simp] theorem State.setArbiter_urgencyMap (x : Arbiter) : (s.setArbiter x).urgencyMap = s.urgencyMap := rfl
@[simp] theorem State.setArbiter_arbiter (x : Arbiter) : (s.setArbiter x).arbiter = x := rfl
@[simp] theorem State.setArbiter_engine (x : Arbiter) : (s.setArbiter x).engine = s.engine := rfl
@[simp] theorem State.setArbiter_list (x : Arbiter) : (s.setArbiter x).list = s.list := rfl
@[simp] theorem State.setArbiter_stock (x : Arbiter) : (s.setArbiter x).stock = s.stock := rfl
@[simp] theorem State.setArbiter_periods (x : Arbiter) : (s.setArbiter x).periods = s.periods := rfl
@[simp] theorem State.setArbiter_monitor (x : Arbiter) : (s.setArbiter x).monitor = s.monitor := rfl
@[simp] theorem State.setArbiter_notices (x : Arbiter) : (s.setArbiter x).notices = s.notices := rfl
@[simp] theorem State.setArbiter_operations (x : Arbiter) : (s.setArbiter x).operations = s.operations := rfl
@[simp] theorem State.setArbiter_audit (x : Arbiter) : (s.setArbiter x).audit = s.audit := rfl
@[simp] theorem State.setArbiter_pending (x : Arbiter) : (s.setArbiter x).pending = s.pending := rfl

/-! ## setEngine -/

@[simp] theorem State.setEngine_powered (x : Engine) : (s.setEngine x).powered = s.powered := rfl
@[simp] theorem State.setEngine_timeBase (x : Engine) : (s.setEngine x).timeBase = s.timeBase := rfl
@[simp] theorem State.setEngine_pool (x : Engine) : (s.setEngine x).pool = s.pool := rfl
@[simp] theorem State.setEngine_meters (x : Engine) : (s.setEngine x).meters = s.meters := rfl
@[simp] theorem State.setEngine_silentList (x : Engine) : (s.setEngine x).silentList = s.silentList := rfl
@[simp] theorem State.setEngine_retireList (x : Engine) : (s.setEngine x).retireList = s.retireList := rfl
@[simp] theorem State.setEngine_branches (x : Engine) : (s.setEngine x).branches = s.branches := rfl
@[simp] theorem State.setEngine_urgencyMap (x : Engine) : (s.setEngine x).urgencyMap = s.urgencyMap := rfl
@[simp] theorem State.setEngine_arbiter (x : Engine) : (s.setEngine x).arbiter = s.arbiter := rfl
@[simp] theorem State.setEngine_engine (x : Engine) : (s.setEngine x).engine = x := rfl
@[simp] theorem State.setEngine_list (x : Engine) : (s.setEngine x).list = s.list := rfl
@[simp] theorem State.setEngine_stock (x : Engine) : (s.setEngine x).stock = s.stock := rfl
@[simp] theorem State.setEngine_periods (x : Engine) : (s.setEngine x).periods = s.periods := rfl
@[simp] theorem State.setEngine_monitor (x : Engine) : (s.setEngine x).monitor = s.monitor := rfl
@[simp] theorem State.setEngine_notices (x : Engine) : (s.setEngine x).notices = s.notices := rfl
@[simp] theorem State.setEngine_operations (x : Engine) : (s.setEngine x).operations = s.operations := rfl
@[simp] theorem State.setEngine_audit (x : Engine) : (s.setEngine x).audit = s.audit := rfl
@[simp] theorem State.setEngine_pending (x : Engine) : (s.setEngine x).pending = s.pending := rfl

/-! ## setList -/

@[simp] theorem State.setList_powered (x : ListUnit) : (s.setList x).powered = s.powered := rfl
@[simp] theorem State.setList_timeBase (x : ListUnit) : (s.setList x).timeBase = s.timeBase := rfl
@[simp] theorem State.setList_pool (x : ListUnit) : (s.setList x).pool = s.pool := rfl
@[simp] theorem State.setList_meters (x : ListUnit) : (s.setList x).meters = s.meters := rfl
@[simp] theorem State.setList_silentList (x : ListUnit) : (s.setList x).silentList = s.silentList := rfl
@[simp] theorem State.setList_retireList (x : ListUnit) : (s.setList x).retireList = s.retireList := rfl
@[simp] theorem State.setList_branches (x : ListUnit) : (s.setList x).branches = s.branches := rfl
@[simp] theorem State.setList_urgencyMap (x : ListUnit) : (s.setList x).urgencyMap = s.urgencyMap := rfl
@[simp] theorem State.setList_arbiter (x : ListUnit) : (s.setList x).arbiter = s.arbiter := rfl
@[simp] theorem State.setList_engine (x : ListUnit) : (s.setList x).engine = s.engine := rfl
@[simp] theorem State.setList_list (x : ListUnit) : (s.setList x).list = x := rfl
@[simp] theorem State.setList_stock (x : ListUnit) : (s.setList x).stock = s.stock := rfl
@[simp] theorem State.setList_periods (x : ListUnit) : (s.setList x).periods = s.periods := rfl
@[simp] theorem State.setList_monitor (x : ListUnit) : (s.setList x).monitor = s.monitor := rfl
@[simp] theorem State.setList_notices (x : ListUnit) : (s.setList x).notices = s.notices := rfl
@[simp] theorem State.setList_operations (x : ListUnit) : (s.setList x).operations = s.operations := rfl
@[simp] theorem State.setList_audit (x : ListUnit) : (s.setList x).audit = s.audit := rfl
@[simp] theorem State.setList_pending (x : ListUnit) : (s.setList x).pending = s.pending := rfl

/-! ## setStock -/

@[simp] theorem State.setStock_powered (x : Stock) : (s.setStock x).powered = s.powered := rfl
@[simp] theorem State.setStock_timeBase (x : Stock) : (s.setStock x).timeBase = s.timeBase := rfl
@[simp] theorem State.setStock_pool (x : Stock) : (s.setStock x).pool = s.pool := rfl
@[simp] theorem State.setStock_meters (x : Stock) : (s.setStock x).meters = s.meters := rfl
@[simp] theorem State.setStock_silentList (x : Stock) : (s.setStock x).silentList = s.silentList := rfl
@[simp] theorem State.setStock_retireList (x : Stock) : (s.setStock x).retireList = s.retireList := rfl
@[simp] theorem State.setStock_branches (x : Stock) : (s.setStock x).branches = s.branches := rfl
@[simp] theorem State.setStock_urgencyMap (x : Stock) : (s.setStock x).urgencyMap = s.urgencyMap := rfl
@[simp] theorem State.setStock_arbiter (x : Stock) : (s.setStock x).arbiter = s.arbiter := rfl
@[simp] theorem State.setStock_engine (x : Stock) : (s.setStock x).engine = s.engine := rfl
@[simp] theorem State.setStock_list (x : Stock) : (s.setStock x).list = s.list := rfl
@[simp] theorem State.setStock_stock (x : Stock) : (s.setStock x).stock = x := rfl
@[simp] theorem State.setStock_periods (x : Stock) : (s.setStock x).periods = s.periods := rfl
@[simp] theorem State.setStock_monitor (x : Stock) : (s.setStock x).monitor = s.monitor := rfl
@[simp] theorem State.setStock_notices (x : Stock) : (s.setStock x).notices = s.notices := rfl
@[simp] theorem State.setStock_operations (x : Stock) : (s.setStock x).operations = s.operations := rfl
@[simp] theorem State.setStock_audit (x : Stock) : (s.setStock x).audit = s.audit := rfl
@[simp] theorem State.setStock_pending (x : Stock) : (s.setStock x).pending = s.pending := rfl

/-! ## setPeriods -/

@[simp] theorem State.setPeriods_powered (x : Periods) : (s.setPeriods x).powered = s.powered := rfl
@[simp] theorem State.setPeriods_timeBase (x : Periods) : (s.setPeriods x).timeBase = s.timeBase := rfl
@[simp] theorem State.setPeriods_pool (x : Periods) : (s.setPeriods x).pool = s.pool := rfl
@[simp] theorem State.setPeriods_meters (x : Periods) : (s.setPeriods x).meters = s.meters := rfl
@[simp] theorem State.setPeriods_silentList (x : Periods) : (s.setPeriods x).silentList = s.silentList := rfl
@[simp] theorem State.setPeriods_retireList (x : Periods) : (s.setPeriods x).retireList = s.retireList := rfl
@[simp] theorem State.setPeriods_branches (x : Periods) : (s.setPeriods x).branches = s.branches := rfl
@[simp] theorem State.setPeriods_urgencyMap (x : Periods) : (s.setPeriods x).urgencyMap = s.urgencyMap := rfl
@[simp] theorem State.setPeriods_arbiter (x : Periods) : (s.setPeriods x).arbiter = s.arbiter := rfl
@[simp] theorem State.setPeriods_engine (x : Periods) : (s.setPeriods x).engine = s.engine := rfl
@[simp] theorem State.setPeriods_list (x : Periods) : (s.setPeriods x).list = s.list := rfl
@[simp] theorem State.setPeriods_stock (x : Periods) : (s.setPeriods x).stock = s.stock := rfl
@[simp] theorem State.setPeriods_periods (x : Periods) : (s.setPeriods x).periods = x := rfl
@[simp] theorem State.setPeriods_monitor (x : Periods) : (s.setPeriods x).monitor = s.monitor := rfl
@[simp] theorem State.setPeriods_notices (x : Periods) : (s.setPeriods x).notices = s.notices := rfl
@[simp] theorem State.setPeriods_operations (x : Periods) : (s.setPeriods x).operations = s.operations := rfl
@[simp] theorem State.setPeriods_audit (x : Periods) : (s.setPeriods x).audit = s.audit := rfl
@[simp] theorem State.setPeriods_pending (x : Periods) : (s.setPeriods x).pending = s.pending := rfl

/-! ## setMonitor -/

@[simp] theorem State.setMonitor_powered (x : Monitor) : (s.setMonitor x).powered = s.powered := rfl
@[simp] theorem State.setMonitor_timeBase (x : Monitor) : (s.setMonitor x).timeBase = s.timeBase := rfl
@[simp] theorem State.setMonitor_pool (x : Monitor) : (s.setMonitor x).pool = s.pool := rfl
@[simp] theorem State.setMonitor_meters (x : Monitor) : (s.setMonitor x).meters = s.meters := rfl
@[simp] theorem State.setMonitor_silentList (x : Monitor) : (s.setMonitor x).silentList = s.silentList := rfl
@[simp] theorem State.setMonitor_retireList (x : Monitor) : (s.setMonitor x).retireList = s.retireList := rfl
@[simp] theorem State.setMonitor_branches (x : Monitor) : (s.setMonitor x).branches = s.branches := rfl
@[simp] theorem State.setMonitor_urgencyMap (x : Monitor) : (s.setMonitor x).urgencyMap = s.urgencyMap := rfl
@[simp] theorem State.setMonitor_arbiter (x : Monitor) : (s.setMonitor x).arbiter = s.arbiter := rfl
@[simp] theorem State.setMonitor_engine (x : Monitor) : (s.setMonitor x).engine = s.engine := rfl
@[simp] theorem State.setMonitor_list (x : Monitor) : (s.setMonitor x).list = s.list := rfl
@[simp] theorem State.setMonitor_stock (x : Monitor) : (s.setMonitor x).stock = s.stock := rfl
@[simp] theorem State.setMonitor_periods (x : Monitor) : (s.setMonitor x).periods = s.periods := rfl
@[simp] theorem State.setMonitor_monitor (x : Monitor) : (s.setMonitor x).monitor = x := rfl
@[simp] theorem State.setMonitor_notices (x : Monitor) : (s.setMonitor x).notices = s.notices := rfl
@[simp] theorem State.setMonitor_operations (x : Monitor) : (s.setMonitor x).operations = s.operations := rfl
@[simp] theorem State.setMonitor_audit (x : Monitor) : (s.setMonitor x).audit = s.audit := rfl
@[simp] theorem State.setMonitor_pending (x : Monitor) : (s.setMonitor x).pending = s.pending := rfl

/-! ## setNotices -/

@[simp] theorem State.setNotices_powered (x : Notices) : (s.setNotices x).powered = s.powered := rfl
@[simp] theorem State.setNotices_timeBase (x : Notices) : (s.setNotices x).timeBase = s.timeBase := rfl
@[simp] theorem State.setNotices_pool (x : Notices) : (s.setNotices x).pool = s.pool := rfl
@[simp] theorem State.setNotices_meters (x : Notices) : (s.setNotices x).meters = s.meters := rfl
@[simp] theorem State.setNotices_silentList (x : Notices) : (s.setNotices x).silentList = s.silentList := rfl
@[simp] theorem State.setNotices_retireList (x : Notices) : (s.setNotices x).retireList = s.retireList := rfl
@[simp] theorem State.setNotices_branches (x : Notices) : (s.setNotices x).branches = s.branches := rfl
@[simp] theorem State.setNotices_urgencyMap (x : Notices) : (s.setNotices x).urgencyMap = s.urgencyMap := rfl
@[simp] theorem State.setNotices_arbiter (x : Notices) : (s.setNotices x).arbiter = s.arbiter := rfl
@[simp] theorem State.setNotices_engine (x : Notices) : (s.setNotices x).engine = s.engine := rfl
@[simp] theorem State.setNotices_list (x : Notices) : (s.setNotices x).list = s.list := rfl
@[simp] theorem State.setNotices_stock (x : Notices) : (s.setNotices x).stock = s.stock := rfl
@[simp] theorem State.setNotices_periods (x : Notices) : (s.setNotices x).periods = s.periods := rfl
@[simp] theorem State.setNotices_monitor (x : Notices) : (s.setNotices x).monitor = s.monitor := rfl
@[simp] theorem State.setNotices_notices (x : Notices) : (s.setNotices x).notices = x := rfl
@[simp] theorem State.setNotices_operations (x : Notices) : (s.setNotices x).operations = s.operations := rfl
@[simp] theorem State.setNotices_audit (x : Notices) : (s.setNotices x).audit = s.audit := rfl
@[simp] theorem State.setNotices_pending (x : Notices) : (s.setNotices x).pending = s.pending := rfl

/-! ## setTime -/

@[simp] theorem State.setTime_powered (x : Word32) : (s.setTime x).powered = s.powered := rfl
@[simp] theorem State.setTime_timeBase (x : Word32) : (s.setTime x).timeBase = x := rfl
@[simp] theorem State.setTime_pool (x : Word32) : (s.setTime x).pool = s.pool := rfl
@[simp] theorem State.setTime_meters (x : Word32) : (s.setTime x).meters = s.meters := rfl
@[simp] theorem State.setTime_silentList (x : Word32) : (s.setTime x).silentList = s.silentList := rfl
@[simp] theorem State.setTime_retireList (x : Word32) : (s.setTime x).retireList = s.retireList := rfl
@[simp] theorem State.setTime_branches (x : Word32) : (s.setTime x).branches = s.branches := rfl
@[simp] theorem State.setTime_urgencyMap (x : Word32) : (s.setTime x).urgencyMap = s.urgencyMap := rfl
@[simp] theorem State.setTime_arbiter (x : Word32) : (s.setTime x).arbiter = s.arbiter := rfl
@[simp] theorem State.setTime_engine (x : Word32) : (s.setTime x).engine = s.engine := rfl
@[simp] theorem State.setTime_list (x : Word32) : (s.setTime x).list = s.list := rfl
@[simp] theorem State.setTime_stock (x : Word32) : (s.setTime x).stock = s.stock := rfl
@[simp] theorem State.setTime_periods (x : Word32) : (s.setTime x).periods = s.periods := rfl
@[simp] theorem State.setTime_monitor (x : Word32) : (s.setTime x).monitor = s.monitor := rfl
@[simp] theorem State.setTime_notices (x : Word32) : (s.setTime x).notices = s.notices := rfl
@[simp] theorem State.setTime_operations (x : Word32) : (s.setTime x).operations = s.operations := rfl
@[simp] theorem State.setTime_audit (x : Word32) : (s.setTime x).audit = s.audit := rfl
@[simp] theorem State.setTime_pending (x : Word32) : (s.setTime x).pending = s.pending := rfl

/-! ## modMeter -/

@[simp] theorem modMeter_powered (m : MeterId) (g : Meter → Meter) : (modMeter m g s).powered = s.powered := rfl
@[simp] theorem modMeter_timeBase (m : MeterId) (g : Meter → Meter) : (modMeter m g s).timeBase = s.timeBase := rfl
@[simp] theorem modMeter_pool (m : MeterId) (g : Meter → Meter) : (modMeter m g s).pool = s.pool := rfl
@[simp] theorem modMeter_meters (m : MeterId) (g : Meter → Meter) : (modMeter m g s).meters =
    modifyAt s.meters m g := rfl
@[simp] theorem modMeter_silentList (m : MeterId) (g : Meter → Meter) : (modMeter m g s).silentList = s.silentList := rfl
@[simp] theorem modMeter_retireList (m : MeterId) (g : Meter → Meter) : (modMeter m g s).retireList = s.retireList := rfl
@[simp] theorem modMeter_branches (m : MeterId) (g : Meter → Meter) : (modMeter m g s).branches = s.branches := rfl
@[simp] theorem modMeter_urgencyMap (m : MeterId) (g : Meter → Meter) : (modMeter m g s).urgencyMap = s.urgencyMap := rfl
@[simp] theorem modMeter_arbiter (m : MeterId) (g : Meter → Meter) : (modMeter m g s).arbiter = s.arbiter := rfl
@[simp] theorem modMeter_engine (m : MeterId) (g : Meter → Meter) : (modMeter m g s).engine = s.engine := rfl
@[simp] theorem modMeter_list (m : MeterId) (g : Meter → Meter) : (modMeter m g s).list = s.list := rfl
@[simp] theorem modMeter_stock (m : MeterId) (g : Meter → Meter) : (modMeter m g s).stock = s.stock := rfl
@[simp] theorem modMeter_periods (m : MeterId) (g : Meter → Meter) : (modMeter m g s).periods = s.periods := rfl
@[simp] theorem modMeter_monitor (m : MeterId) (g : Meter → Meter) : (modMeter m g s).monitor = s.monitor := rfl
@[simp] theorem modMeter_notices (m : MeterId) (g : Meter → Meter) : (modMeter m g s).notices = s.notices := rfl
@[simp] theorem modMeter_operations (m : MeterId) (g : Meter → Meter) : (modMeter m g s).operations = s.operations := rfl
@[simp] theorem modMeter_audit (m : MeterId) (g : Meter → Meter) : (modMeter m g s).audit = s.audit := rfl
@[simp] theorem modMeter_pending (m : MeterId) (g : Meter → Meter) : (modMeter m g s).pending = s.pending := rfl

/-! ## modBranch -/

@[simp] theorem modBranch_powered (b : BranchId) (g : Branch → Branch) : (modBranch b g s).powered = s.powered := rfl
@[simp] theorem modBranch_timeBase (b : BranchId) (g : Branch → Branch) : (modBranch b g s).timeBase = s.timeBase := rfl
@[simp] theorem modBranch_pool (b : BranchId) (g : Branch → Branch) : (modBranch b g s).pool = s.pool := rfl
@[simp] theorem modBranch_meters (b : BranchId) (g : Branch → Branch) : (modBranch b g s).meters = s.meters := rfl
@[simp] theorem modBranch_silentList (b : BranchId) (g : Branch → Branch) : (modBranch b g s).silentList = s.silentList := rfl
@[simp] theorem modBranch_retireList (b : BranchId) (g : Branch → Branch) : (modBranch b g s).retireList = s.retireList := rfl
@[simp] theorem modBranch_branches (b : BranchId) (g : Branch → Branch) : (modBranch b g s).branches =
    modifyAt s.branches b g := rfl
@[simp] theorem modBranch_urgencyMap (b : BranchId) (g : Branch → Branch) : (modBranch b g s).urgencyMap = s.urgencyMap := rfl
@[simp] theorem modBranch_arbiter (b : BranchId) (g : Branch → Branch) : (modBranch b g s).arbiter = s.arbiter := rfl
@[simp] theorem modBranch_engine (b : BranchId) (g : Branch → Branch) : (modBranch b g s).engine = s.engine := rfl
@[simp] theorem modBranch_list (b : BranchId) (g : Branch → Branch) : (modBranch b g s).list = s.list := rfl
@[simp] theorem modBranch_stock (b : BranchId) (g : Branch → Branch) : (modBranch b g s).stock = s.stock := rfl
@[simp] theorem modBranch_periods (b : BranchId) (g : Branch → Branch) : (modBranch b g s).periods = s.periods := rfl
@[simp] theorem modBranch_monitor (b : BranchId) (g : Branch → Branch) : (modBranch b g s).monitor = s.monitor := rfl
@[simp] theorem modBranch_notices (b : BranchId) (g : Branch → Branch) : (modBranch b g s).notices = s.notices := rfl
@[simp] theorem modBranch_operations (b : BranchId) (g : Branch → Branch) : (modBranch b g s).operations = s.operations := rfl
@[simp] theorem modBranch_audit (b : BranchId) (g : Branch → Branch) : (modBranch b g s).audit = s.audit := rfl
@[simp] theorem modBranch_pending (b : BranchId) (g : Branch → Branch) : (modBranch b g s).pending = s.pending := rfl

/-! ## modStockLine -/

@[simp] theorem modStockLine_powered (b : BranchId) (l : LineNo) (g : StockLine → StockLine) : (modStockLine b l g s).powered = s.powered := rfl
@[simp] theorem modStockLine_timeBase (b : BranchId) (l : LineNo) (g : StockLine → StockLine) : (modStockLine b l g s).timeBase = s.timeBase := rfl
@[simp] theorem modStockLine_pool (b : BranchId) (l : LineNo) (g : StockLine → StockLine) : (modStockLine b l g s).pool = s.pool := rfl
@[simp] theorem modStockLine_meters (b : BranchId) (l : LineNo) (g : StockLine → StockLine) : (modStockLine b l g s).meters = s.meters := rfl
@[simp] theorem modStockLine_silentList (b : BranchId) (l : LineNo) (g : StockLine → StockLine) : (modStockLine b l g s).silentList = s.silentList := rfl
@[simp] theorem modStockLine_retireList (b : BranchId) (l : LineNo) (g : StockLine → StockLine) : (modStockLine b l g s).retireList = s.retireList := rfl
@[simp] theorem modStockLine_branches (b : BranchId) (l : LineNo) (g : StockLine → StockLine) : (modStockLine b l g s).branches = s.branches := rfl
@[simp] theorem modStockLine_urgencyMap (b : BranchId) (l : LineNo) (g : StockLine → StockLine) : (modStockLine b l g s).urgencyMap = s.urgencyMap := rfl
@[simp] theorem modStockLine_arbiter (b : BranchId) (l : LineNo) (g : StockLine → StockLine) : (modStockLine b l g s).arbiter = s.arbiter := rfl
@[simp] theorem modStockLine_engine (b : BranchId) (l : LineNo) (g : StockLine → StockLine) : (modStockLine b l g s).engine = s.engine := rfl
@[simp] theorem modStockLine_list (b : BranchId) (l : LineNo) (g : StockLine → StockLine) : (modStockLine b l g s).list = s.list := rfl
@[simp] theorem modStockLine_stock (b : BranchId) (l : LineNo) (g : StockLine → StockLine) : (modStockLine b l g s).stock =
    { s.stock with lines := modifyAt s.stock.lines b (fun ls => modifyAt ls l g) } := rfl
@[simp] theorem modStockLine_periods (b : BranchId) (l : LineNo) (g : StockLine → StockLine) : (modStockLine b l g s).periods = s.periods := rfl
@[simp] theorem modStockLine_monitor (b : BranchId) (l : LineNo) (g : StockLine → StockLine) : (modStockLine b l g s).monitor = s.monitor := rfl
@[simp] theorem modStockLine_notices (b : BranchId) (l : LineNo) (g : StockLine → StockLine) : (modStockLine b l g s).notices = s.notices := rfl
@[simp] theorem modStockLine_operations (b : BranchId) (l : LineNo) (g : StockLine → StockLine) : (modStockLine b l g s).operations = s.operations := rfl
@[simp] theorem modStockLine_audit (b : BranchId) (l : LineNo) (g : StockLine → StockLine) : (modStockLine b l g s).audit = s.audit := rfl
@[simp] theorem modStockLine_pending (b : BranchId) (l : LineNo) (g : StockLine → StockLine) : (modStockLine b l g s).pending = s.pending := rfl

/-! ## modCurrent -/

@[simp] theorem modCurrent_powered (g : Bank → Bank) : (modCurrent g s).powered = s.powered := rfl
@[simp] theorem modCurrent_timeBase (g : Bank → Bank) : (modCurrent g s).timeBase = s.timeBase := rfl
@[simp] theorem modCurrent_pool (g : Bank → Bank) : (modCurrent g s).pool = s.pool := rfl
@[simp] theorem modCurrent_meters (g : Bank → Bank) : (modCurrent g s).meters = s.meters := rfl
@[simp] theorem modCurrent_silentList (g : Bank → Bank) : (modCurrent g s).silentList = s.silentList := rfl
@[simp] theorem modCurrent_retireList (g : Bank → Bank) : (modCurrent g s).retireList = s.retireList := rfl
@[simp] theorem modCurrent_branches (g : Bank → Bank) : (modCurrent g s).branches = s.branches := rfl
@[simp] theorem modCurrent_urgencyMap (g : Bank → Bank) : (modCurrent g s).urgencyMap = s.urgencyMap := rfl
@[simp] theorem modCurrent_arbiter (g : Bank → Bank) : (modCurrent g s).arbiter = s.arbiter := rfl
@[simp] theorem modCurrent_engine (g : Bank → Bank) : (modCurrent g s).engine = s.engine := rfl
@[simp] theorem modCurrent_list (g : Bank → Bank) : (modCurrent g s).list = s.list := rfl
@[simp] theorem modCurrent_stock (g : Bank → Bank) : (modCurrent g s).stock = s.stock := rfl
@[simp] theorem modCurrent_periods (g : Bank → Bank) : (modCurrent g s).periods =
    { s.periods with current := g s.periods.current } := rfl
@[simp] theorem modCurrent_monitor (g : Bank → Bank) : (modCurrent g s).monitor = s.monitor := rfl
@[simp] theorem modCurrent_notices (g : Bank → Bank) : (modCurrent g s).notices = s.notices := rfl
@[simp] theorem modCurrent_operations (g : Bank → Bank) : (modCurrent g s).operations = s.operations := rfl
@[simp] theorem modCurrent_audit (g : Bank → Bank) : (modCurrent g s).audit = s.audit := rfl
@[simp] theorem modCurrent_pending (g : Bank → Bank) : (modCurrent g s).pending = s.pending := rfl

/-! ## modNotice -/

@[simp] theorem modNotice_powered (c : NoticeClass) (g : NoticeEntry → NoticeEntry) : (modNotice c g s).powered = s.powered := rfl
@[simp] theorem modNotice_timeBase (c : NoticeClass) (g : NoticeEntry → NoticeEntry) : (modNotice c g s).timeBase = s.timeBase := rfl
@[simp] theorem modNotice_pool (c : NoticeClass) (g : NoticeEntry → NoticeEntry) : (modNotice c g s).pool = s.pool := rfl
@[simp] theorem modNotice_meters (c : NoticeClass) (g : NoticeEntry → NoticeEntry) : (modNotice c g s).meters = s.meters := rfl
@[simp] theorem modNotice_silentList (c : NoticeClass) (g : NoticeEntry → NoticeEntry) : (modNotice c g s).silentList = s.silentList := rfl
@[simp] theorem modNotice_retireList (c : NoticeClass) (g : NoticeEntry → NoticeEntry) : (modNotice c g s).retireList = s.retireList := rfl
@[simp] theorem modNotice_branches (c : NoticeClass) (g : NoticeEntry → NoticeEntry) : (modNotice c g s).branches = s.branches := rfl
@[simp] theorem modNotice_urgencyMap (c : NoticeClass) (g : NoticeEntry → NoticeEntry) : (modNotice c g s).urgencyMap = s.urgencyMap := rfl
@[simp] theorem modNotice_arbiter (c : NoticeClass) (g : NoticeEntry → NoticeEntry) : (modNotice c g s).arbiter = s.arbiter := rfl
@[simp] theorem modNotice_engine (c : NoticeClass) (g : NoticeEntry → NoticeEntry) : (modNotice c g s).engine = s.engine := rfl
@[simp] theorem modNotice_list (c : NoticeClass) (g : NoticeEntry → NoticeEntry) : (modNotice c g s).list = s.list := rfl
@[simp] theorem modNotice_stock (c : NoticeClass) (g : NoticeEntry → NoticeEntry) : (modNotice c g s).stock = s.stock := rfl
@[simp] theorem modNotice_periods (c : NoticeClass) (g : NoticeEntry → NoticeEntry) : (modNotice c g s).periods = s.periods := rfl
@[simp] theorem modNotice_monitor (c : NoticeClass) (g : NoticeEntry → NoticeEntry) : (modNotice c g s).monitor = s.monitor := rfl
@[simp] theorem modNotice_notices (c : NoticeClass) (g : NoticeEntry → NoticeEntry) : (modNotice c g s).notices =
    { s.notices with classes := modifyAt s.notices.classes c.idx g } := rfl
@[simp] theorem modNotice_operations (c : NoticeClass) (g : NoticeEntry → NoticeEntry) : (modNotice c g s).operations = s.operations := rfl
@[simp] theorem modNotice_audit (c : NoticeClass) (g : NoticeEntry → NoticeEntry) : (modNotice c g s).audit = s.audit := rfl
@[simp] theorem modNotice_pending (c : NoticeClass) (g : NoticeEntry → NoticeEntry) : (modNotice c g s).pending = s.pending := rfl

/-! ## markSaturated -/

@[simp] theorem markSaturated_powered (hit : Bool) : (markSaturated hit s).powered = s.powered := rfl
@[simp] theorem markSaturated_timeBase (hit : Bool) : (markSaturated hit s).timeBase = s.timeBase := rfl
@[simp] theorem markSaturated_pool (hit : Bool) : (markSaturated hit s).pool = s.pool := rfl
@[simp] theorem markSaturated_meters (hit : Bool) : (markSaturated hit s).meters = s.meters := rfl
@[simp] theorem markSaturated_silentList (hit : Bool) : (markSaturated hit s).silentList = s.silentList := rfl
@[simp] theorem markSaturated_retireList (hit : Bool) : (markSaturated hit s).retireList = s.retireList := rfl
@[simp] theorem markSaturated_branches (hit : Bool) : (markSaturated hit s).branches = s.branches := rfl
@[simp] theorem markSaturated_urgencyMap (hit : Bool) : (markSaturated hit s).urgencyMap = s.urgencyMap := rfl
@[simp] theorem markSaturated_arbiter (hit : Bool) : (markSaturated hit s).arbiter = s.arbiter := rfl
@[simp] theorem markSaturated_engine (hit : Bool) : (markSaturated hit s).engine = s.engine := rfl
@[simp] theorem markSaturated_list (hit : Bool) : (markSaturated hit s).list = s.list := rfl
@[simp] theorem markSaturated_stock (hit : Bool) : (markSaturated hit s).stock = s.stock := rfl
@[simp] theorem markSaturated_periods (hit : Bool) : (markSaturated hit s).periods =
    { s.periods with current := { s.periods.current with saturated := s.periods.current.saturated || hit } } := rfl
@[simp] theorem markSaturated_monitor (hit : Bool) : (markSaturated hit s).monitor = s.monitor := rfl
@[simp] theorem markSaturated_notices (hit : Bool) : (markSaturated hit s).notices = s.notices := rfl
@[simp] theorem markSaturated_operations (hit : Bool) : (markSaturated hit s).operations = s.operations := rfl
@[simp] theorem markSaturated_audit (hit : Bool) : (markSaturated hit s).audit = s.audit := rfl
@[simp] theorem markSaturated_pending (hit : Bool) : (markSaturated hit s).pending = s.pending := rfl

/-! ## setCondition -/

@[simp] theorem setCondition_powered (c : NoticeClass) : (setCondition c s).powered = s.powered := rfl
@[simp] theorem setCondition_timeBase (c : NoticeClass) : (setCondition c s).timeBase = s.timeBase := rfl
@[simp] theorem setCondition_pool (c : NoticeClass) : (setCondition c s).pool = s.pool := rfl
@[simp] theorem setCondition_meters (c : NoticeClass) : (setCondition c s).meters = s.meters := rfl
@[simp] theorem setCondition_silentList (c : NoticeClass) : (setCondition c s).silentList = s.silentList := rfl
@[simp] theorem setCondition_retireList (c : NoticeClass) : (setCondition c s).retireList = s.retireList := rfl
@[simp] theorem setCondition_branches (c : NoticeClass) : (setCondition c s).branches = s.branches := rfl
@[simp] theorem setCondition_urgencyMap (c : NoticeClass) : (setCondition c s).urgencyMap = s.urgencyMap := rfl
@[simp] theorem setCondition_arbiter (c : NoticeClass) : (setCondition c s).arbiter = s.arbiter := rfl
@[simp] theorem setCondition_engine (c : NoticeClass) : (setCondition c s).engine = s.engine := rfl
@[simp] theorem setCondition_list (c : NoticeClass) : (setCondition c s).list = s.list := rfl
@[simp] theorem setCondition_stock (c : NoticeClass) : (setCondition c s).stock = s.stock := rfl
@[simp] theorem setCondition_periods (c : NoticeClass) : (setCondition c s).periods = s.periods := rfl
@[simp] theorem setCondition_monitor (c : NoticeClass) : (setCondition c s).monitor = s.monitor := rfl
@[simp] theorem setCondition_notices (c : NoticeClass) : (setCondition c s).notices =
    { s.notices with classes := modifyAt s.notices.classes c.idx (fun e => { e with phase := e.phase.afterCondition }) } := rfl
@[simp] theorem setCondition_operations (c : NoticeClass) : (setCondition c s).operations = s.operations := rfl
@[simp] theorem setCondition_audit (c : NoticeClass) : (setCondition c s).audit = s.audit := rfl
@[simp] theorem setCondition_pending (c : NoticeClass) : (setCondition c s).pending = s.pending := rfl

/-! ## modEntry -/

@[simp] theorem modEntry_powered (n : Nat) (g : Entry → Entry) : (modEntry n g s).powered = s.powered := rfl
@[simp] theorem modEntry_timeBase (n : Nat) (g : Entry → Entry) : (modEntry n g s).timeBase = s.timeBase := rfl
@[simp] theorem modEntry_pool (n : Nat) (g : Entry → Entry) : (modEntry n g s).pool = s.pool := rfl
@[simp] theorem modEntry_meters (n : Nat) (g : Entry → Entry) : (modEntry n g s).meters = s.meters := rfl
@[simp] theorem modEntry_silentList (n : Nat) (g : Entry → Entry) : (modEntry n g s).silentList = s.silentList := rfl
@[simp] theorem modEntry_retireList (n : Nat) (g : Entry → Entry) : (modEntry n g s).retireList = s.retireList := rfl
@[simp] theorem modEntry_branches (n : Nat) (g : Entry → Entry) : (modEntry n g s).branches = s.branches := rfl
@[simp] theorem modEntry_urgencyMap (n : Nat) (g : Entry → Entry) : (modEntry n g s).urgencyMap = s.urgencyMap := rfl
@[simp] theorem modEntry_arbiter (n : Nat) (g : Entry → Entry) : (modEntry n g s).arbiter = s.arbiter := rfl
@[simp] theorem modEntry_engine (n : Nat) (g : Entry → Entry) : (modEntry n g s).engine = s.engine := rfl
@[simp] theorem modEntry_list (n : Nat) (g : Entry → Entry) : (modEntry n g s).list =
    { s.list with entries := s.list.entries.modify n g } := rfl
@[simp] theorem modEntry_stock (n : Nat) (g : Entry → Entry) : (modEntry n g s).stock = s.stock := rfl
@[simp] theorem modEntry_periods (n : Nat) (g : Entry → Entry) : (modEntry n g s).periods = s.periods := rfl
@[simp] theorem modEntry_monitor (n : Nat) (g : Entry → Entry) : (modEntry n g s).monitor = s.monitor := rfl
@[simp] theorem modEntry_notices (n : Nat) (g : Entry → Entry) : (modEntry n g s).notices = s.notices := rfl
@[simp] theorem modEntry_operations (n : Nat) (g : Entry → Entry) : (modEntry n g s).operations = s.operations := rfl
@[simp] theorem modEntry_audit (n : Nat) (g : Entry → Entry) : (modEntry n g s).audit = s.audit := rfl
@[simp] theorem modEntry_pending (n : Nat) (g : Entry → Entry) : (modEntry n g s).pending = s.pending := rfl

/-! ## setListState -/

@[simp] theorem setListState_powered (x : ListState) : (setListState x s).powered = s.powered := rfl
@[simp] theorem setListState_timeBase (x : ListState) : (setListState x s).timeBase = s.timeBase := rfl
@[simp] theorem setListState_pool (x : ListState) : (setListState x s).pool = s.pool := rfl
@[simp] theorem setListState_meters (x : ListState) : (setListState x s).meters = s.meters := rfl
@[simp] theorem setListState_silentList (x : ListState) : (setListState x s).silentList = s.silentList := rfl
@[simp] theorem setListState_retireList (x : ListState) : (setListState x s).retireList = s.retireList := rfl
@[simp] theorem setListState_branches (x : ListState) : (setListState x s).branches = s.branches := rfl
@[simp] theorem setListState_urgencyMap (x : ListState) : (setListState x s).urgencyMap = s.urgencyMap := rfl
@[simp] theorem setListState_arbiter (x : ListState) : (setListState x s).arbiter = s.arbiter := rfl
@[simp] theorem setListState_engine (x : ListState) : (setListState x s).engine = s.engine := rfl
@[simp] theorem setListState_list (x : ListState) : (setListState x s).list =
    { s.list with state := x } := rfl
@[simp] theorem setListState_stock (x : ListState) : (setListState x s).stock = s.stock := rfl
@[simp] theorem setListState_periods (x : ListState) : (setListState x s).periods = s.periods := rfl
@[simp] theorem setListState_monitor (x : ListState) : (setListState x s).monitor = s.monitor := rfl
@[simp] theorem setListState_notices (x : ListState) : (setListState x s).notices = s.notices := rfl
@[simp] theorem setListState_operations (x : ListState) : (setListState x s).operations = s.operations := rfl
@[simp] theorem setListState_audit (x : ListState) : (setListState x s).audit = s.audit := rfl
@[simp] theorem setListState_pending (x : ListState) : (setListState x s).pending = s.pending := rfl

/-! ## startSupervision -/

@[simp] theorem startSupervision_powered (m : MeterId) : (startSupervision m s).powered = s.powered := rfl
@[simp] theorem startSupervision_timeBase (m : MeterId) : (startSupervision m s).timeBase = s.timeBase := rfl
@[simp] theorem startSupervision_pool (m : MeterId) : (startSupervision m s).pool = s.pool := rfl
@[simp] theorem startSupervision_meters (m : MeterId) : (startSupervision m s).meters =
    modifyAt s.meters m (fun r => { r with supervision := some (supervisionExpiry s m) }) := rfl
@[simp] theorem startSupervision_silentList (m : MeterId) : (startSupervision m s).silentList = s.silentList := rfl
@[simp] theorem startSupervision_retireList (m : MeterId) : (startSupervision m s).retireList = s.retireList := rfl
@[simp] theorem startSupervision_branches (m : MeterId) : (startSupervision m s).branches = s.branches := rfl
@[simp] theorem startSupervision_urgencyMap (m : MeterId) : (startSupervision m s).urgencyMap = s.urgencyMap := rfl
@[simp] theorem startSupervision_arbiter (m : MeterId) : (startSupervision m s).arbiter = s.arbiter := rfl
@[simp] theorem startSupervision_engine (m : MeterId) : (startSupervision m s).engine = s.engine := rfl
@[simp] theorem startSupervision_list (m : MeterId) : (startSupervision m s).list = s.list := rfl
@[simp] theorem startSupervision_stock (m : MeterId) : (startSupervision m s).stock = s.stock := rfl
@[simp] theorem startSupervision_periods (m : MeterId) : (startSupervision m s).periods = s.periods := rfl
@[simp] theorem startSupervision_monitor (m : MeterId) : (startSupervision m s).monitor = s.monitor := rfl
@[simp] theorem startSupervision_notices (m : MeterId) : (startSupervision m s).notices = s.notices := rfl
@[simp] theorem startSupervision_operations (m : MeterId) : (startSupervision m s).operations = s.operations := rfl
@[simp] theorem startSupervision_audit (m : MeterId) : (startSupervision m s).audit = s.audit := rfl
@[simp] theorem startSupervision_pending (m : MeterId) : (startSupervision m s).pending = s.pending := rfl

/-! ## freeSlot -/

@[simp] theorem freeSlot_powered (k : SlotId) : (freeSlot k s).powered = s.powered := rfl
@[simp] theorem freeSlot_timeBase (k : SlotId) : (freeSlot k s).timeBase = s.timeBase := rfl
@[simp] theorem freeSlot_pool (k : SlotId) : (freeSlot k s).pool = s.pool := rfl
@[simp] theorem freeSlot_meters (k : SlotId) : (freeSlot k s).meters = s.meters := rfl
@[simp] theorem freeSlot_silentList (k : SlotId) : (freeSlot k s).silentList = s.silentList := rfl
@[simp] theorem freeSlot_retireList (k : SlotId) : (freeSlot k s).retireList = s.retireList := rfl
@[simp] theorem freeSlot_branches (k : SlotId) : (freeSlot k s).branches = s.branches := rfl
@[simp] theorem freeSlot_urgencyMap (k : SlotId) : (freeSlot k s).urgencyMap = s.urgencyMap := rfl
@[simp] theorem freeSlot_arbiter (k : SlotId) : (freeSlot k s).arbiter = s.arbiter := rfl
@[simp] theorem freeSlot_engine (k : SlotId) : (freeSlot k s).engine =
    { s.engine with slots := modifyAt s.engine.slots k (fun _ => none) } := rfl
@[simp] theorem freeSlot_list (k : SlotId) : (freeSlot k s).list = s.list := rfl
@[simp] theorem freeSlot_stock (k : SlotId) : (freeSlot k s).stock = s.stock := rfl
@[simp] theorem freeSlot_periods (k : SlotId) : (freeSlot k s).periods = s.periods := rfl
@[simp] theorem freeSlot_monitor (k : SlotId) : (freeSlot k s).monitor = s.monitor := rfl
@[simp] theorem freeSlot_notices (k : SlotId) : (freeSlot k s).notices = s.notices := rfl
@[simp] theorem freeSlot_operations (k : SlotId) : (freeSlot k s).operations = s.operations := rfl
@[simp] theorem freeSlot_audit (k : SlotId) : (freeSlot k s).audit = s.audit := rfl
@[simp] theorem freeSlot_pending (k : SlotId) : (freeSlot k s).pending = s.pending := rfl

/-! ## leaveDraining -/

@[simp] theorem leaveDraining_powered (m : MeterId) : (leaveDraining m s).powered = s.powered := rfl
@[simp] theorem leaveDraining_timeBase (m : MeterId) : (leaveDraining m s).timeBase = s.timeBase := rfl
@[simp] theorem leaveDraining_pool (m : MeterId) : (leaveDraining m s).pool = s.pool := rfl
@[simp] theorem leaveDraining_meters (m : MeterId) : (leaveDraining m s).meters =
    modifyAt s.meters m (fun r => { r with state := if r.state = .draining then .awaitingReading else r.state }) := rfl
@[simp] theorem leaveDraining_silentList (m : MeterId) : (leaveDraining m s).silentList = s.silentList := rfl
@[simp] theorem leaveDraining_retireList (m : MeterId) : (leaveDraining m s).retireList = s.retireList := rfl
@[simp] theorem leaveDraining_branches (m : MeterId) : (leaveDraining m s).branches = s.branches := rfl
@[simp] theorem leaveDraining_urgencyMap (m : MeterId) : (leaveDraining m s).urgencyMap = s.urgencyMap := rfl
@[simp] theorem leaveDraining_arbiter (m : MeterId) : (leaveDraining m s).arbiter = s.arbiter := rfl
@[simp] theorem leaveDraining_engine (m : MeterId) : (leaveDraining m s).engine = s.engine := rfl
@[simp] theorem leaveDraining_list (m : MeterId) : (leaveDraining m s).list = s.list := rfl
@[simp] theorem leaveDraining_stock (m : MeterId) : (leaveDraining m s).stock = s.stock := rfl
@[simp] theorem leaveDraining_periods (m : MeterId) : (leaveDraining m s).periods = s.periods := rfl
@[simp] theorem leaveDraining_monitor (m : MeterId) : (leaveDraining m s).monitor = s.monitor := rfl
@[simp] theorem leaveDraining_notices (m : MeterId) : (leaveDraining m s).notices = s.notices := rfl
@[simp] theorem leaveDraining_operations (m : MeterId) : (leaveDraining m s).operations = s.operations := rfl
@[simp] theorem leaveDraining_audit (m : MeterId) : (leaveDraining m s).audit = s.audit := rfl
@[simp] theorem leaveDraining_pending (m : MeterId) : (leaveDraining m s).pending = s.pending := rfl

/-! ## State.setLine -/

@[simp] theorem State.setLine_powered (p : Port) (x : LineIf) : (s.setLine p x).powered = s.powered := by cases p <;> rfl
@[simp] theorem State.setLine_timeBase (p : Port) (x : LineIf) : (s.setLine p x).timeBase = s.timeBase := by cases p <;> rfl
@[simp] theorem State.setLine_pool (p : Port) (x : LineIf) : (s.setLine p x).pool = s.pool := by cases p <;> rfl
@[simp] theorem State.setLine_meters (p : Port) (x : LineIf) : (s.setLine p x).meters = s.meters := by cases p <;> rfl
@[simp] theorem State.setLine_silentList (p : Port) (x : LineIf) : (s.setLine p x).silentList = s.silentList := by cases p <;> rfl
@[simp] theorem State.setLine_retireList (p : Port) (x : LineIf) : (s.setLine p x).retireList = s.retireList := by cases p <;> rfl
@[simp] theorem State.setLine_branches (p : Port) (x : LineIf) : (s.setLine p x).branches = s.branches := by cases p <;> rfl
@[simp] theorem State.setLine_urgencyMap (p : Port) (x : LineIf) : (s.setLine p x).urgencyMap = s.urgencyMap := by cases p <;> rfl
@[simp] theorem State.setLine_arbiter (p : Port) (x : LineIf) : (s.setLine p x).arbiter = s.arbiter := by cases p <;> rfl
@[simp] theorem State.setLine_engine (p : Port) (x : LineIf) : (s.setLine p x).engine = s.engine := by cases p <;> rfl
@[simp] theorem State.setLine_list (p : Port) (x : LineIf) : (s.setLine p x).list = s.list := by cases p <;> rfl
@[simp] theorem State.setLine_stock (p : Port) (x : LineIf) : (s.setLine p x).stock = s.stock := by cases p <;> rfl
@[simp] theorem State.setLine_periods (p : Port) (x : LineIf) : (s.setLine p x).periods = s.periods := by cases p <;> rfl
@[simp] theorem State.setLine_monitor (p : Port) (x : LineIf) : (s.setLine p x).monitor = s.monitor := by cases p <;> rfl
@[simp] theorem State.setLine_notices (p : Port) (x : LineIf) : (s.setLine p x).notices = s.notices := by cases p <;> rfl
@[simp] theorem State.setLine_pending (p : Port) (x : LineIf) : (s.setLine p x).pending = s.pending := by cases p <;> rfl

/-! ## modLineIf -/

@[simp] theorem modLineIf_powered (p : Port) (g : LineIf → LineIf) : (modLineIf p g s).powered = s.powered := by cases p <;> rfl
@[simp] theorem modLineIf_timeBase (p : Port) (g : LineIf → LineIf) : (modLineIf p g s).timeBase = s.timeBase := by cases p <;> rfl
@[simp] theorem modLineIf_pool (p : Port) (g : LineIf → LineIf) : (modLineIf p g s).pool = s.pool := by cases p <;> rfl
@[simp] theorem modLineIf_meters (p : Port) (g : LineIf → LineIf) : (modLineIf p g s).meters = s.meters := by cases p <;> rfl
@[simp] theorem modLineIf_silentList (p : Port) (g : LineIf → LineIf) : (modLineIf p g s).silentList = s.silentList := by cases p <;> rfl
@[simp] theorem modLineIf_retireList (p : Port) (g : LineIf → LineIf) : (modLineIf p g s).retireList = s.retireList := by cases p <;> rfl
@[simp] theorem modLineIf_branches (p : Port) (g : LineIf → LineIf) : (modLineIf p g s).branches = s.branches := by cases p <;> rfl
@[simp] theorem modLineIf_urgencyMap (p : Port) (g : LineIf → LineIf) : (modLineIf p g s).urgencyMap = s.urgencyMap := by cases p <;> rfl
@[simp] theorem modLineIf_arbiter (p : Port) (g : LineIf → LineIf) : (modLineIf p g s).arbiter = s.arbiter := by cases p <;> rfl
@[simp] theorem modLineIf_engine (p : Port) (g : LineIf → LineIf) : (modLineIf p g s).engine = s.engine := by cases p <;> rfl
@[simp] theorem modLineIf_list (p : Port) (g : LineIf → LineIf) : (modLineIf p g s).list = s.list := by cases p <;> rfl
@[simp] theorem modLineIf_stock (p : Port) (g : LineIf → LineIf) : (modLineIf p g s).stock = s.stock := by cases p <;> rfl
@[simp] theorem modLineIf_periods (p : Port) (g : LineIf → LineIf) : (modLineIf p g s).periods = s.periods := by cases p <;> rfl
@[simp] theorem modLineIf_monitor (p : Port) (g : LineIf → LineIf) : (modLineIf p g s).monitor = s.monitor := by cases p <;> rfl
@[simp] theorem modLineIf_notices (p : Port) (g : LineIf → LineIf) : (modLineIf p g s).notices = s.notices := by cases p <;> rfl
@[simp] theorem modLineIf_pending (p : Port) (g : LineIf → LineIf) : (modLineIf p g s).pending = s.pending := by cases p <;> rfl

/-! ## enqueue -/

@[simp] theorem enqueue_powered (p : Port) (f : OutFrame) : (enqueue p f s).powered = s.powered := by cases p <;> rfl
@[simp] theorem enqueue_timeBase (p : Port) (f : OutFrame) : (enqueue p f s).timeBase = s.timeBase := by cases p <;> rfl
@[simp] theorem enqueue_pool (p : Port) (f : OutFrame) : (enqueue p f s).pool = s.pool := by cases p <;> rfl
@[simp] theorem enqueue_meters (p : Port) (f : OutFrame) : (enqueue p f s).meters = s.meters := by cases p <;> rfl
@[simp] theorem enqueue_silentList (p : Port) (f : OutFrame) : (enqueue p f s).silentList = s.silentList := by cases p <;> rfl
@[simp] theorem enqueue_retireList (p : Port) (f : OutFrame) : (enqueue p f s).retireList = s.retireList := by cases p <;> rfl
@[simp] theorem enqueue_branches (p : Port) (f : OutFrame) : (enqueue p f s).branches = s.branches := by cases p <;> rfl
@[simp] theorem enqueue_urgencyMap (p : Port) (f : OutFrame) : (enqueue p f s).urgencyMap = s.urgencyMap := by cases p <;> rfl
@[simp] theorem enqueue_arbiter (p : Port) (f : OutFrame) : (enqueue p f s).arbiter = s.arbiter := by cases p <;> rfl
@[simp] theorem enqueue_engine (p : Port) (f : OutFrame) : (enqueue p f s).engine = s.engine := by cases p <;> rfl
@[simp] theorem enqueue_list (p : Port) (f : OutFrame) : (enqueue p f s).list = s.list := by cases p <;> rfl
@[simp] theorem enqueue_stock (p : Port) (f : OutFrame) : (enqueue p f s).stock = s.stock := by cases p <;> rfl
@[simp] theorem enqueue_periods (p : Port) (f : OutFrame) : (enqueue p f s).periods = s.periods := by cases p <;> rfl
@[simp] theorem enqueue_monitor (p : Port) (f : OutFrame) : (enqueue p f s).monitor = s.monitor := by cases p <;> rfl
@[simp] theorem enqueue_notices (p : Port) (f : OutFrame) : (enqueue p f s).notices = s.notices := by cases p <;> rfl
@[simp] theorem enqueue_pending (p : Port) (f : OutFrame) : (enqueue p f s).pending = s.pending := by cases p <;> rfl

/-! ## countLine -/

@[simp] theorem countLine_powered (p : Port) (g : LineCounters → LineCounters) : (countLine p g s).powered = s.powered := by cases p <;> rfl
@[simp] theorem countLine_timeBase (p : Port) (g : LineCounters → LineCounters) : (countLine p g s).timeBase = s.timeBase := by cases p <;> rfl
@[simp] theorem countLine_pool (p : Port) (g : LineCounters → LineCounters) : (countLine p g s).pool = s.pool := by cases p <;> rfl
@[simp] theorem countLine_meters (p : Port) (g : LineCounters → LineCounters) : (countLine p g s).meters = s.meters := by cases p <;> rfl
@[simp] theorem countLine_silentList (p : Port) (g : LineCounters → LineCounters) : (countLine p g s).silentList = s.silentList := by cases p <;> rfl
@[simp] theorem countLine_retireList (p : Port) (g : LineCounters → LineCounters) : (countLine p g s).retireList = s.retireList := by cases p <;> rfl
@[simp] theorem countLine_branches (p : Port) (g : LineCounters → LineCounters) : (countLine p g s).branches = s.branches := by cases p <;> rfl
@[simp] theorem countLine_urgencyMap (p : Port) (g : LineCounters → LineCounters) : (countLine p g s).urgencyMap = s.urgencyMap := by cases p <;> rfl
@[simp] theorem countLine_arbiter (p : Port) (g : LineCounters → LineCounters) : (countLine p g s).arbiter = s.arbiter := by cases p <;> rfl
@[simp] theorem countLine_engine (p : Port) (g : LineCounters → LineCounters) : (countLine p g s).engine = s.engine := by cases p <;> rfl
@[simp] theorem countLine_list (p : Port) (g : LineCounters → LineCounters) : (countLine p g s).list = s.list := by cases p <;> rfl
@[simp] theorem countLine_stock (p : Port) (g : LineCounters → LineCounters) : (countLine p g s).stock = s.stock := by cases p <;> rfl
@[simp] theorem countLine_periods (p : Port) (g : LineCounters → LineCounters) : (countLine p g s).periods = s.periods := by cases p <;> rfl
@[simp] theorem countLine_monitor (p : Port) (g : LineCounters → LineCounters) : (countLine p g s).monitor = s.monitor := by cases p <;> rfl
@[simp] theorem countLine_notices (p : Port) (g : LineCounters → LineCounters) : (countLine p g s).notices = s.notices := by cases p <;> rfl
@[simp] theorem countLine_pending (p : Port) (g : LineCounters → LineCounters) : (countLine p g s).pending = s.pending := by cases p <;> rfl

end Sys2Proof.Machine
end

