-- ==== Sys2Proof/Laws/Frames.lean ====
section
/-!
SUPPORT. The frame of each shared operation: the fields of the state that it leaves as they were.
-/

namespace Sys2Proof.Machine

variable (s : State)

/-! ## setStarted -/

@[simp] theorem setStarted_powered (cause : StartedCause) (done : Bool) : (setStarted cause done s).powered = s.powered := by
  simp [setStarted]
@[simp] theorem setStarted_timeBase (cause : StartedCause) (done : Bool) : (setStarted cause done s).timeBase = s.timeBase := by
  simp [setStarted]
@[simp] theorem setStarted_pool (cause : StartedCause) (done : Bool) : (setStarted cause done s).pool = s.pool := by
  simp [setStarted]
@[simp] theorem setStarted_meters (cause : StartedCause) (done : Bool) : (setStarted cause done s).meters = s.meters := by
  simp [setStarted]
@[simp] theorem setStarted_silentList (cause : StartedCause) (done : Bool) : (setStarted cause done s).silentList = s.silentList := by
  simp [setStarted]
@[simp] theorem setStarted_retireList (cause : StartedCause) (done : Bool) : (setStarted cause done s).retireList = s.retireList := by
  simp [setStarted]
@[simp] theorem setStarted_branches (cause : StartedCause) (done : Bool) : (setStarted cause done s).branches = s.branches := by
  simp [setStarted]
@[simp] theorem setStarted_urgencyMap (cause : StartedCause) (done : Bool) : (setStarted cause done s).urgencyMap = s.urgencyMap := by
  simp [setStarted]
@[simp] theorem setStarted_arbiter (cause : StartedCause) (done : Bool) : (setStarted cause done s).arbiter = s.arbiter := by
  simp [setStarted]
@[simp] theorem setStarted_engine (cause : StartedCause) (done : Bool) : (setStarted cause done s).engine = s.engine := by
  simp [setStarted]
@[simp] theorem setStarted_list (cause : StartedCause) (done : Bool) : (setStarted cause done s).list = s.list := by
  simp [setStarted]
@[simp] theorem setStarted_stock (cause : StartedCause) (done : Bool) : (setStarted cause done s).stock = s.stock := by
  simp [setStarted]
@[simp] theorem setStarted_periods (cause : StartedCause) (done : Bool) : (setStarted cause done s).periods = s.periods := by
  simp [setStarted]
@[simp] theorem setStarted_monitor (cause : StartedCause) (done : Bool) : (setStarted cause done s).monitor = s.monitor := by
  simp [setStarted]
@[simp] theorem setStarted_operations (cause : StartedCause) (done : Bool) : (setStarted cause done s).operations = s.operations := by
  simp [setStarted]
@[simp] theorem setStarted_audit (cause : StartedCause) (done : Bool) : (setStarted cause done s).audit = s.audit := by
  simp [setStarted]
@[simp] theorem setStarted_pending (cause : StartedCause) (done : Bool) : (setStarted cause done s).pending = s.pending := by
  simp [setStarted]

/-! ## setPoolCondition -/

@[simp] theorem setPoolCondition_powered (c : PoolCondition) : (setPoolCondition c s).powered = s.powered := by
  unfold setPoolCondition; dsimp only; (repeat' split) <;> simp
@[simp] theorem setPoolCondition_timeBase (c : PoolCondition) : (setPoolCondition c s).timeBase = s.timeBase := by
  unfold setPoolCondition; dsimp only; (repeat' split) <;> simp
@[simp] theorem setPoolCondition_meters (c : PoolCondition) : (setPoolCondition c s).meters = s.meters := by
  unfold setPoolCondition; dsimp only; (repeat' split) <;> simp
@[simp] theorem setPoolCondition_silentList (c : PoolCondition) : (setPoolCondition c s).silentList = s.silentList := by
  unfold setPoolCondition; dsimp only; (repeat' split) <;> simp
@[simp] theorem setPoolCondition_retireList (c : PoolCondition) : (setPoolCondition c s).retireList = s.retireList := by
  unfold setPoolCondition; dsimp only; (repeat' split) <;> simp
@[simp] theorem setPoolCondition_branches (c : PoolCondition) : (setPoolCondition c s).branches = s.branches := by
  unfold setPoolCondition; dsimp only; (repeat' split) <;> simp
@[simp] theorem setPoolCondition_urgencyMap (c : PoolCondition) : (setPoolCondition c s).urgencyMap = s.urgencyMap := by
  unfold setPoolCondition; dsimp only; (repeat' split) <;> simp
@[simp] theorem setPoolCondition_arbiter (c : PoolCondition) : (setPoolCondition c s).arbiter = s.arbiter := by
  unfold setPoolCondition; dsimp only; (repeat' split) <;> simp
@[simp] theorem setPoolCondition_engine (c : PoolCondition) : (setPoolCondition c s).engine = s.engine := by
  unfold setPoolCondition; dsimp only; (repeat' split) <;> simp
@[simp] theorem setPoolCondition_list (c : PoolCondition) : (setPoolCondition c s).list = s.list := by
  unfold setPoolCondition; dsimp only; (repeat' split) <;> simp
@[simp] theorem setPoolCondition_stock (c : PoolCondition) : (setPoolCondition c s).stock = s.stock := by
  unfold setPoolCondition; dsimp only; (repeat' split) <;> simp
@[simp] theorem setPoolCondition_periods (c : PoolCondition) : (setPoolCondition c s).periods = s.periods := by
  unfold setPoolCondition; dsimp only; (repeat' split) <;> simp
@[simp] theorem setPoolCondition_monitor (c : PoolCondition) : (setPoolCondition c s).monitor = s.monitor := by
  unfold setPoolCondition; dsimp only; (repeat' split) <;> simp
@[simp] theorem setPoolCondition_operations (c : PoolCondition) : (setPoolCondition c s).operations = s.operations := by
  unfold setPoolCondition; dsimp only; (repeat' split) <;> simp
@[simp] theorem setPoolCondition_audit (c : PoolCondition) : (setPoolCondition c s).audit = s.audit := by
  unfold setPoolCondition; dsimp only; (repeat' split) <;> simp
@[simp] theorem setPoolCondition_pending (c : PoolCondition) : (setPoolCondition c s).pending = s.pending := by
  unfold setPoolCondition; dsimp only; (repeat' split) <;> simp

/-! ## recheckPool -/

@[simp] theorem recheckPool_powered  : (recheckPool s).powered = s.powered := by
  unfold recheckPool; dsimp only; (repeat' split) <;> simp
@[simp] theorem recheckPool_timeBase  : (recheckPool s).timeBase = s.timeBase := by
  unfold recheckPool; dsimp only; (repeat' split) <;> simp
@[simp] theorem recheckPool_meters  : (recheckPool s).meters = s.meters := by
  unfold recheckPool; dsimp only; (repeat' split) <;> simp
@[simp] theorem recheckPool_silentList  : (recheckPool s).silentList = s.silentList := by
  unfold recheckPool; dsimp only; (repeat' split) <;> simp
@[simp] theorem recheckPool_retireList  : (recheckPool s).retireList = s.retireList := by
  unfold recheckPool; dsimp only; (repeat' split) <;> simp
@[simp] theorem recheckPool_branches  : (recheckPool s).branches = s.branches := by
  unfold recheckPool; dsimp only; (repeat' split) <;> simp
@[simp] theorem recheckPool_urgencyMap  : (recheckPool s).urgencyMap = s.urgencyMap := by
  unfold recheckPool; dsimp only; (repeat' split) <;> simp
@[simp] theorem recheckPool_arbiter  : (recheckPool s).arbiter = s.arbiter := by
  unfold recheckPool; dsimp only; (repeat' split) <;> simp
@[simp] theorem recheckPool_engine  : (recheckPool s).engine = s.engine := by
  unfold recheckPool; dsimp only; (repeat' split) <;> simp
@[simp] theorem recheckPool_list  : (recheckPool s).list = s.list := by
  unfold recheckPool; dsimp only; (repeat' split) <;> simp
@[simp] theorem recheckPool_stock  : (recheckPool s).stock = s.stock := by
  unfold recheckPool; dsimp only; (repeat' split) <;> simp
@[simp] theorem recheckPool_periods  : (recheckPool s).periods = s.periods := by
  unfold recheckPool; dsimp only; (repeat' split) <;> simp
@[simp] theorem recheckPool_monitor  : (recheckPool s).monitor = s.monitor := by
  unfold recheckPool; dsimp only; (repeat' split) <;> simp
@[simp] theorem recheckPool_operations  : (recheckPool s).operations = s.operations := by
  unfold recheckPool; dsimp only; (repeat' split) <;> simp
@[simp] theorem recheckPool_audit  : (recheckPool s).audit = s.audit := by
  unfold recheckPool; dsimp only; (repeat' split) <;> simp
@[simp] theorem recheckPool_pending  : (recheckPool s).pending = s.pending := by
  unfold recheckPool; dsimp only; (repeat' split) <;> simp

/-! ## changePool -/

@[simp] theorem changePool_powered (x : Pool) (hit : Bool) : (changePool x hit s).powered = s.powered := by
  simp [changePool]
@[simp] theorem changePool_timeBase (x : Pool) (hit : Bool) : (changePool x hit s).timeBase = s.timeBase := by
  simp [changePool]
@[simp] theorem changePool_meters (x : Pool) (hit : Bool) : (changePool x hit s).meters = s.meters := by
  simp [changePool]
@[simp] theorem changePool_silentList (x : Pool) (hit : Bool) : (changePool x hit s).silentList = s.silentList := by
  simp [changePool]
@[simp] theorem changePool_retireList (x : Pool) (hit : Bool) : (changePool x hit s).retireList = s.retireList := by
  simp [changePool]
@[simp] theorem changePool_branches (x : Pool) (hit : Bool) : (changePool x hit s).branches = s.branches := by
  simp [changePool]
@[simp] theorem changePool_urgencyMap (x : Pool) (hit : Bool) : (changePool x hit s).urgencyMap = s.urgencyMap := by
  simp [changePool]
@[simp] theorem changePool_arbiter (x : Pool) (hit : Bool) : (changePool x hit s).arbiter = s.arbiter := by
  simp [changePool]
@[simp] theorem changePool_engine (x : Pool) (hit : Bool) : (changePool x hit s).engine = s.engine := by
  simp [changePool]
@[simp] theorem changePool_list (x : Pool) (hit : Bool) : (changePool x hit s).list = s.list := by
  simp [changePool]
@[simp] theorem changePool_stock (x : Pool) (hit : Bool) : (changePool x hit s).stock = s.stock := by
  simp [changePool]
@[simp] theorem changePool_monitor (x : Pool) (hit : Bool) : (changePool x hit s).monitor = s.monitor := by
  simp [changePool]
@[simp] theorem changePool_operations (x : Pool) (hit : Bool) : (changePool x hit s).operations = s.operations := by
  simp [changePool]
@[simp] theorem changePool_audit (x : Pool) (hit : Bool) : (changePool x hit s).audit = s.audit := by
  simp [changePool]
@[simp] theorem changePool_pending (x : Pool) (hit : Bool) : (changePool x hit s).pending = s.pending := by
  simp [changePool]

/-! ## poolDeposit -/

@[simp] theorem poolDeposit_powered (n : Nat) (v : Word32) : (poolDeposit n v s).powered = s.powered := by
  simp [poolDeposit]
@[simp] theorem poolDeposit_timeBase (n : Nat) (v : Word32) : (poolDeposit n v s).timeBase = s.timeBase := by
  simp [poolDeposit]
@[simp] theorem poolDeposit_meters (n : Nat) (v : Word32) : (poolDeposit n v s).meters = s.meters := by
  simp [poolDeposit]
@[simp] theorem poolDeposit_silentList (n : Nat) (v : Word32) : (poolDeposit n v s).silentList = s.silentList := by
  simp [poolDeposit]
@[simp] theorem poolDeposit_retireList (n : Nat) (v : Word32) : (poolDeposit n v s).retireList = s.retireList := by
  simp [poolDeposit]
@[simp] theorem poolDeposit_branches (n : Nat) (v : Word32) : (poolDeposit n v s).branches = s.branches := by
  simp [poolDeposit]
@[simp] theorem poolDeposit_urgencyMap (n : Nat) (v : Word32) : (poolDeposit n v s).urgencyMap = s.urgencyMap := by
  simp [poolDeposit]
@[simp] theorem poolDeposit_arbiter (n : Nat) (v : Word32) : (poolDeposit n v s).arbiter = s.arbiter := by
  simp [poolDeposit]
@[simp] theorem poolDeposit_engine (n : Nat) (v : Word32) : (poolDeposit n v s).engine = s.engine := by
  simp [poolDeposit]
@[simp] theorem poolDeposit_list (n : Nat) (v : Word32) : (poolDeposit n v s).list = s.list := by
  simp [poolDeposit]
@[simp] theorem poolDeposit_stock (n : Nat) (v : Word32) : (poolDeposit n v s).stock = s.stock := by
  simp [poolDeposit]
@[simp] theorem poolDeposit_monitor (n : Nat) (v : Word32) : (poolDeposit n v s).monitor = s.monitor := by
  simp [poolDeposit]
@[simp] theorem poolDeposit_operations (n : Nat) (v : Word32) : (poolDeposit n v s).operations = s.operations := by
  simp [poolDeposit]
@[simp] theorem poolDeposit_audit (n : Nat) (v : Word32) : (poolDeposit n v s).audit = s.audit := by
  simp [poolDeposit]
@[simp] theorem poolDeposit_pending (n : Nat) (v : Word32) : (poolDeposit n v s).pending = s.pending := by
  simp [poolDeposit]

/-! ## poolRefund -/

@[simp] theorem poolRefund_powered (n : Nat) : (poolRefund n s).powered = s.powered := by
  simp [poolRefund]
@[simp] theorem poolRefund_timeBase (n : Nat) : (poolRefund n s).timeBase = s.timeBase := by
  simp [poolRefund]
@[simp] theorem poolRefund_meters (n : Nat) : (poolRefund n s).meters = s.meters := by
  simp [poolRefund]
@[simp] theorem poolRefund_silentList (n : Nat) : (poolRefund n s).silentList = s.silentList := by
  simp [poolRefund]
@[simp] theorem poolRefund_retireList (n : Nat) : (poolRefund n s).retireList = s.retireList := by
  simp [poolRefund]
@[simp] theorem poolRefund_branches (n : Nat) : (poolRefund n s).branches = s.branches := by
  simp [poolRefund]
@[simp] theorem poolRefund_urgencyMap (n : Nat) : (poolRefund n s).urgencyMap = s.urgencyMap := by
  simp [poolRefund]
@[simp] theorem poolRefund_arbiter (n : Nat) : (poolRefund n s).arbiter = s.arbiter := by
  simp [poolRefund]
@[simp] theorem poolRefund_engine (n : Nat) : (poolRefund n s).engine = s.engine := by
  simp [poolRefund]
@[simp] theorem poolRefund_list (n : Nat) : (poolRefund n s).list = s.list := by
  simp [poolRefund]
@[simp] theorem poolRefund_stock (n : Nat) : (poolRefund n s).stock = s.stock := by
  simp [poolRefund]
@[simp] theorem poolRefund_monitor (n : Nat) : (poolRefund n s).monitor = s.monitor := by
  simp [poolRefund]
@[simp] theorem poolRefund_operations (n : Nat) : (poolRefund n s).operations = s.operations := by
  simp [poolRefund]
@[simp] theorem poolRefund_audit (n : Nat) : (poolRefund n s).audit = s.audit := by
  simp [poolRefund]
@[simp] theorem poolRefund_pending (n : Nat) : (poolRefund n s).pending = s.pending := by
  simp [poolRefund]

/-! ## poolReserve -/

@[simp] theorem poolReserve_powered (n : Nat) : (poolReserve n s).powered = s.powered := by
  simp [poolReserve]
@[simp] theorem poolReserve_timeBase (n : Nat) : (poolReserve n s).timeBase = s.timeBase := by
  simp [poolReserve]
@[simp] theorem poolReserve_meters (n : Nat) : (poolReserve n s).meters = s.meters := by
  simp [poolReserve]
@[simp] theorem poolReserve_silentList (n : Nat) : (poolReserve n s).silentList = s.silentList := by
  simp [poolReserve]
@[simp] theorem poolReserve_retireList (n : Nat) : (poolReserve n s).retireList = s.retireList := by
  simp [poolReserve]
@[simp] theorem poolReserve_branches (n : Nat) : (poolReserve n s).branches = s.branches := by
  simp [poolReserve]
@[simp] theorem poolReserve_urgencyMap (n : Nat) : (poolReserve n s).urgencyMap = s.urgencyMap := by
  simp [poolReserve]
@[simp] theorem poolReserve_arbiter (n : Nat) : (poolReserve n s).arbiter = s.arbiter := by
  simp [poolReserve]
@[simp] theorem poolReserve_engine (n : Nat) : (poolReserve n s).engine = s.engine := by
  simp [poolReserve]
@[simp] theorem poolReserve_list (n : Nat) : (poolReserve n s).list = s.list := by
  simp [poolReserve]
@[simp] theorem poolReserve_stock (n : Nat) : (poolReserve n s).stock = s.stock := by
  simp [poolReserve]
@[simp] theorem poolReserve_monitor (n : Nat) : (poolReserve n s).monitor = s.monitor := by
  simp [poolReserve]
@[simp] theorem poolReserve_operations (n : Nat) : (poolReserve n s).operations = s.operations := by
  simp [poolReserve]
@[simp] theorem poolReserve_audit (n : Nat) : (poolReserve n s).audit = s.audit := by
  simp [poolReserve]
@[simp] theorem poolReserve_pending (n : Nat) : (poolReserve n s).pending = s.pending := by
  simp [poolReserve]

/-! ## poolConfirm -/

@[simp] theorem poolConfirm_powered (n : Nat) : (poolConfirm n s).powered = s.powered := by
  simp [poolConfirm]
@[simp] theorem poolConfirm_timeBase (n : Nat) : (poolConfirm n s).timeBase = s.timeBase := by
  simp [poolConfirm]
@[simp] theorem poolConfirm_meters (n : Nat) : (poolConfirm n s).meters = s.meters := by
  simp [poolConfirm]
@[simp] theorem poolConfirm_silentList (n : Nat) : (poolConfirm n s).silentList = s.silentList := by
  simp [poolConfirm]
@[simp] theorem poolConfirm_retireList (n : Nat) : (poolConfirm n s).retireList = s.retireList := by
  simp [poolConfirm]
@[simp] theorem poolConfirm_branches (n : Nat) : (poolConfirm n s).branches = s.branches := by
  simp [poolConfirm]
@[simp] theorem poolConfirm_urgencyMap (n : Nat) : (poolConfirm n s).urgencyMap = s.urgencyMap := by
  simp [poolConfirm]
@[simp] theorem poolConfirm_arbiter (n : Nat) : (poolConfirm n s).arbiter = s.arbiter := by
  simp [poolConfirm]
@[simp] theorem poolConfirm_engine (n : Nat) : (poolConfirm n s).engine = s.engine := by
  simp [poolConfirm]
@[simp] theorem poolConfirm_list (n : Nat) : (poolConfirm n s).list = s.list := by
  simp [poolConfirm]
@[simp] theorem poolConfirm_stock (n : Nat) : (poolConfirm n s).stock = s.stock := by
  simp [poolConfirm]
@[simp] theorem poolConfirm_monitor (n : Nat) : (poolConfirm n s).monitor = s.monitor := by
  simp [poolConfirm]
@[simp] theorem poolConfirm_operations (n : Nat) : (poolConfirm n s).operations = s.operations := by
  simp [poolConfirm]
@[simp] theorem poolConfirm_audit (n : Nat) : (poolConfirm n s).audit = s.audit := by
  simp [poolConfirm]
@[simp] theorem poolConfirm_pending (n : Nat) : (poolConfirm n s).pending = s.pending := by
  simp [poolConfirm]

/-! ## poolRelease -/

@[simp] theorem poolRelease_powered (n : Nat) : (poolRelease n s).powered = s.powered := by
  simp [poolRelease]
@[simp] theorem poolRelease_timeBase (n : Nat) : (poolRelease n s).timeBase = s.timeBase := by
  simp [poolRelease]
@[simp] theorem poolRelease_meters (n : Nat) : (poolRelease n s).meters = s.meters := by
  simp [poolRelease]
@[simp] theorem poolRelease_silentList (n : Nat) : (poolRelease n s).silentList = s.silentList := by
  simp [poolRelease]
@[simp] theorem poolRelease_retireList (n : Nat) : (poolRelease n s).retireList = s.retireList := by
  simp [poolRelease]
@[simp] theorem poolRelease_branches (n : Nat) : (poolRelease n s).branches = s.branches := by
  simp [poolRelease]
@[simp] theorem poolRelease_urgencyMap (n : Nat) : (poolRelease n s).urgencyMap = s.urgencyMap := by
  simp [poolRelease]
@[simp] theorem poolRelease_arbiter (n : Nat) : (poolRelease n s).arbiter = s.arbiter := by
  simp [poolRelease]
@[simp] theorem poolRelease_engine (n : Nat) : (poolRelease n s).engine = s.engine := by
  simp [poolRelease]
@[simp] theorem poolRelease_list (n : Nat) : (poolRelease n s).list = s.list := by
  simp [poolRelease]
@[simp] theorem poolRelease_stock (n : Nat) : (poolRelease n s).stock = s.stock := by
  simp [poolRelease]
@[simp] theorem poolRelease_monitor (n : Nat) : (poolRelease n s).monitor = s.monitor := by
  simp [poolRelease]
@[simp] theorem poolRelease_operations (n : Nat) : (poolRelease n s).operations = s.operations := by
  simp [poolRelease]
@[simp] theorem poolRelease_audit (n : Nat) : (poolRelease n s).audit = s.audit := by
  simp [poolRelease]
@[simp] theorem poolRelease_pending (n : Nat) : (poolRelease n s).pending = s.pending := by
  simp [poolRelease]

/-! ## poolPurchase -/

@[simp] theorem poolPurchase_powered (n : Nat) : (poolPurchase n s).powered = s.powered := by
  simp [poolPurchase]
@[simp] theorem poolPurchase_timeBase (n : Nat) : (poolPurchase n s).timeBase = s.timeBase := by
  simp [poolPurchase]
@[simp] theorem poolPurchase_meters (n : Nat) : (poolPurchase n s).meters = s.meters := by
  simp [poolPurchase]
@[simp] theorem poolPurchase_silentList (n : Nat) : (poolPurchase n s).silentList = s.silentList := by
  simp [poolPurchase]
@[simp] theorem poolPurchase_retireList (n : Nat) : (poolPurchase n s).retireList = s.retireList := by
  simp [poolPurchase]
@[simp] theorem poolPurchase_branches (n : Nat) : (poolPurchase n s).branches = s.branches := by
  simp [poolPurchase]
@[simp] theorem poolPurchase_urgencyMap (n : Nat) : (poolPurchase n s).urgencyMap = s.urgencyMap := by
  simp [poolPurchase]
@[simp] theorem poolPurchase_arbiter (n : Nat) : (poolPurchase n s).arbiter = s.arbiter := by
  simp [poolPurchase]
@[simp] theorem poolPurchase_engine (n : Nat) : (poolPurchase n s).engine = s.engine := by
  simp [poolPurchase]
@[simp] theorem poolPurchase_list (n : Nat) : (poolPurchase n s).list = s.list := by
  simp [poolPurchase]
@[simp] theorem poolPurchase_stock (n : Nat) : (poolPurchase n s).stock = s.stock := by
  simp [poolPurchase]
@[simp] theorem poolPurchase_monitor (n : Nat) : (poolPurchase n s).monitor = s.monitor := by
  simp [poolPurchase]
@[simp] theorem poolPurchase_operations (n : Nat) : (poolPurchase n s).operations = s.operations := by
  simp [poolPurchase]
@[simp] theorem poolPurchase_audit (n : Nat) : (poolPurchase n s).audit = s.audit := by
  simp [poolPurchase]
@[simp] theorem poolPurchase_pending (n : Nat) : (poolPurchase n s).pending = s.pending := by
  simp [poolPurchase]

/-! ## poolSweep -/

@[simp] theorem poolSweep_powered (n : Nat) : (poolSweep n s).powered = s.powered := by
  simp [poolSweep]
@[simp] theorem poolSweep_timeBase (n : Nat) : (poolSweep n s).timeBase = s.timeBase := by
  simp [poolSweep]
@[simp] theorem poolSweep_meters (n : Nat) : (poolSweep n s).meters = s.meters := by
  simp [poolSweep]
@[simp] theorem poolSweep_silentList (n : Nat) : (poolSweep n s).silentList = s.silentList := by
  simp [poolSweep]
@[simp] theorem poolSweep_retireList (n : Nat) : (poolSweep n s).retireList = s.retireList := by
  simp [poolSweep]
@[simp] theorem poolSweep_branches (n : Nat) : (poolSweep n s).branches = s.branches := by
  simp [poolSweep]
@[simp] theorem poolSweep_urgencyMap (n : Nat) : (poolSweep n s).urgencyMap = s.urgencyMap := by
  simp [poolSweep]
@[simp] theorem poolSweep_arbiter (n : Nat) : (poolSweep n s).arbiter = s.arbiter := by
  simp [poolSweep]
@[simp] theorem poolSweep_engine (n : Nat) : (poolSweep n s).engine = s.engine := by
  simp [poolSweep]
@[simp] theorem poolSweep_list (n : Nat) : (poolSweep n s).list = s.list := by
  simp [poolSweep]
@[simp] theorem poolSweep_stock (n : Nat) : (poolSweep n s).stock = s.stock := by
  simp [poolSweep]
@[simp] theorem poolSweep_monitor (n : Nat) : (poolSweep n s).monitor = s.monitor := by
  simp [poolSweep]
@[simp] theorem poolSweep_operations (n : Nat) : (poolSweep n s).operations = s.operations := by
  simp [poolSweep]
@[simp] theorem poolSweep_audit (n : Nat) : (poolSweep n s).audit = s.audit := by
  simp [poolSweep]
@[simp] theorem poolSweep_pending (n : Nat) : (poolSweep n s).pending = s.pending := by
  simp [poolSweep]

/-! ## poolAdjust -/

@[simp] theorem poolAdjust_powered (d : Int) : (poolAdjust d s).powered = s.powered := by
  simp [poolAdjust]
@[simp] theorem poolAdjust_timeBase (d : Int) : (poolAdjust d s).timeBase = s.timeBase := by
  simp [poolAdjust]
@[simp] theorem poolAdjust_meters (d : Int) : (poolAdjust d s).meters = s.meters := by
  simp [poolAdjust]
@[simp] theorem poolAdjust_silentList (d : Int) : (poolAdjust d s).silentList = s.silentList := by
  simp [poolAdjust]
@[simp] theorem poolAdjust_retireList (d : Int) : (poolAdjust d s).retireList = s.retireList := by
  simp [poolAdjust]
@[simp] theorem poolAdjust_branches (d : Int) : (poolAdjust d s).branches = s.branches := by
  simp [poolAdjust]
@[simp] theorem poolAdjust_urgencyMap (d : Int) : (poolAdjust d s).urgencyMap = s.urgencyMap := by
  simp [poolAdjust]
@[simp] theorem poolAdjust_arbiter (d : Int) : (poolAdjust d s).arbiter = s.arbiter := by
  simp [poolAdjust]
@[simp] theorem poolAdjust_engine (d : Int) : (poolAdjust d s).engine = s.engine := by
  simp [poolAdjust]
@[simp] theorem poolAdjust_list (d : Int) : (poolAdjust d s).list = s.list := by
  simp [poolAdjust]
@[simp] theorem poolAdjust_stock (d : Int) : (poolAdjust d s).stock = s.stock := by
  simp [poolAdjust]
@[simp] theorem poolAdjust_monitor (d : Int) : (poolAdjust d s).monitor = s.monitor := by
  simp [poolAdjust]
@[simp] theorem poolAdjust_operations (d : Int) : (poolAdjust d s).operations = s.operations := by
  simp [poolAdjust]
@[simp] theorem poolAdjust_audit (d : Int) : (poolAdjust d s).audit = s.audit := by
  simp [poolAdjust]
@[simp] theorem poolAdjust_pending (d : Int) : (poolAdjust d s).pending = s.pending := by
  simp [poolAdjust]

/-! ## addToBranchBank -/

@[simp] theorem addToBranchBank_powered (b : BranchId) (g : BranchBank → BranchBank) (hit : BranchBank → Bool) : (addToBranchBank b g hit s).powered = s.powered := by
  simp [addToBranchBank]
@[simp] theorem addToBranchBank_timeBase (b : BranchId) (g : BranchBank → BranchBank) (hit : BranchBank → Bool) : (addToBranchBank b g hit s).timeBase = s.timeBase := by
  simp [addToBranchBank]
@[simp] theorem addToBranchBank_pool (b : BranchId) (g : BranchBank → BranchBank) (hit : BranchBank → Bool) : (addToBranchBank b g hit s).pool = s.pool := by
  simp [addToBranchBank]
@[simp] theorem addToBranchBank_meters (b : BranchId) (g : BranchBank → BranchBank) (hit : BranchBank → Bool) : (addToBranchBank b g hit s).meters = s.meters := by
  simp [addToBranchBank]
@[simp] theorem addToBranchBank_silentList (b : BranchId) (g : BranchBank → BranchBank) (hit : BranchBank → Bool) : (addToBranchBank b g hit s).silentList = s.silentList := by
  simp [addToBranchBank]
@[simp] theorem addToBranchBank_retireList (b : BranchId) (g : BranchBank → BranchBank) (hit : BranchBank → Bool) : (addToBranchBank b g hit s).retireList = s.retireList := by
  simp [addToBranchBank]
@[simp] theorem addToBranchBank_branches (b : BranchId) (g : BranchBank → BranchBank) (hit : BranchBank → Bool) : (addToBranchBank b g hit s).branches = s.branches := by
  simp [addToBranchBank]
@[simp] theorem addToBranchBank_urgencyMap (b : BranchId) (g : BranchBank → BranchBank) (hit : BranchBank → Bool) : (addToBranchBank b g hit s).urgencyMap = s.urgencyMap := by
  simp [addToBranchBank]
@[simp] theorem addToBranchBank_arbiter (b : BranchId) (g : BranchBank → BranchBank) (hit : BranchBank → Bool) : (addToBranchBank b g hit s).arbiter = s.arbiter := by
  simp [addToBranchBank]
@[simp] theorem addToBranchBank_engine (b : BranchId) (g : BranchBank → BranchBank) (hit : BranchBank → Bool) : (addToBranchBank b g hit s).engine = s.engine := by
  simp [addToBranchBank]
@[simp] theorem addToBranchBank_list (b : BranchId) (g : BranchBank → BranchBank) (hit : BranchBank → Bool) : (addToBranchBank b g hit s).list = s.list := by
  simp [addToBranchBank]
@[simp] theorem addToBranchBank_stock (b : BranchId) (g : BranchBank → BranchBank) (hit : BranchBank → Bool) : (addToBranchBank b g hit s).stock = s.stock := by
  simp [addToBranchBank]
@[simp] theorem addToBranchBank_monitor (b : BranchId) (g : BranchBank → BranchBank) (hit : BranchBank → Bool) : (addToBranchBank b g hit s).monitor = s.monitor := by
  simp [addToBranchBank]
@[simp] theorem addToBranchBank_notices (b : BranchId) (g : BranchBank → BranchBank) (hit : BranchBank → Bool) : (addToBranchBank b g hit s).notices = s.notices := by
  simp [addToBranchBank]
@[simp] theorem addToBranchBank_operations (b : BranchId) (g : BranchBank → BranchBank) (hit : BranchBank → Bool) : (addToBranchBank b g hit s).operations = s.operations := by
  simp [addToBranchBank]
@[simp] theorem addToBranchBank_audit (b : BranchId) (g : BranchBank → BranchBank) (hit : BranchBank → Bool) : (addToBranchBank b g hit s).audit = s.audit := by
  simp [addToBranchBank]
@[simp] theorem addToBranchBank_pending (b : BranchId) (g : BranchBank → BranchBank) (hit : BranchBank → Bool) : (addToBranchBank b g hit s).pending = s.pending := by
  simp [addToBranchBank]

/-! ## bankUsed -/

@[simp] theorem bankUsed_powered (b : BranchId) (n : Nat) : (bankUsed b n s).powered = s.powered := by
  simp [bankUsed]
@[simp] theorem bankUsed_timeBase (b : BranchId) (n : Nat) : (bankUsed b n s).timeBase = s.timeBase := by
  simp [bankUsed]
@[simp] theorem bankUsed_pool (b : BranchId) (n : Nat) : (bankUsed b n s).pool = s.pool := by
  simp [bankUsed]
@[simp] theorem bankUsed_meters (b : BranchId) (n : Nat) : (bankUsed b n s).meters = s.meters := by
  simp [bankUsed]
@[simp] theorem bankUsed_silentList (b : BranchId) (n : Nat) : (bankUsed b n s).silentList = s.silentList := by
  simp [bankUsed]
@[simp] theorem bankUsed_retireList (b : BranchId) (n : Nat) : (bankUsed b n s).retireList = s.retireList := by
  simp [bankUsed]
@[simp] theorem bankUsed_branches (b : BranchId) (n : Nat) : (bankUsed b n s).branches = s.branches := by
  simp [bankUsed]
@[simp] theorem bankUsed_urgencyMap (b : BranchId) (n : Nat) : (bankUsed b n s).urgencyMap = s.urgencyMap := by
  simp [bankUsed]
@[simp] theorem bankUsed_arbiter (b : BranchId) (n : Nat) : (bankUsed b n s).arbiter = s.arbiter := by
  simp [bankUsed]
@[simp] theorem bankUsed_engine (b : BranchId) (n : Nat) : (bankUsed b n s).engine = s.engine := by
  simp [bankUsed]
@[simp] theorem bankUsed_list (b : BranchId) (n : Nat) : (bankUsed b n s).list = s.list := by
  simp [bankUsed]
@[simp] theorem bankUsed_stock (b : BranchId) (n : Nat) : (bankUsed b n s).stock = s.stock := by
  simp [bankUsed]
@[simp] theorem bankUsed_monitor (b : BranchId) (n : Nat) : (bankUsed b n s).monitor = s.monitor := by
  simp [bankUsed]
@[simp] theorem bankUsed_notices (b : BranchId) (n : Nat) : (bankUsed b n s).notices = s.notices := by
  simp [bankUsed]
@[simp] theorem bankUsed_operations (b : BranchId) (n : Nat) : (bankUsed b n s).operations = s.operations := by
  simp [bankUsed]
@[simp] theorem bankUsed_audit (b : BranchId) (n : Nat) : (bankUsed b n s).audit = s.audit := by
  simp [bankUsed]
@[simp] theorem bankUsed_pending (b : BranchId) (n : Nat) : (bankUsed b n s).pending = s.pending := by
  simp [bankUsed]

/-! ## bankApplied -/

@[simp] theorem bankApplied_powered (b : BranchId) (n : Nat) : (bankApplied b n s).powered = s.powered := by
  simp [bankApplied]
@[simp] theorem bankApplied_timeBase (b : BranchId) (n : Nat) : (bankApplied b n s).timeBase = s.timeBase := by
  simp [bankApplied]
@[simp] theorem bankApplied_pool (b : BranchId) (n : Nat) : (bankApplied b n s).pool = s.pool := by
  simp [bankApplied]
@[simp] theorem bankApplied_meters (b : BranchId) (n : Nat) : (bankApplied b n s).meters = s.meters := by
  simp [bankApplied]
@[simp] theorem bankApplied_silentList (b : BranchId) (n : Nat) : (bankApplied b n s).silentList = s.silentList := by
  simp [bankApplied]
@[simp] theorem bankApplied_retireList (b : BranchId) (n : Nat) : (bankApplied b n s).retireList = s.retireList := by
  simp [bankApplied]
@[simp] theorem bankApplied_branches (b : BranchId) (n : Nat) : (bankApplied b n s).branches = s.branches := by
  simp [bankApplied]
@[simp] theorem bankApplied_urgencyMap (b : BranchId) (n : Nat) : (bankApplied b n s).urgencyMap = s.urgencyMap := by
  simp [bankApplied]
@[simp] theorem bankApplied_arbiter (b : BranchId) (n : Nat) : (bankApplied b n s).arbiter = s.arbiter := by
  simp [bankApplied]
@[simp] theorem bankApplied_engine (b : BranchId) (n : Nat) : (bankApplied b n s).engine = s.engine := by
  simp [bankApplied]
@[simp] theorem bankApplied_list (b : BranchId) (n : Nat) : (bankApplied b n s).list = s.list := by
  simp [bankApplied]
@[simp] theorem bankApplied_stock (b : BranchId) (n : Nat) : (bankApplied b n s).stock = s.stock := by
  simp [bankApplied]
@[simp] theorem bankApplied_monitor (b : BranchId) (n : Nat) : (bankApplied b n s).monitor = s.monitor := by
  simp [bankApplied]
@[simp] theorem bankApplied_notices (b : BranchId) (n : Nat) : (bankApplied b n s).notices = s.notices := by
  simp [bankApplied]
@[simp] theorem bankApplied_operations (b : BranchId) (n : Nat) : (bankApplied b n s).operations = s.operations := by
  simp [bankApplied]
@[simp] theorem bankApplied_audit (b : BranchId) (n : Nat) : (bankApplied b n s).audit = s.audit := by
  simp [bankApplied]
@[simp] theorem bankApplied_pending (b : BranchId) (n : Nat) : (bankApplied b n s).pending = s.pending := by
  simp [bankApplied]

/-! ## bankReversed -/

@[simp] theorem bankReversed_powered (b : BranchId) : (bankReversed b s).powered = s.powered := by
  simp [bankReversed]
@[simp] theorem bankReversed_timeBase (b : BranchId) : (bankReversed b s).timeBase = s.timeBase := by
  simp [bankReversed]
@[simp] theorem bankReversed_pool (b : BranchId) : (bankReversed b s).pool = s.pool := by
  simp [bankReversed]
@[simp] theorem bankReversed_meters (b : BranchId) : (bankReversed b s).meters = s.meters := by
  simp [bankReversed]
@[simp] theorem bankReversed_silentList (b : BranchId) : (bankReversed b s).silentList = s.silentList := by
  simp [bankReversed]
@[simp] theorem bankReversed_retireList (b : BranchId) : (bankReversed b s).retireList = s.retireList := by
  simp [bankReversed]
@[simp] theorem bankReversed_branches (b : BranchId) : (bankReversed b s).branches = s.branches := by
  simp [bankReversed]
@[simp] theorem bankReversed_urgencyMap (b : BranchId) : (bankReversed b s).urgencyMap = s.urgencyMap := by
  simp [bankReversed]
@[simp] theorem bankReversed_arbiter (b : BranchId) : (bankReversed b s).arbiter = s.arbiter := by
  simp [bankReversed]
@[simp] theorem bankReversed_engine (b : BranchId) : (bankReversed b s).engine = s.engine := by
  simp [bankReversed]
@[simp] theorem bankReversed_list (b : BranchId) : (bankReversed b s).list = s.list := by
  simp [bankReversed]
@[simp] theorem bankReversed_stock (b : BranchId) : (bankReversed b s).stock = s.stock := by
  simp [bankReversed]
@[simp] theorem bankReversed_monitor (b : BranchId) : (bankReversed b s).monitor = s.monitor := by
  simp [bankReversed]
@[simp] theorem bankReversed_notices (b : BranchId) : (bankReversed b s).notices = s.notices := by
  simp [bankReversed]
@[simp] theorem bankReversed_operations (b : BranchId) : (bankReversed b s).operations = s.operations := by
  simp [bankReversed]
@[simp] theorem bankReversed_audit (b : BranchId) : (bankReversed b s).audit = s.audit := by
  simp [bankReversed]
@[simp] theorem bankReversed_pending (b : BranchId) : (bankReversed b s).pending = s.pending := by
  simp [bankReversed]

/-! ## bankShort -/

@[simp] theorem bankShort_powered (b : BranchId) : (bankShort b s).powered = s.powered := by
  simp [bankShort]
@[simp] theorem bankShort_timeBase (b : BranchId) : (bankShort b s).timeBase = s.timeBase := by
  simp [bankShort]
@[simp] theorem bankShort_pool (b : BranchId) : (bankShort b s).pool = s.pool := by
  simp [bankShort]
@[simp] theorem bankShort_meters (b : BranchId) : (bankShort b s).meters = s.meters := by
  simp [bankShort]
@[simp] theorem bankShort_silentList (b : BranchId) : (bankShort b s).silentList = s.silentList := by
  simp [bankShort]
@[simp] theorem bankShort_retireList (b : BranchId) : (bankShort b s).retireList = s.retireList := by
  simp [bankShort]
@[simp] theorem bankShort_branches (b : BranchId) : (bankShort b s).branches = s.branches := by
  simp [bankShort]
@[simp] theorem bankShort_urgencyMap (b : BranchId) : (bankShort b s).urgencyMap = s.urgencyMap := by
  simp [bankShort]
@[simp] theorem bankShort_arbiter (b : BranchId) : (bankShort b s).arbiter = s.arbiter := by
  simp [bankShort]
@[simp] theorem bankShort_engine (b : BranchId) : (bankShort b s).engine = s.engine := by
  simp [bankShort]
@[simp] theorem bankShort_list (b : BranchId) : (bankShort b s).list = s.list := by
  simp [bankShort]
@[simp] theorem bankShort_stock (b : BranchId) : (bankShort b s).stock = s.stock := by
  simp [bankShort]
@[simp] theorem bankShort_monitor (b : BranchId) : (bankShort b s).monitor = s.monitor := by
  simp [bankShort]
@[simp] theorem bankShort_notices (b : BranchId) : (bankShort b s).notices = s.notices := by
  simp [bankShort]
@[simp] theorem bankShort_operations (b : BranchId) : (bankShort b s).operations = s.operations := by
  simp [bankShort]
@[simp] theorem bankShort_audit (b : BranchId) : (bankShort b s).audit = s.audit := by
  simp [bankShort]
@[simp] theorem bankShort_pending (b : BranchId) : (bankShort b s).pending = s.pending := by
  simp [bankShort]

/-! ## bankSales -/

@[simp] theorem bankSales_powered (b : BranchId) (n : Nat) : (bankSales b n s).powered = s.powered := by
  simp [bankSales]
@[simp] theorem bankSales_timeBase (b : BranchId) (n : Nat) : (bankSales b n s).timeBase = s.timeBase := by
  simp [bankSales]
@[simp] theorem bankSales_pool (b : BranchId) (n : Nat) : (bankSales b n s).pool = s.pool := by
  simp [bankSales]
@[simp] theorem bankSales_meters (b : BranchId) (n : Nat) : (bankSales b n s).meters = s.meters := by
  simp [bankSales]
@[simp] theorem bankSales_silentList (b : BranchId) (n : Nat) : (bankSales b n s).silentList = s.silentList := by
  simp [bankSales]
@[simp] theorem bankSales_retireList (b : BranchId) (n : Nat) : (bankSales b n s).retireList = s.retireList := by
  simp [bankSales]
@[simp] theorem bankSales_branches (b : BranchId) (n : Nat) : (bankSales b n s).branches = s.branches := by
  simp [bankSales]
@[simp] theorem bankSales_urgencyMap (b : BranchId) (n : Nat) : (bankSales b n s).urgencyMap = s.urgencyMap := by
  simp [bankSales]
@[simp] theorem bankSales_arbiter (b : BranchId) (n : Nat) : (bankSales b n s).arbiter = s.arbiter := by
  simp [bankSales]
@[simp] theorem bankSales_engine (b : BranchId) (n : Nat) : (bankSales b n s).engine = s.engine := by
  simp [bankSales]
@[simp] theorem bankSales_list (b : BranchId) (n : Nat) : (bankSales b n s).list = s.list := by
  simp [bankSales]
@[simp] theorem bankSales_stock (b : BranchId) (n : Nat) : (bankSales b n s).stock = s.stock := by
  simp [bankSales]
@[simp] theorem bankSales_monitor (b : BranchId) (n : Nat) : (bankSales b n s).monitor = s.monitor := by
  simp [bankSales]
@[simp] theorem bankSales_notices (b : BranchId) (n : Nat) : (bankSales b n s).notices = s.notices := by
  simp [bankSales]
@[simp] theorem bankSales_operations (b : BranchId) (n : Nat) : (bankSales b n s).operations = s.operations := by
  simp [bankSales]
@[simp] theorem bankSales_audit (b : BranchId) (n : Nat) : (bankSales b n s).audit = s.audit := by
  simp [bankSales]
@[simp] theorem bankSales_pending (b : BranchId) (n : Nat) : (bankSales b n s).pending = s.pending := by
  simp [bankSales]

/-! ## bankSpoilage -/

@[simp] theorem bankSpoilage_powered (b : BranchId) (n : Nat) : (bankSpoilage b n s).powered = s.powered := by
  simp [bankSpoilage]
@[simp] theorem bankSpoilage_timeBase (b : BranchId) (n : Nat) : (bankSpoilage b n s).timeBase = s.timeBase := by
  simp [bankSpoilage]
@[simp] theorem bankSpoilage_pool (b : BranchId) (n : Nat) : (bankSpoilage b n s).pool = s.pool := by
  simp [bankSpoilage]
@[simp] theorem bankSpoilage_meters (b : BranchId) (n : Nat) : (bankSpoilage b n s).meters = s.meters := by
  simp [bankSpoilage]
@[simp] theorem bankSpoilage_silentList (b : BranchId) (n : Nat) : (bankSpoilage b n s).silentList = s.silentList := by
  simp [bankSpoilage]
@[simp] theorem bankSpoilage_retireList (b : BranchId) (n : Nat) : (bankSpoilage b n s).retireList = s.retireList := by
  simp [bankSpoilage]
@[simp] theorem bankSpoilage_branches (b : BranchId) (n : Nat) : (bankSpoilage b n s).branches = s.branches := by
  simp [bankSpoilage]
@[simp] theorem bankSpoilage_urgencyMap (b : BranchId) (n : Nat) : (bankSpoilage b n s).urgencyMap = s.urgencyMap := by
  simp [bankSpoilage]
@[simp] theorem bankSpoilage_arbiter (b : BranchId) (n : Nat) : (bankSpoilage b n s).arbiter = s.arbiter := by
  simp [bankSpoilage]
@[simp] theorem bankSpoilage_engine (b : BranchId) (n : Nat) : (bankSpoilage b n s).engine = s.engine := by
  simp [bankSpoilage]
@[simp] theorem bankSpoilage_list (b : BranchId) (n : Nat) : (bankSpoilage b n s).list = s.list := by
  simp [bankSpoilage]
@[simp] theorem bankSpoilage_stock (b : BranchId) (n : Nat) : (bankSpoilage b n s).stock = s.stock := by
  simp [bankSpoilage]
@[simp] theorem bankSpoilage_monitor (b : BranchId) (n : Nat) : (bankSpoilage b n s).monitor = s.monitor := by
  simp [bankSpoilage]
@[simp] theorem bankSpoilage_notices (b : BranchId) (n : Nat) : (bankSpoilage b n s).notices = s.notices := by
  simp [bankSpoilage]
@[simp] theorem bankSpoilage_operations (b : BranchId) (n : Nat) : (bankSpoilage b n s).operations = s.operations := by
  simp [bankSpoilage]
@[simp] theorem bankSpoilage_audit (b : BranchId) (n : Nat) : (bankSpoilage b n s).audit = s.audit := by
  simp [bankSpoilage]
@[simp] theorem bankSpoilage_pending (b : BranchId) (n : Nat) : (bankSpoilage b n s).pending = s.pending := by
  simp [bankSpoilage]

/-! ## bankVariance -/

@[simp] theorem bankVariance_powered (b : BranchId) (n : Int) : (bankVariance b n s).powered = s.powered := by
  simp [bankVariance]
@[simp] theorem bankVariance_timeBase (b : BranchId) (n : Int) : (bankVariance b n s).timeBase = s.timeBase := by
  simp [bankVariance]
@[simp] theorem bankVariance_pool (b : BranchId) (n : Int) : (bankVariance b n s).pool = s.pool := by
  simp [bankVariance]
@[simp] theorem bankVariance_meters (b : BranchId) (n : Int) : (bankVariance b n s).meters = s.meters := by
  simp [bankVariance]
@[simp] theorem bankVariance_silentList (b : BranchId) (n : Int) : (bankVariance b n s).silentList = s.silentList := by
  simp [bankVariance]
@[simp] theorem bankVariance_retireList (b : BranchId) (n : Int) : (bankVariance b n s).retireList = s.retireList := by
  simp [bankVariance]
@[simp] theorem bankVariance_branches (b : BranchId) (n : Int) : (bankVariance b n s).branches = s.branches := by
  simp [bankVariance]
@[simp] theorem bankVariance_urgencyMap (b : BranchId) (n : Int) : (bankVariance b n s).urgencyMap = s.urgencyMap := by
  simp [bankVariance]
@[simp] theorem bankVariance_arbiter (b : BranchId) (n : Int) : (bankVariance b n s).arbiter = s.arbiter := by
  simp [bankVariance]
@[simp] theorem bankVariance_engine (b : BranchId) (n : Int) : (bankVariance b n s).engine = s.engine := by
  simp [bankVariance]
@[simp] theorem bankVariance_list (b : BranchId) (n : Int) : (bankVariance b n s).list = s.list := by
  simp [bankVariance]
@[simp] theorem bankVariance_stock (b : BranchId) (n : Int) : (bankVariance b n s).stock = s.stock := by
  simp [bankVariance]
@[simp] theorem bankVariance_monitor (b : BranchId) (n : Int) : (bankVariance b n s).monitor = s.monitor := by
  simp [bankVariance]
@[simp] theorem bankVariance_notices (b : BranchId) (n : Int) : (bankVariance b n s).notices = s.notices := by
  simp [bankVariance]
@[simp] theorem bankVariance_operations (b : BranchId) (n : Int) : (bankVariance b n s).operations = s.operations := by
  simp [bankVariance]
@[simp] theorem bankVariance_audit (b : BranchId) (n : Int) : (bankVariance b n s).audit = s.audit := by
  simp [bankVariance]
@[simp] theorem bankVariance_pending (b : BranchId) (n : Int) : (bankVariance b n s).pending = s.pending := by
  simp [bankVariance]

/-! ## bankDeposit -/

@[simp] theorem bankDeposit_powered (n : Nat) : (bankDeposit n s).powered = s.powered := by
  simp [bankDeposit]
@[simp] theorem bankDeposit_timeBase (n : Nat) : (bankDeposit n s).timeBase = s.timeBase := by
  simp [bankDeposit]
@[simp] theorem bankDeposit_pool (n : Nat) : (bankDeposit n s).pool = s.pool := by
  simp [bankDeposit]
@[simp] theorem bankDeposit_meters (n : Nat) : (bankDeposit n s).meters = s.meters := by
  simp [bankDeposit]
@[simp] theorem bankDeposit_silentList (n : Nat) : (bankDeposit n s).silentList = s.silentList := by
  simp [bankDeposit]
@[simp] theorem bankDeposit_retireList (n : Nat) : (bankDeposit n s).retireList = s.retireList := by
  simp [bankDeposit]
@[simp] theorem bankDeposit_branches (n : Nat) : (bankDeposit n s).branches = s.branches := by
  simp [bankDeposit]
@[simp] theorem bankDeposit_urgencyMap (n : Nat) : (bankDeposit n s).urgencyMap = s.urgencyMap := by
  simp [bankDeposit]
@[simp] theorem bankDeposit_arbiter (n : Nat) : (bankDeposit n s).arbiter = s.arbiter := by
  simp [bankDeposit]
@[simp] theorem bankDeposit_engine (n : Nat) : (bankDeposit n s).engine = s.engine := by
  simp [bankDeposit]
@[simp] theorem bankDeposit_list (n : Nat) : (bankDeposit n s).list = s.list := by
  simp [bankDeposit]
@[simp] theorem bankDeposit_stock (n : Nat) : (bankDeposit n s).stock = s.stock := by
  simp [bankDeposit]
@[simp] theorem bankDeposit_monitor (n : Nat) : (bankDeposit n s).monitor = s.monitor := by
  simp [bankDeposit]
@[simp] theorem bankDeposit_notices (n : Nat) : (bankDeposit n s).notices = s.notices := by
  simp [bankDeposit]
@[simp] theorem bankDeposit_operations (n : Nat) : (bankDeposit n s).operations = s.operations := by
  simp [bankDeposit]
@[simp] theorem bankDeposit_audit (n : Nat) : (bankDeposit n s).audit = s.audit := by
  simp [bankDeposit]
@[simp] theorem bankDeposit_pending (n : Nat) : (bankDeposit n s).pending = s.pending := by
  simp [bankDeposit]

/-! ## bankRefund -/

@[simp] theorem bankRefund_powered (n : Nat) : (bankRefund n s).powered = s.powered := by
  simp [bankRefund]
@[simp] theorem bankRefund_timeBase (n : Nat) : (bankRefund n s).timeBase = s.timeBase := by
  simp [bankRefund]
@[simp] theorem bankRefund_pool (n : Nat) : (bankRefund n s).pool = s.pool := by
  simp [bankRefund]
@[simp] theorem bankRefund_meters (n : Nat) : (bankRefund n s).meters = s.meters := by
  simp [bankRefund]
@[simp] theorem bankRefund_silentList (n : Nat) : (bankRefund n s).silentList = s.silentList := by
  simp [bankRefund]
@[simp] theorem bankRefund_retireList (n : Nat) : (bankRefund n s).retireList = s.retireList := by
  simp [bankRefund]
@[simp] theorem bankRefund_branches (n : Nat) : (bankRefund n s).branches = s.branches := by
  simp [bankRefund]
@[simp] theorem bankRefund_urgencyMap (n : Nat) : (bankRefund n s).urgencyMap = s.urgencyMap := by
  simp [bankRefund]
@[simp] theorem bankRefund_arbiter (n : Nat) : (bankRefund n s).arbiter = s.arbiter := by
  simp [bankRefund]
@[simp] theorem bankRefund_engine (n : Nat) : (bankRefund n s).engine = s.engine := by
  simp [bankRefund]
@[simp] theorem bankRefund_list (n : Nat) : (bankRefund n s).list = s.list := by
  simp [bankRefund]
@[simp] theorem bankRefund_stock (n : Nat) : (bankRefund n s).stock = s.stock := by
  simp [bankRefund]
@[simp] theorem bankRefund_monitor (n : Nat) : (bankRefund n s).monitor = s.monitor := by
  simp [bankRefund]
@[simp] theorem bankRefund_notices (n : Nat) : (bankRefund n s).notices = s.notices := by
  simp [bankRefund]
@[simp] theorem bankRefund_operations (n : Nat) : (bankRefund n s).operations = s.operations := by
  simp [bankRefund]
@[simp] theorem bankRefund_audit (n : Nat) : (bankRefund n s).audit = s.audit := by
  simp [bankRefund]
@[simp] theorem bankRefund_pending (n : Nat) : (bankRefund n s).pending = s.pending := by
  simp [bankRefund]

/-! ## bankPurchase -/

@[simp] theorem bankPurchase_powered (n : Nat) : (bankPurchase n s).powered = s.powered := by
  simp [bankPurchase]
@[simp] theorem bankPurchase_timeBase (n : Nat) : (bankPurchase n s).timeBase = s.timeBase := by
  simp [bankPurchase]
@[simp] theorem bankPurchase_pool (n : Nat) : (bankPurchase n s).pool = s.pool := by
  simp [bankPurchase]
@[simp] theorem bankPurchase_meters (n : Nat) : (bankPurchase n s).meters = s.meters := by
  simp [bankPurchase]
@[simp] theorem bankPurchase_silentList (n : Nat) : (bankPurchase n s).silentList = s.silentList := by
  simp [bankPurchase]
@[simp] theorem bankPurchase_retireList (n : Nat) : (bankPurchase n s).retireList = s.retireList := by
  simp [bankPurchase]
@[simp] theorem bankPurchase_branches (n : Nat) : (bankPurchase n s).branches = s.branches := by
  simp [bankPurchase]
@[simp] theorem bankPurchase_urgencyMap (n : Nat) : (bankPurchase n s).urgencyMap = s.urgencyMap := by
  simp [bankPurchase]
@[simp] theorem bankPurchase_arbiter (n : Nat) : (bankPurchase n s).arbiter = s.arbiter := by
  simp [bankPurchase]
@[simp] theorem bankPurchase_engine (n : Nat) : (bankPurchase n s).engine = s.engine := by
  simp [bankPurchase]
@[simp] theorem bankPurchase_list (n : Nat) : (bankPurchase n s).list = s.list := by
  simp [bankPurchase]
@[simp] theorem bankPurchase_stock (n : Nat) : (bankPurchase n s).stock = s.stock := by
  simp [bankPurchase]
@[simp] theorem bankPurchase_monitor (n : Nat) : (bankPurchase n s).monitor = s.monitor := by
  simp [bankPurchase]
@[simp] theorem bankPurchase_notices (n : Nat) : (bankPurchase n s).notices = s.notices := by
  simp [bankPurchase]
@[simp] theorem bankPurchase_operations (n : Nat) : (bankPurchase n s).operations = s.operations := by
  simp [bankPurchase]
@[simp] theorem bankPurchase_audit (n : Nat) : (bankPurchase n s).audit = s.audit := by
  simp [bankPurchase]
@[simp] theorem bankPurchase_pending (n : Nat) : (bankPurchase n s).pending = s.pending := by
  simp [bankPurchase]

/-! ## bankSweep -/

@[simp] theorem bankSweep_powered (n : Nat) : (bankSweep n s).powered = s.powered := by
  simp [bankSweep]
@[simp] theorem bankSweep_timeBase (n : Nat) : (bankSweep n s).timeBase = s.timeBase := by
  simp [bankSweep]
@[simp] theorem bankSweep_pool (n : Nat) : (bankSweep n s).pool = s.pool := by
  simp [bankSweep]
@[simp] theorem bankSweep_meters (n : Nat) : (bankSweep n s).meters = s.meters := by
  simp [bankSweep]
@[simp] theorem bankSweep_silentList (n : Nat) : (bankSweep n s).silentList = s.silentList := by
  simp [bankSweep]
@[simp] theorem bankSweep_retireList (n : Nat) : (bankSweep n s).retireList = s.retireList := by
  simp [bankSweep]
@[simp] theorem bankSweep_branches (n : Nat) : (bankSweep n s).branches = s.branches := by
  simp [bankSweep]
@[simp] theorem bankSweep_urgencyMap (n : Nat) : (bankSweep n s).urgencyMap = s.urgencyMap := by
  simp [bankSweep]
@[simp] theorem bankSweep_arbiter (n : Nat) : (bankSweep n s).arbiter = s.arbiter := by
  simp [bankSweep]
@[simp] theorem bankSweep_engine (n : Nat) : (bankSweep n s).engine = s.engine := by
  simp [bankSweep]
@[simp] theorem bankSweep_list (n : Nat) : (bankSweep n s).list = s.list := by
  simp [bankSweep]
@[simp] theorem bankSweep_stock (n : Nat) : (bankSweep n s).stock = s.stock := by
  simp [bankSweep]
@[simp] theorem bankSweep_monitor (n : Nat) : (bankSweep n s).monitor = s.monitor := by
  simp [bankSweep]
@[simp] theorem bankSweep_notices (n : Nat) : (bankSweep n s).notices = s.notices := by
  simp [bankSweep]
@[simp] theorem bankSweep_operations (n : Nat) : (bankSweep n s).operations = s.operations := by
  simp [bankSweep]
@[simp] theorem bankSweep_audit (n : Nat) : (bankSweep n s).audit = s.audit := by
  simp [bankSweep]
@[simp] theorem bankSweep_pending (n : Nat) : (bankSweep n s).pending = s.pending := by
  simp [bankSweep]

/-! ## bankAdjustment -/

@[simp] theorem bankAdjustment_powered (n : Int) : (bankAdjustment n s).powered = s.powered := by
  simp [bankAdjustment]
@[simp] theorem bankAdjustment_timeBase (n : Int) : (bankAdjustment n s).timeBase = s.timeBase := by
  simp [bankAdjustment]
@[simp] theorem bankAdjustment_pool (n : Int) : (bankAdjustment n s).pool = s.pool := by
  simp [bankAdjustment]
@[simp] theorem bankAdjustment_meters (n : Int) : (bankAdjustment n s).meters = s.meters := by
  simp [bankAdjustment]
@[simp] theorem bankAdjustment_silentList (n : Int) : (bankAdjustment n s).silentList = s.silentList := by
  simp [bankAdjustment]
@[simp] theorem bankAdjustment_retireList (n : Int) : (bankAdjustment n s).retireList = s.retireList := by
  simp [bankAdjustment]
@[simp] theorem bankAdjustment_branches (n : Int) : (bankAdjustment n s).branches = s.branches := by
  simp [bankAdjustment]
@[simp] theorem bankAdjustment_urgencyMap (n : Int) : (bankAdjustment n s).urgencyMap = s.urgencyMap := by
  simp [bankAdjustment]
@[simp] theorem bankAdjustment_arbiter (n : Int) : (bankAdjustment n s).arbiter = s.arbiter := by
  simp [bankAdjustment]
@[simp] theorem bankAdjustment_engine (n : Int) : (bankAdjustment n s).engine = s.engine := by
  simp [bankAdjustment]
@[simp] theorem bankAdjustment_list (n : Int) : (bankAdjustment n s).list = s.list := by
  simp [bankAdjustment]
@[simp] theorem bankAdjustment_stock (n : Int) : (bankAdjustment n s).stock = s.stock := by
  simp [bankAdjustment]
@[simp] theorem bankAdjustment_monitor (n : Int) : (bankAdjustment n s).monitor = s.monitor := by
  simp [bankAdjustment]
@[simp] theorem bankAdjustment_notices (n : Int) : (bankAdjustment n s).notices = s.notices := by
  simp [bankAdjustment]
@[simp] theorem bankAdjustment_operations (n : Int) : (bankAdjustment n s).operations = s.operations := by
  simp [bankAdjustment]
@[simp] theorem bankAdjustment_audit (n : Int) : (bankAdjustment n s).audit = s.audit := by
  simp [bankAdjustment]
@[simp] theorem bankAdjustment_pending (n : Int) : (bankAdjustment n s).pending = s.pending := by
  simp [bankAdjustment]

/-! ## reachTime -/

@[simp] theorem reachTime_powered (e : Word32) : (reachTime e s).powered = s.powered := by
  unfold reachTime; (repeat' split) <;> simp
@[simp] theorem reachTime_pool (e : Word32) : (reachTime e s).pool = s.pool := by
  unfold reachTime; (repeat' split) <;> simp
@[simp] theorem reachTime_meters (e : Word32) : (reachTime e s).meters = s.meters := by
  unfold reachTime; (repeat' split) <;> simp
@[simp] theorem reachTime_silentList (e : Word32) : (reachTime e s).silentList = s.silentList := by
  unfold reachTime; (repeat' split) <;> simp
@[simp] theorem reachTime_retireList (e : Word32) : (reachTime e s).retireList = s.retireList := by
  unfold reachTime; (repeat' split) <;> simp
@[simp] theorem reachTime_branches (e : Word32) : (reachTime e s).branches = s.branches := by
  unfold reachTime; (repeat' split) <;> simp
@[simp] theorem reachTime_urgencyMap (e : Word32) : (reachTime e s).urgencyMap = s.urgencyMap := by
  unfold reachTime; (repeat' split) <;> simp
@[simp] theorem reachTime_arbiter (e : Word32) : (reachTime e s).arbiter = s.arbiter := by
  unfold reachTime; (repeat' split) <;> simp
@[simp] theorem reachTime_engine (e : Word32) : (reachTime e s).engine = s.engine := by
  unfold reachTime; (repeat' split) <;> simp
@[simp] theorem reachTime_list (e : Word32) : (reachTime e s).list = s.list := by
  unfold reachTime; (repeat' split) <;> simp
@[simp] theorem reachTime_stock (e : Word32) : (reachTime e s).stock = s.stock := by
  unfold reachTime; (repeat' split) <;> simp
@[simp] theorem reachTime_periods (e : Word32) : (reachTime e s).periods = s.periods := by
  unfold reachTime; (repeat' split) <;> simp
@[simp] theorem reachTime_monitor (e : Word32) : (reachTime e s).monitor = s.monitor := by
  unfold reachTime; (repeat' split) <;> simp
@[simp] theorem reachTime_notices (e : Word32) : (reachTime e s).notices = s.notices := by
  unfold reachTime; (repeat' split) <;> simp
@[simp] theorem reachTime_operations (e : Word32) : (reachTime e s).operations = s.operations := by
  unfold reachTime; (repeat' split) <;> simp
@[simp] theorem reachTime_audit (e : Word32) : (reachTime e s).audit = s.audit := by
  unfold reachTime; (repeat' split) <;> simp
@[simp] theorem reachTime_pending (e : Word32) : (reachTime e s).pending = s.pending := by
  unfold reachTime; (repeat' split) <;> simp

/-! ## removeRequest -/

@[simp] theorem removeRequest_powered (m : MeterId) : (removeRequest m s).powered = s.powered := by
  simp [removeRequest]
@[simp] theorem removeRequest_timeBase (m : MeterId) : (removeRequest m s).timeBase = s.timeBase := by
  simp [removeRequest]
@[simp] theorem removeRequest_pool (m : MeterId) : (removeRequest m s).pool = s.pool := by
  simp [removeRequest]
@[simp] theorem removeRequest_silentList (m : MeterId) : (removeRequest m s).silentList = s.silentList := by
  simp [removeRequest]
@[simp] theorem removeRequest_retireList (m : MeterId) : (removeRequest m s).retireList = s.retireList := by
  simp [removeRequest]
@[simp] theorem removeRequest_urgencyMap (m : MeterId) : (removeRequest m s).urgencyMap = s.urgencyMap := by
  simp [removeRequest]
@[simp] theorem removeRequest_arbiter (m : MeterId) : (removeRequest m s).arbiter = s.arbiter := by
  simp [removeRequest]
@[simp] theorem removeRequest_engine (m : MeterId) : (removeRequest m s).engine = s.engine := by
  simp [removeRequest]
@[simp] theorem removeRequest_list (m : MeterId) : (removeRequest m s).list = s.list := by
  simp [removeRequest]
@[simp] theorem removeRequest_stock (m : MeterId) : (removeRequest m s).stock = s.stock := by
  simp [removeRequest]
@[simp] theorem removeRequest_periods (m : MeterId) : (removeRequest m s).periods = s.periods := by
  simp [removeRequest]
@[simp] theorem removeRequest_monitor (m : MeterId) : (removeRequest m s).monitor = s.monitor := by
  simp [removeRequest]
@[simp] theorem removeRequest_notices (m : MeterId) : (removeRequest m s).notices = s.notices := by
  simp [removeRequest]
@[simp] theorem removeRequest_operations (m : MeterId) : (removeRequest m s).operations = s.operations := by
  simp [removeRequest]
@[simp] theorem removeRequest_audit (m : MeterId) : (removeRequest m s).audit = s.audit := by
  simp [removeRequest]
@[simp] theorem removeRequest_pending (m : MeterId) : (removeRequest m s).pending = s.pending := by
  simp [removeRequest]

/-! ## dropRequest -/

@[simp] theorem dropRequest_powered (m : MeterId) : (dropRequest m s).powered = s.powered := by
  unfold dropRequest; (repeat' split) <;> simp
@[simp] theorem dropRequest_timeBase (m : MeterId) : (dropRequest m s).timeBase = s.timeBase := by
  unfold dropRequest; (repeat' split) <;> simp
@[simp] theorem dropRequest_pool (m : MeterId) : (dropRequest m s).pool = s.pool := by
  unfold dropRequest; (repeat' split) <;> simp
@[simp] theorem dropRequest_silentList (m : MeterId) : (dropRequest m s).silentList = s.silentList := by
  unfold dropRequest; (repeat' split) <;> simp
@[simp] theorem dropRequest_retireList (m : MeterId) : (dropRequest m s).retireList = s.retireList := by
  unfold dropRequest; (repeat' split) <;> simp
@[simp] theorem dropRequest_urgencyMap (m : MeterId) : (dropRequest m s).urgencyMap = s.urgencyMap := by
  unfold dropRequest; (repeat' split) <;> simp
@[simp] theorem dropRequest_arbiter (m : MeterId) : (dropRequest m s).arbiter = s.arbiter := by
  unfold dropRequest; (repeat' split) <;> simp
@[simp] theorem dropRequest_engine (m : MeterId) : (dropRequest m s).engine = s.engine := by
  unfold dropRequest; (repeat' split) <;> simp
@[simp] theorem dropRequest_list (m : MeterId) : (dropRequest m s).list = s.list := by
  unfold dropRequest; (repeat' split) <;> simp
@[simp] theorem dropRequest_stock (m : MeterId) : (dropRequest m s).stock = s.stock := by
  unfold dropRequest; (repeat' split) <;> simp
@[simp] theorem dropRequest_periods (m : MeterId) : (dropRequest m s).periods = s.periods := by
  unfold dropRequest; (repeat' split) <;> simp
@[simp] theorem dropRequest_monitor (m : MeterId) : (dropRequest m s).monitor = s.monitor := by
  unfold dropRequest; (repeat' split) <;> simp
@[simp] theorem dropRequest_notices (m : MeterId) : (dropRequest m s).notices = s.notices := by
  unfold dropRequest; (repeat' split) <;> simp
@[simp] theorem dropRequest_operations (m : MeterId) : (dropRequest m s).operations = s.operations := by
  unfold dropRequest; (repeat' split) <;> simp
@[simp] theorem dropRequest_audit (m : MeterId) : (dropRequest m s).audit = s.audit := by
  unfold dropRequest; (repeat' split) <;> simp
@[simp] theorem dropRequest_pending (m : MeterId) : (dropRequest m s).pending = s.pending := by
  unfold dropRequest; (repeat' split) <;> simp

/-! ## dropAllRequests -/

@[simp] theorem dropAllRequests_powered  : (dropAllRequests s).powered = s.powered := by
  simp [dropAllRequests]
@[simp] theorem dropAllRequests_timeBase  : (dropAllRequests s).timeBase = s.timeBase := by
  simp [dropAllRequests]
@[simp] theorem dropAllRequests_pool  : (dropAllRequests s).pool = s.pool := by
  simp [dropAllRequests]
@[simp] theorem dropAllRequests_silentList  : (dropAllRequests s).silentList = s.silentList := by
  simp [dropAllRequests]
@[simp] theorem dropAllRequests_retireList  : (dropAllRequests s).retireList = s.retireList := by
  simp [dropAllRequests]
@[simp] theorem dropAllRequests_urgencyMap  : (dropAllRequests s).urgencyMap = s.urgencyMap := by
  simp [dropAllRequests]
@[simp] theorem dropAllRequests_arbiter  : (dropAllRequests s).arbiter = s.arbiter := by
  simp [dropAllRequests]
@[simp] theorem dropAllRequests_engine  : (dropAllRequests s).engine = s.engine := by
  simp [dropAllRequests]
@[simp] theorem dropAllRequests_list  : (dropAllRequests s).list = s.list := by
  simp [dropAllRequests]
@[simp] theorem dropAllRequests_stock  : (dropAllRequests s).stock = s.stock := by
  simp [dropAllRequests]
@[simp] theorem dropAllRequests_periods  : (dropAllRequests s).periods = s.periods := by
  simp [dropAllRequests]
@[simp] theorem dropAllRequests_monitor  : (dropAllRequests s).monitor = s.monitor := by
  simp [dropAllRequests]
@[simp] theorem dropAllRequests_notices  : (dropAllRequests s).notices = s.notices := by
  simp [dropAllRequests]
@[simp] theorem dropAllRequests_operations  : (dropAllRequests s).operations = s.operations := by
  simp [dropAllRequests]
@[simp] theorem dropAllRequests_audit  : (dropAllRequests s).audit = s.audit := by
  simp [dropAllRequests]
@[simp] theorem dropAllRequests_pending  : (dropAllRequests s).pending = s.pending := by
  simp [dropAllRequests]

/-! ## enterSuspended -/

@[simp] theorem enterSuspended_powered (m : MeterId) : (enterSuspended m s).powered = s.powered := by
  simp [enterSuspended]
@[simp] theorem enterSuspended_timeBase (m : MeterId) : (enterSuspended m s).timeBase = s.timeBase := by
  simp [enterSuspended]
@[simp] theorem enterSuspended_pool (m : MeterId) : (enterSuspended m s).pool = s.pool := by
  simp [enterSuspended]
@[simp] theorem enterSuspended_silentList (m : MeterId) : (enterSuspended m s).silentList = s.silentList := by
  simp [enterSuspended]
@[simp] theorem enterSuspended_retireList (m : MeterId) : (enterSuspended m s).retireList = s.retireList := by
  simp [enterSuspended]
@[simp] theorem enterSuspended_urgencyMap (m : MeterId) : (enterSuspended m s).urgencyMap = s.urgencyMap := by
  simp [enterSuspended]
@[simp] theorem enterSuspended_arbiter (m : MeterId) : (enterSuspended m s).arbiter = s.arbiter := by
  simp [enterSuspended]
@[simp] theorem enterSuspended_engine (m : MeterId) : (enterSuspended m s).engine = s.engine := by
  simp [enterSuspended]
@[simp] theorem enterSuspended_list (m : MeterId) : (enterSuspended m s).list = s.list := by
  simp [enterSuspended]
@[simp] theorem enterSuspended_stock (m : MeterId) : (enterSuspended m s).stock = s.stock := by
  simp [enterSuspended]
@[simp] theorem enterSuspended_periods (m : MeterId) : (enterSuspended m s).periods = s.periods := by
  simp [enterSuspended]
@[simp] theorem enterSuspended_monitor (m : MeterId) : (enterSuspended m s).monitor = s.monitor := by
  simp [enterSuspended]
@[simp] theorem enterSuspended_notices (m : MeterId) : (enterSuspended m s).notices = s.notices := by
  simp [enterSuspended]
@[simp] theorem enterSuspended_operations (m : MeterId) : (enterSuspended m s).operations = s.operations := by
  simp [enterSuspended]
@[simp] theorem enterSuspended_audit (m : MeterId) : (enterSuspended m s).audit = s.audit := by
  simp [enterSuspended]
@[simp] theorem enterSuspended_pending (m : MeterId) : (enterSuspended m s).pending = s.pending := by
  simp [enterSuspended]

/-! ## suspendByFault -/

@[simp] theorem suspendByFault_powered (m : MeterId) : (suspendByFault m s).powered = s.powered := by
  unfold suspendByFault; (repeat' split) <;> simp
@[simp] theorem suspendByFault_timeBase (m : MeterId) : (suspendByFault m s).timeBase = s.timeBase := by
  unfold suspendByFault; (repeat' split) <;> simp
@[simp] theorem suspendByFault_pool (m : MeterId) : (suspendByFault m s).pool = s.pool := by
  unfold suspendByFault; (repeat' split) <;> simp
@[simp] theorem suspendByFault_silentList (m : MeterId) : (suspendByFault m s).silentList = s.silentList := by
  unfold suspendByFault; (repeat' split) <;> simp
@[simp] theorem suspendByFault_retireList (m : MeterId) : (suspendByFault m s).retireList = s.retireList := by
  unfold suspendByFault; (repeat' split) <;> simp
@[simp] theorem suspendByFault_urgencyMap (m : MeterId) : (suspendByFault m s).urgencyMap = s.urgencyMap := by
  unfold suspendByFault; (repeat' split) <;> simp
@[simp] theorem suspendByFault_arbiter (m : MeterId) : (suspendByFault m s).arbiter = s.arbiter := by
  unfold suspendByFault; (repeat' split) <;> simp
@[simp] theorem suspendByFault_engine (m : MeterId) : (suspendByFault m s).engine = s.engine := by
  unfold suspendByFault; (repeat' split) <;> simp
@[simp] theorem suspendByFault_list (m : MeterId) : (suspendByFault m s).list = s.list := by
  unfold suspendByFault; (repeat' split) <;> simp
@[simp] theorem suspendByFault_stock (m : MeterId) : (suspendByFault m s).stock = s.stock := by
  unfold suspendByFault; (repeat' split) <;> simp
@[simp] theorem suspendByFault_periods (m : MeterId) : (suspendByFault m s).periods = s.periods := by
  unfold suspendByFault; (repeat' split) <;> simp
@[simp] theorem suspendByFault_monitor (m : MeterId) : (suspendByFault m s).monitor = s.monitor := by
  unfold suspendByFault; (repeat' split) <;> simp
@[simp] theorem suspendByFault_notices (m : MeterId) : (suspendByFault m s).notices = s.notices := by
  unfold suspendByFault; (repeat' split) <;> simp
@[simp] theorem suspendByFault_operations (m : MeterId) : (suspendByFault m s).operations = s.operations := by
  unfold suspendByFault; (repeat' split) <;> simp
@[simp] theorem suspendByFault_audit (m : MeterId) : (suspendByFault m s).audit = s.audit := by
  unfold suspendByFault; (repeat' split) <;> simp
@[simp] theorem suspendByFault_pending (m : MeterId) : (suspendByFault m s).pending = s.pending := by
  unfold suspendByFault; (repeat' split) <;> simp

/-! ## haltList -/

@[simp] theorem haltList_powered  : (haltList s).powered = s.powered := by
  simp [haltList]
@[simp] theorem haltList_timeBase  : (haltList s).timeBase = s.timeBase := by
  simp [haltList]
@[simp] theorem haltList_pool  : (haltList s).pool = s.pool := by
  simp [haltList]
@[simp] theorem haltList_meters  : (haltList s).meters = s.meters := by
  simp [haltList]
@[simp] theorem haltList_silentList  : (haltList s).silentList = s.silentList := by
  simp [haltList]
@[simp] theorem haltList_retireList  : (haltList s).retireList = s.retireList := by
  simp [haltList]
@[simp] theorem haltList_branches  : (haltList s).branches = s.branches := by
  simp [haltList]
@[simp] theorem haltList_urgencyMap  : (haltList s).urgencyMap = s.urgencyMap := by
  simp [haltList]
@[simp] theorem haltList_arbiter  : (haltList s).arbiter = s.arbiter := by
  simp [haltList]
@[simp] theorem haltList_engine  : (haltList s).engine = s.engine := by
  simp [haltList]
@[simp] theorem haltList_stock  : (haltList s).stock = s.stock := by
  simp [haltList]
@[simp] theorem haltList_periods  : (haltList s).periods = s.periods := by
  simp [haltList]
@[simp] theorem haltList_monitor  : (haltList s).monitor = s.monitor := by
  simp [haltList]
@[simp] theorem haltList_operations  : (haltList s).operations = s.operations := by
  simp [haltList]
@[simp] theorem haltList_audit  : (haltList s).audit = s.audit := by
  simp [haltList]
@[simp] theorem haltList_pending  : (haltList s).pending = s.pending := by
  simp [haltList]

/-! ## haltRunningList -/

@[simp] theorem haltRunningList_powered  : (haltRunningList s).powered = s.powered := by
  unfold haltRunningList; (repeat' split) <;> simp
@[simp] theorem haltRunningList_timeBase  : (haltRunningList s).timeBase = s.timeBase := by
  unfold haltRunningList; (repeat' split) <;> simp
@[simp] theorem haltRunningList_pool  : (haltRunningList s).pool = s.pool := by
  unfold haltRunningList; (repeat' split) <;> simp
@[simp] theorem haltRunningList_meters  : (haltRunningList s).meters = s.meters := by
  unfold haltRunningList; (repeat' split) <;> simp
@[simp] theorem haltRunningList_silentList  : (haltRunningList s).silentList = s.silentList := by
  unfold haltRunningList; (repeat' split) <;> simp
@[simp] theorem haltRunningList_retireList  : (haltRunningList s).retireList = s.retireList := by
  unfold haltRunningList; (repeat' split) <;> simp
@[simp] theorem haltRunningList_branches  : (haltRunningList s).branches = s.branches := by
  unfold haltRunningList; (repeat' split) <;> simp
@[simp] theorem haltRunningList_urgencyMap  : (haltRunningList s).urgencyMap = s.urgencyMap := by
  unfold haltRunningList; (repeat' split) <;> simp
@[simp] theorem haltRunningList_arbiter  : (haltRunningList s).arbiter = s.arbiter := by
  unfold haltRunningList; (repeat' split) <;> simp
@[simp] theorem haltRunningList_engine  : (haltRunningList s).engine = s.engine := by
  unfold haltRunningList; (repeat' split) <;> simp
@[simp] theorem haltRunningList_stock  : (haltRunningList s).stock = s.stock := by
  unfold haltRunningList; (repeat' split) <;> simp
@[simp] theorem haltRunningList_periods  : (haltRunningList s).periods = s.periods := by
  unfold haltRunningList; (repeat' split) <;> simp
@[simp] theorem haltRunningList_monitor  : (haltRunningList s).monitor = s.monitor := by
  unfold haltRunningList; (repeat' split) <;> simp
@[simp] theorem haltRunningList_operations  : (haltRunningList s).operations = s.operations := by
  unfold haltRunningList; (repeat' split) <;> simp
@[simp] theorem haltRunningList_audit  : (haltRunningList s).audit = s.audit := by
  unfold haltRunningList; (repeat' split) <;> simp
@[simp] theorem haltRunningList_pending  : (haltRunningList s).pending = s.pending := by
  unfold haltRunningList; (repeat' split) <;> simp

/-! ## enterLockdown -/

@[simp] theorem enterLockdown_powered  : (enterLockdown s).powered = s.powered := by
  simp [enterLockdown]
@[simp] theorem enterLockdown_timeBase  : (enterLockdown s).timeBase = s.timeBase := by
  simp [enterLockdown]
@[simp] theorem enterLockdown_pool  : (enterLockdown s).pool = s.pool := by
  simp [enterLockdown]
@[simp] theorem enterLockdown_silentList  : (enterLockdown s).silentList = s.silentList := by
  simp [enterLockdown]
@[simp] theorem enterLockdown_retireList  : (enterLockdown s).retireList = s.retireList := by
  simp [enterLockdown]
@[simp] theorem enterLockdown_urgencyMap  : (enterLockdown s).urgencyMap = s.urgencyMap := by
  simp [enterLockdown]
@[simp] theorem enterLockdown_arbiter  : (enterLockdown s).arbiter = s.arbiter := by
  simp [enterLockdown]
@[simp] theorem enterLockdown_stock  : (enterLockdown s).stock = s.stock := by
  simp [enterLockdown]
@[simp] theorem enterLockdown_periods  : (enterLockdown s).periods = s.periods := by
  simp [enterLockdown]
@[simp] theorem enterLockdown_operations  : (enterLockdown s).operations = s.operations := by
  simp [enterLockdown]
@[simp] theorem enterLockdown_audit  : (enterLockdown s).audit = s.audit := by
  simp [enterLockdown]
@[simp] theorem enterLockdown_pending  : (enterLockdown s).pending = s.pending := by
  simp [enterLockdown]

/-! ## raiseFault -/

@[simp] theorem raiseFault_powered (f : FaultRecord) : (raiseFault f s).powered = s.powered := by
  unfold raiseFault; dsimp only; (repeat' split) <;> simp
@[simp] theorem raiseFault_timeBase (f : FaultRecord) : (raiseFault f s).timeBase = s.timeBase := by
  unfold raiseFault; dsimp only; (repeat' split) <;> simp
@[simp] theorem raiseFault_pool (f : FaultRecord) : (raiseFault f s).pool = s.pool := by
  unfold raiseFault; dsimp only; (repeat' split) <;> simp
@[simp] theorem raiseFault_silentList (f : FaultRecord) : (raiseFault f s).silentList = s.silentList := by
  unfold raiseFault; dsimp only; (repeat' split) <;> simp
@[simp] theorem raiseFault_retireList (f : FaultRecord) : (raiseFault f s).retireList = s.retireList := by
  unfold raiseFault; dsimp only; (repeat' split) <;> simp
@[simp] theorem raiseFault_urgencyMap (f : FaultRecord) : (raiseFault f s).urgencyMap = s.urgencyMap := by
  unfold raiseFault; dsimp only; (repeat' split) <;> simp
@[simp] theorem raiseFault_arbiter (f : FaultRecord) : (raiseFault f s).arbiter = s.arbiter := by
  unfold raiseFault; dsimp only; (repeat' split) <;> simp
@[simp] theorem raiseFault_stock (f : FaultRecord) : (raiseFault f s).stock = s.stock := by
  unfold raiseFault; dsimp only; (repeat' split) <;> simp
@[simp] theorem raiseFault_periods (f : FaultRecord) : (raiseFault f s).periods = s.periods := by
  unfold raiseFault; dsimp only; (repeat' split) <;> simp
@[simp] theorem raiseFault_operations (f : FaultRecord) : (raiseFault f s).operations = s.operations := by
  unfold raiseFault; dsimp only; (repeat' split) <;> simp
@[simp] theorem raiseFault_audit (f : FaultRecord) : (raiseFault f s).audit = s.audit := by
  unfold raiseFault; dsimp only; (repeat' split) <;> simp
@[simp] theorem raiseFault_pending (f : FaultRecord) : (raiseFault f s).pending = s.pending := by
  unfold raiseFault; dsimp only; (repeat' split) <;> simp

/-! ## handFault -/

@[simp] theorem handFault_powered (f : FaultRecord) : (handFault f s).powered = s.powered := by
  unfold handFault; dsimp only; (repeat' split) <;> simp
@[simp] theorem handFault_timeBase (f : FaultRecord) : (handFault f s).timeBase = s.timeBase := by
  unfold handFault; dsimp only; (repeat' split) <;> simp
@[simp] theorem handFault_pool (f : FaultRecord) : (handFault f s).pool = s.pool := by
  unfold handFault; dsimp only; (repeat' split) <;> simp
@[simp] theorem handFault_silentList (f : FaultRecord) : (handFault f s).silentList = s.silentList := by
  unfold handFault; dsimp only; (repeat' split) <;> simp
@[simp] theorem handFault_retireList (f : FaultRecord) : (handFault f s).retireList = s.retireList := by
  unfold handFault; dsimp only; (repeat' split) <;> simp
@[simp] theorem handFault_urgencyMap (f : FaultRecord) : (handFault f s).urgencyMap = s.urgencyMap := by
  unfold handFault; dsimp only; (repeat' split) <;> simp
@[simp] theorem handFault_arbiter (f : FaultRecord) : (handFault f s).arbiter = s.arbiter := by
  unfold handFault; dsimp only; (repeat' split) <;> simp
@[simp] theorem handFault_stock (f : FaultRecord) : (handFault f s).stock = s.stock := by
  unfold handFault; dsimp only; (repeat' split) <;> simp
@[simp] theorem handFault_periods (f : FaultRecord) : (handFault f s).periods = s.periods := by
  unfold handFault; dsimp only; (repeat' split) <;> simp
@[simp] theorem handFault_operations (f : FaultRecord) : (handFault f s).operations = s.operations := by
  unfold handFault; dsimp only; (repeat' split) <;> simp
@[simp] theorem handFault_audit (f : FaultRecord) : (handFault f s).audit = s.audit := by
  unfold handFault; dsimp only; (repeat' split) <;> simp
@[simp] theorem handFault_pending (f : FaultRecord) : (handFault f s).pending = s.pending := by
  unfold handFault; dsimp only; (repeat' split) <;> simp

/-! ## clearPaceAndHoldOff -/

@[simp] theorem clearPaceAndHoldOff_powered  : (clearPaceAndHoldOff s).powered = s.powered := by
  simp [clearPaceAndHoldOff]
@[simp] theorem clearPaceAndHoldOff_timeBase  : (clearPaceAndHoldOff s).timeBase = s.timeBase := by
  simp [clearPaceAndHoldOff]
@[simp] theorem clearPaceAndHoldOff_pool  : (clearPaceAndHoldOff s).pool = s.pool := by
  simp [clearPaceAndHoldOff]
@[simp] theorem clearPaceAndHoldOff_silentList  : (clearPaceAndHoldOff s).silentList = s.silentList := by
  simp [clearPaceAndHoldOff]
@[simp] theorem clearPaceAndHoldOff_retireList  : (clearPaceAndHoldOff s).retireList = s.retireList := by
  simp [clearPaceAndHoldOff]
@[simp] theorem clearPaceAndHoldOff_urgencyMap  : (clearPaceAndHoldOff s).urgencyMap = s.urgencyMap := by
  simp [clearPaceAndHoldOff]
@[simp] theorem clearPaceAndHoldOff_arbiter  : (clearPaceAndHoldOff s).arbiter = s.arbiter := by
  simp [clearPaceAndHoldOff]
@[simp] theorem clearPaceAndHoldOff_engine  : (clearPaceAndHoldOff s).engine = s.engine := by
  simp [clearPaceAndHoldOff]
@[simp] theorem clearPaceAndHoldOff_list  : (clearPaceAndHoldOff s).list = s.list := by
  simp [clearPaceAndHoldOff]
@[simp] theorem clearPaceAndHoldOff_stock  : (clearPaceAndHoldOff s).stock = s.stock := by
  simp [clearPaceAndHoldOff]
@[simp] theorem clearPaceAndHoldOff_periods  : (clearPaceAndHoldOff s).periods = s.periods := by
  simp [clearPaceAndHoldOff]
@[simp] theorem clearPaceAndHoldOff_monitor  : (clearPaceAndHoldOff s).monitor = s.monitor := by
  simp [clearPaceAndHoldOff]
@[simp] theorem clearPaceAndHoldOff_notices  : (clearPaceAndHoldOff s).notices = s.notices := by
  simp [clearPaceAndHoldOff]
@[simp] theorem clearPaceAndHoldOff_operations  : (clearPaceAndHoldOff s).operations = s.operations := by
  simp [clearPaceAndHoldOff]
@[simp] theorem clearPaceAndHoldOff_audit  : (clearPaceAndHoldOff s).audit = s.audit := by
  simp [clearPaceAndHoldOff]
@[simp] theorem clearPaceAndHoldOff_pending  : (clearPaceAndHoldOff s).pending = s.pending := by
  simp [clearPaceAndHoldOff]

/-! ## restartTakesEffect -/

@[simp] theorem restartTakesEffect_powered  : (restartTakesEffect s).powered = s.powered := by
  simp [restartTakesEffect]
@[simp] theorem restartTakesEffect_timeBase  : (restartTakesEffect s).timeBase = s.timeBase := by
  simp [restartTakesEffect]
@[simp] theorem restartTakesEffect_pool  : (restartTakesEffect s).pool = s.pool := by
  simp [restartTakesEffect]
@[simp] theorem restartTakesEffect_silentList  : (restartTakesEffect s).silentList = s.silentList := by
  simp [restartTakesEffect]
@[simp] theorem restartTakesEffect_retireList  : (restartTakesEffect s).retireList = s.retireList := by
  simp [restartTakesEffect]
@[simp] theorem restartTakesEffect_urgencyMap  : (restartTakesEffect s).urgencyMap = s.urgencyMap := by
  simp [restartTakesEffect]
@[simp] theorem restartTakesEffect_stock  : (restartTakesEffect s).stock = s.stock := by
  simp [restartTakesEffect]
@[simp] theorem restartTakesEffect_periods  : (restartTakesEffect s).periods = s.periods := by
  simp [restartTakesEffect]
@[simp] theorem restartTakesEffect_monitor  : (restartTakesEffect s).monitor = s.monitor := by
  simp [restartTakesEffect]
@[simp] theorem restartTakesEffect_operations  : (restartTakesEffect s).operations = s.operations := by
  simp [restartTakesEffect]
@[simp] theorem restartTakesEffect_audit  : (restartTakesEffect s).audit = s.audit := by
  simp [restartTakesEffect]
@[simp] theorem restartTakesEffect_pending  : (restartTakesEffect s).pending = s.pending := by
  simp [restartTakesEffect]

/-! ## settleRestart -/

@[simp] theorem settleRestart_powered  : (settleRestart s).powered = s.powered := by
  unfold settleRestart; (repeat' split) <;> simp
@[simp] theorem settleRestart_timeBase  : (settleRestart s).timeBase = s.timeBase := by
  unfold settleRestart; (repeat' split) <;> simp
@[simp] theorem settleRestart_pool  : (settleRestart s).pool = s.pool := by
  unfold settleRestart; (repeat' split) <;> simp
@[simp] theorem settleRestart_silentList  : (settleRestart s).silentList = s.silentList := by
  unfold settleRestart; (repeat' split) <;> simp
@[simp] theorem settleRestart_retireList  : (settleRestart s).retireList = s.retireList := by
  unfold settleRestart; (repeat' split) <;> simp
@[simp] theorem settleRestart_urgencyMap  : (settleRestart s).urgencyMap = s.urgencyMap := by
  unfold settleRestart; (repeat' split) <;> simp
@[simp] theorem settleRestart_stock  : (settleRestart s).stock = s.stock := by
  unfold settleRestart; (repeat' split) <;> simp
@[simp] theorem settleRestart_periods  : (settleRestart s).periods = s.periods := by
  unfold settleRestart; (repeat' split) <;> simp
@[simp] theorem settleRestart_monitor  : (settleRestart s).monitor = s.monitor := by
  unfold settleRestart; (repeat' split) <;> simp
@[simp] theorem settleRestart_operations  : (settleRestart s).operations = s.operations := by
  unfold settleRestart; (repeat' split) <;> simp
@[simp] theorem settleRestart_audit  : (settleRestart s).audit = s.audit := by
  unfold settleRestart; (repeat' split) <;> simp
@[simp] theorem settleRestart_pending  : (settleRestart s).pending = s.pending := by
  unfold settleRestart; (repeat' split) <;> simp

/-! ## freeGrantSlot -/

@[simp] theorem freeGrantSlot_powered (g : Grant) : (freeGrantSlot g s).powered = s.powered := by
  unfold freeGrantSlot; (repeat' split) <;> simp
@[simp] theorem freeGrantSlot_timeBase (g : Grant) : (freeGrantSlot g s).timeBase = s.timeBase := by
  unfold freeGrantSlot; (repeat' split) <;> simp
@[simp] theorem freeGrantSlot_pool (g : Grant) : (freeGrantSlot g s).pool = s.pool := by
  unfold freeGrantSlot; (repeat' split) <;> simp
@[simp] theorem freeGrantSlot_meters (g : Grant) : (freeGrantSlot g s).meters = s.meters := by
  unfold freeGrantSlot; (repeat' split) <;> simp
@[simp] theorem freeGrantSlot_silentList (g : Grant) : (freeGrantSlot g s).silentList = s.silentList := by
  unfold freeGrantSlot; (repeat' split) <;> simp
@[simp] theorem freeGrantSlot_retireList (g : Grant) : (freeGrantSlot g s).retireList = s.retireList := by
  unfold freeGrantSlot; (repeat' split) <;> simp
@[simp] theorem freeGrantSlot_branches (g : Grant) : (freeGrantSlot g s).branches = s.branches := by
  unfold freeGrantSlot; (repeat' split) <;> simp
@[simp] theorem freeGrantSlot_urgencyMap (g : Grant) : (freeGrantSlot g s).urgencyMap = s.urgencyMap := by
  unfold freeGrantSlot; (repeat' split) <;> simp
@[simp] theorem freeGrantSlot_arbiter (g : Grant) : (freeGrantSlot g s).arbiter = s.arbiter := by
  unfold freeGrantSlot; (repeat' split) <;> simp
@[simp] theorem freeGrantSlot_list (g : Grant) : (freeGrantSlot g s).list = s.list := by
  unfold freeGrantSlot; (repeat' split) <;> simp
@[simp] theorem freeGrantSlot_stock (g : Grant) : (freeGrantSlot g s).stock = s.stock := by
  unfold freeGrantSlot; (repeat' split) <;> simp
@[simp] theorem freeGrantSlot_periods (g : Grant) : (freeGrantSlot g s).periods = s.periods := by
  unfold freeGrantSlot; (repeat' split) <;> simp
@[simp] theorem freeGrantSlot_monitor (g : Grant) : (freeGrantSlot g s).monitor = s.monitor := by
  unfold freeGrantSlot; (repeat' split) <;> simp
@[simp] theorem freeGrantSlot_notices (g : Grant) : (freeGrantSlot g s).notices = s.notices := by
  unfold freeGrantSlot; (repeat' split) <;> simp
@[simp] theorem freeGrantSlot_operations (g : Grant) : (freeGrantSlot g s).operations = s.operations := by
  unfold freeGrantSlot; (repeat' split) <;> simp
@[simp] theorem freeGrantSlot_audit (g : Grant) : (freeGrantSlot g s).audit = s.audit := by
  unfold freeGrantSlot; (repeat' split) <;> simp
@[simp] theorem freeGrantSlot_pending (g : Grant) : (freeGrantSlot g s).pending = s.pending := by
  unfold freeGrantSlot; (repeat' split) <;> simp

/-! ## clearGrant -/

@[simp] theorem clearGrant_powered (m : MeterId) (g : Grant) : (clearGrant m g s).powered = s.powered := by
  simp [clearGrant]
@[simp] theorem clearGrant_timeBase (m : MeterId) (g : Grant) : (clearGrant m g s).timeBase = s.timeBase := by
  simp [clearGrant]
@[simp] theorem clearGrant_pool (m : MeterId) (g : Grant) : (clearGrant m g s).pool = s.pool := by
  simp [clearGrant]
@[simp] theorem clearGrant_silentList (m : MeterId) (g : Grant) : (clearGrant m g s).silentList = s.silentList := by
  simp [clearGrant]
@[simp] theorem clearGrant_retireList (m : MeterId) (g : Grant) : (clearGrant m g s).retireList = s.retireList := by
  simp [clearGrant]
@[simp] theorem clearGrant_branches (m : MeterId) (g : Grant) : (clearGrant m g s).branches = s.branches := by
  simp [clearGrant]
@[simp] theorem clearGrant_urgencyMap (m : MeterId) (g : Grant) : (clearGrant m g s).urgencyMap = s.urgencyMap := by
  simp [clearGrant]
@[simp] theorem clearGrant_arbiter (m : MeterId) (g : Grant) : (clearGrant m g s).arbiter = s.arbiter := by
  simp [clearGrant]
@[simp] theorem clearGrant_list (m : MeterId) (g : Grant) : (clearGrant m g s).list = s.list := by
  simp [clearGrant]
@[simp] theorem clearGrant_stock (m : MeterId) (g : Grant) : (clearGrant m g s).stock = s.stock := by
  simp [clearGrant]
@[simp] theorem clearGrant_periods (m : MeterId) (g : Grant) : (clearGrant m g s).periods = s.periods := by
  simp [clearGrant]
@[simp] theorem clearGrant_monitor (m : MeterId) (g : Grant) : (clearGrant m g s).monitor = s.monitor := by
  simp [clearGrant]
@[simp] theorem clearGrant_notices (m : MeterId) (g : Grant) : (clearGrant m g s).notices = s.notices := by
  simp [clearGrant]
@[simp] theorem clearGrant_operations (m : MeterId) (g : Grant) : (clearGrant m g s).operations = s.operations := by
  simp [clearGrant]
@[simp] theorem clearGrant_audit (m : MeterId) (g : Grant) : (clearGrant m g s).audit = s.audit := by
  simp [clearGrant]
@[simp] theorem clearGrant_pending (m : MeterId) (g : Grant) : (clearGrant m g s).pending = s.pending := by
  simp [clearGrant]

/-! ## afterSlotFreed -/

@[simp] theorem afterSlotFreed_powered (g : Grant) : (afterSlotFreed g s).powered = s.powered := by
  unfold afterSlotFreed; (repeat' split) <;> simp
@[simp] theorem afterSlotFreed_timeBase (g : Grant) : (afterSlotFreed g s).timeBase = s.timeBase := by
  unfold afterSlotFreed; (repeat' split) <;> simp
@[simp] theorem afterSlotFreed_pool (g : Grant) : (afterSlotFreed g s).pool = s.pool := by
  unfold afterSlotFreed; (repeat' split) <;> simp
@[simp] theorem afterSlotFreed_silentList (g : Grant) : (afterSlotFreed g s).silentList = s.silentList := by
  unfold afterSlotFreed; (repeat' split) <;> simp
@[simp] theorem afterSlotFreed_retireList (g : Grant) : (afterSlotFreed g s).retireList = s.retireList := by
  unfold afterSlotFreed; (repeat' split) <;> simp
@[simp] theorem afterSlotFreed_urgencyMap (g : Grant) : (afterSlotFreed g s).urgencyMap = s.urgencyMap := by
  unfold afterSlotFreed; (repeat' split) <;> simp
@[simp] theorem afterSlotFreed_stock (g : Grant) : (afterSlotFreed g s).stock = s.stock := by
  unfold afterSlotFreed; (repeat' split) <;> simp
@[simp] theorem afterSlotFreed_periods (g : Grant) : (afterSlotFreed g s).periods = s.periods := by
  unfold afterSlotFreed; (repeat' split) <;> simp
@[simp] theorem afterSlotFreed_monitor (g : Grant) : (afterSlotFreed g s).monitor = s.monitor := by
  unfold afterSlotFreed; (repeat' split) <;> simp
@[simp] theorem afterSlotFreed_operations (g : Grant) : (afterSlotFreed g s).operations = s.operations := by
  unfold afterSlotFreed; (repeat' split) <;> simp
@[simp] theorem afterSlotFreed_audit (g : Grant) : (afterSlotFreed g s).audit = s.audit := by
  unfold afterSlotFreed; (repeat' split) <;> simp
@[simp] theorem afterSlotFreed_pending (g : Grant) : (afterSlotFreed g s).pending = s.pending := by
  unfold afterSlotFreed; (repeat' split) <;> simp

/-! ## evaluateReorder -/

@[simp] theorem evaluateReorder_powered (b : BranchId) (l : LineNo) : (evaluateReorder b l s).powered = s.powered := by
  unfold evaluateReorder; dsimp only; (repeat' split) <;> simp
@[simp] theorem evaluateReorder_timeBase (b : BranchId) (l : LineNo) : (evaluateReorder b l s).timeBase = s.timeBase := by
  unfold evaluateReorder; dsimp only; (repeat' split) <;> simp
@[simp] theorem evaluateReorder_pool (b : BranchId) (l : LineNo) : (evaluateReorder b l s).pool = s.pool := by
  unfold evaluateReorder; dsimp only; (repeat' split) <;> simp
@[simp] theorem evaluateReorder_meters (b : BranchId) (l : LineNo) : (evaluateReorder b l s).meters = s.meters := by
  unfold evaluateReorder; dsimp only; (repeat' split) <;> simp
@[simp] theorem evaluateReorder_silentList (b : BranchId) (l : LineNo) : (evaluateReorder b l s).silentList = s.silentList := by
  unfold evaluateReorder; dsimp only; (repeat' split) <;> simp
@[simp] theorem evaluateReorder_retireList (b : BranchId) (l : LineNo) : (evaluateReorder b l s).retireList = s.retireList := by
  unfold evaluateReorder; dsimp only; (repeat' split) <;> simp
@[simp] theorem evaluateReorder_branches (b : BranchId) (l : LineNo) : (evaluateReorder b l s).branches = s.branches := by
  unfold evaluateReorder; dsimp only; (repeat' split) <;> simp
@[simp] theorem evaluateReorder_urgencyMap (b : BranchId) (l : LineNo) : (evaluateReorder b l s).urgencyMap = s.urgencyMap := by
  unfold evaluateReorder; dsimp only; (repeat' split) <;> simp
@[simp] theorem evaluateReorder_arbiter (b : BranchId) (l : LineNo) : (evaluateReorder b l s).arbiter = s.arbiter := by
  unfold evaluateReorder; dsimp only; (repeat' split) <;> simp
@[simp] theorem evaluateReorder_engine (b : BranchId) (l : LineNo) : (evaluateReorder b l s).engine = s.engine := by
  unfold evaluateReorder; dsimp only; (repeat' split) <;> simp
@[simp] theorem evaluateReorder_list (b : BranchId) (l : LineNo) : (evaluateReorder b l s).list = s.list := by
  unfold evaluateReorder; dsimp only; (repeat' split) <;> simp
@[simp] theorem evaluateReorder_periods (b : BranchId) (l : LineNo) : (evaluateReorder b l s).periods = s.periods := by
  unfold evaluateReorder; dsimp only; (repeat' split) <;> simp
@[simp] theorem evaluateReorder_monitor (b : BranchId) (l : LineNo) : (evaluateReorder b l s).monitor = s.monitor := by
  unfold evaluateReorder; dsimp only; (repeat' split) <;> simp
@[simp] theorem evaluateReorder_operations (b : BranchId) (l : LineNo) : (evaluateReorder b l s).operations = s.operations := by
  unfold evaluateReorder; dsimp only; (repeat' split) <;> simp
@[simp] theorem evaluateReorder_audit (b : BranchId) (l : LineNo) : (evaluateReorder b l s).audit = s.audit := by
  unfold evaluateReorder; dsimp only; (repeat' split) <;> simp
@[simp] theorem evaluateReorder_pending (b : BranchId) (l : LineNo) : (evaluateReorder b l s).pending = s.pending := by
  unfold evaluateReorder; dsimp only; (repeat' split) <;> simp

/-! ## consumeLabels -/

@[simp] theorem consumeLabels_powered (b : BranchId) (l : LineNo) (n : Nat) : (consumeLabels b l n s).powered = s.powered := by
  simp [consumeLabels]
@[simp] theorem consumeLabels_timeBase (b : BranchId) (l : LineNo) (n : Nat) : (consumeLabels b l n s).timeBase = s.timeBase := by
  simp [consumeLabels]
@[simp] theorem consumeLabels_pool (b : BranchId) (l : LineNo) (n : Nat) : (consumeLabels b l n s).pool = s.pool := by
  simp [consumeLabels]
@[simp] theorem consumeLabels_meters (b : BranchId) (l : LineNo) (n : Nat) : (consumeLabels b l n s).meters = s.meters := by
  simp [consumeLabels]
@[simp] theorem consumeLabels_silentList (b : BranchId) (l : LineNo) (n : Nat) : (consumeLabels b l n s).silentList = s.silentList := by
  simp [consumeLabels]
@[simp] theorem consumeLabels_retireList (b : BranchId) (l : LineNo) (n : Nat) : (consumeLabels b l n s).retireList = s.retireList := by
  simp [consumeLabels]
@[simp] theorem consumeLabels_branches (b : BranchId) (l : LineNo) (n : Nat) : (consumeLabels b l n s).branches = s.branches := by
  simp [consumeLabels]
@[simp] theorem consumeLabels_urgencyMap (b : BranchId) (l : LineNo) (n : Nat) : (consumeLabels b l n s).urgencyMap = s.urgencyMap := by
  simp [consumeLabels]
@[simp] theorem consumeLabels_arbiter (b : BranchId) (l : LineNo) (n : Nat) : (consumeLabels b l n s).arbiter = s.arbiter := by
  simp [consumeLabels]
@[simp] theorem consumeLabels_engine (b : BranchId) (l : LineNo) (n : Nat) : (consumeLabels b l n s).engine = s.engine := by
  simp [consumeLabels]
@[simp] theorem consumeLabels_list (b : BranchId) (l : LineNo) (n : Nat) : (consumeLabels b l n s).list = s.list := by
  simp [consumeLabels]
@[simp] theorem consumeLabels_periods (b : BranchId) (l : LineNo) (n : Nat) : (consumeLabels b l n s).periods = s.periods := by
  simp [consumeLabels]
@[simp] theorem consumeLabels_monitor (b : BranchId) (l : LineNo) (n : Nat) : (consumeLabels b l n s).monitor = s.monitor := by
  simp [consumeLabels]
@[simp] theorem consumeLabels_operations (b : BranchId) (l : LineNo) (n : Nat) : (consumeLabels b l n s).operations = s.operations := by
  simp [consumeLabels]
@[simp] theorem consumeLabels_audit (b : BranchId) (l : LineNo) (n : Nat) : (consumeLabels b l n s).audit = s.audit := by
  simp [consumeLabels]
@[simp] theorem consumeLabels_pending (b : BranchId) (l : LineNo) (n : Nat) : (consumeLabels b l n s).pending = s.pending := by
  simp [consumeLabels]

/-! ## recordUsage -/

@[simp] theorem recordUsage_powered (b : BranchId) (n : Nat) : (recordUsage b n s).powered = s.powered := by
  unfold recordUsage; (repeat' split) <;> simp
@[simp] theorem recordUsage_timeBase (b : BranchId) (n : Nat) : (recordUsage b n s).timeBase = s.timeBase := by
  unfold recordUsage; (repeat' split) <;> simp
@[simp] theorem recordUsage_pool (b : BranchId) (n : Nat) : (recordUsage b n s).pool = s.pool := by
  unfold recordUsage; (repeat' split) <;> simp
@[simp] theorem recordUsage_meters (b : BranchId) (n : Nat) : (recordUsage b n s).meters = s.meters := by
  unfold recordUsage; (repeat' split) <;> simp
@[simp] theorem recordUsage_silentList (b : BranchId) (n : Nat) : (recordUsage b n s).silentList = s.silentList := by
  unfold recordUsage; (repeat' split) <;> simp
@[simp] theorem recordUsage_retireList (b : BranchId) (n : Nat) : (recordUsage b n s).retireList = s.retireList := by
  unfold recordUsage; (repeat' split) <;> simp
@[simp] theorem recordUsage_branches (b : BranchId) (n : Nat) : (recordUsage b n s).branches = s.branches := by
  unfold recordUsage; (repeat' split) <;> simp
@[simp] theorem recordUsage_urgencyMap (b : BranchId) (n : Nat) : (recordUsage b n s).urgencyMap = s.urgencyMap := by
  unfold recordUsage; (repeat' split) <;> simp
@[simp] theorem recordUsage_arbiter (b : BranchId) (n : Nat) : (recordUsage b n s).arbiter = s.arbiter := by
  unfold recordUsage; (repeat' split) <;> simp
@[simp] theorem recordUsage_engine (b : BranchId) (n : Nat) : (recordUsage b n s).engine = s.engine := by
  unfold recordUsage; (repeat' split) <;> simp
@[simp] theorem recordUsage_list (b : BranchId) (n : Nat) : (recordUsage b n s).list = s.list := by
  unfold recordUsage; (repeat' split) <;> simp
@[simp] theorem recordUsage_stock (b : BranchId) (n : Nat) : (recordUsage b n s).stock = s.stock := by
  unfold recordUsage; (repeat' split) <;> simp
@[simp] theorem recordUsage_monitor (b : BranchId) (n : Nat) : (recordUsage b n s).monitor = s.monitor := by
  unfold recordUsage; (repeat' split) <;> simp
@[simp] theorem recordUsage_notices (b : BranchId) (n : Nat) : (recordUsage b n s).notices = s.notices := by
  unfold recordUsage; (repeat' split) <;> simp
@[simp] theorem recordUsage_operations (b : BranchId) (n : Nat) : (recordUsage b n s).operations = s.operations := by
  unfold recordUsage; (repeat' split) <;> simp
@[simp] theorem recordUsage_audit (b : BranchId) (n : Nat) : (recordUsage b n s).audit = s.audit := by
  unfold recordUsage; (repeat' split) <;> simp
@[simp] theorem recordUsage_pending (b : BranchId) (n : Nat) : (recordUsage b n s).pending = s.pending := by
  unfold recordUsage; (repeat' split) <;> simp

/-! ## recordLabels -/

@[simp] theorem recordLabels_powered (b : BranchId) (k : Option LineNo) (n : Nat) : (recordLabels b k n s).powered = s.powered := by
  unfold recordLabels; (repeat' split) <;> simp
@[simp] theorem recordLabels_timeBase (b : BranchId) (k : Option LineNo) (n : Nat) : (recordLabels b k n s).timeBase = s.timeBase := by
  unfold recordLabels; (repeat' split) <;> simp
@[simp] theorem recordLabels_pool (b : BranchId) (k : Option LineNo) (n : Nat) : (recordLabels b k n s).pool = s.pool := by
  unfold recordLabels; (repeat' split) <;> simp
@[simp] theorem recordLabels_meters (b : BranchId) (k : Option LineNo) (n : Nat) : (recordLabels b k n s).meters = s.meters := by
  unfold recordLabels; (repeat' split) <;> simp
@[simp] theorem recordLabels_silentList (b : BranchId) (k : Option LineNo) (n : Nat) : (recordLabels b k n s).silentList = s.silentList := by
  unfold recordLabels; (repeat' split) <;> simp
@[simp] theorem recordLabels_retireList (b : BranchId) (k : Option LineNo) (n : Nat) : (recordLabels b k n s).retireList = s.retireList := by
  unfold recordLabels; (repeat' split) <;> simp
@[simp] theorem recordLabels_branches (b : BranchId) (k : Option LineNo) (n : Nat) : (recordLabels b k n s).branches = s.branches := by
  unfold recordLabels; (repeat' split) <;> simp
@[simp] theorem recordLabels_urgencyMap (b : BranchId) (k : Option LineNo) (n : Nat) : (recordLabels b k n s).urgencyMap = s.urgencyMap := by
  unfold recordLabels; (repeat' split) <;> simp
@[simp] theorem recordLabels_arbiter (b : BranchId) (k : Option LineNo) (n : Nat) : (recordLabels b k n s).arbiter = s.arbiter := by
  unfold recordLabels; (repeat' split) <;> simp
@[simp] theorem recordLabels_engine (b : BranchId) (k : Option LineNo) (n : Nat) : (recordLabels b k n s).engine = s.engine := by
  unfold recordLabels; (repeat' split) <;> simp
@[simp] theorem recordLabels_list (b : BranchId) (k : Option LineNo) (n : Nat) : (recordLabels b k n s).list = s.list := by
  unfold recordLabels; (repeat' split) <;> simp
@[simp] theorem recordLabels_periods (b : BranchId) (k : Option LineNo) (n : Nat) : (recordLabels b k n s).periods = s.periods := by
  unfold recordLabels; (repeat' split) <;> simp
@[simp] theorem recordLabels_monitor (b : BranchId) (k : Option LineNo) (n : Nat) : (recordLabels b k n s).monitor = s.monitor := by
  unfold recordLabels; (repeat' split) <;> simp
@[simp] theorem recordLabels_operations (b : BranchId) (k : Option LineNo) (n : Nat) : (recordLabels b k n s).operations = s.operations := by
  unfold recordLabels; (repeat' split) <;> simp
@[simp] theorem recordLabels_audit (b : BranchId) (k : Option LineNo) (n : Nat) : (recordLabels b k n s).audit = s.audit := by
  unfold recordLabels; (repeat' split) <;> simp
@[simp] theorem recordLabels_pending (b : BranchId) (k : Option LineNo) (n : Nat) : (recordLabels b k n s).pending = s.pending := by
  unfold recordLabels; (repeat' split) <;> simp

/-! ## acceptReading -/

@[simp] theorem acceptReading_powered (m : MeterId) (rd : Report) : (acceptReading m rd s).powered = s.powered := by
  simp [acceptReading]
@[simp] theorem acceptReading_timeBase (m : MeterId) (rd : Report) : (acceptReading m rd s).timeBase = s.timeBase := by
  simp [acceptReading]
@[simp] theorem acceptReading_pool (m : MeterId) (rd : Report) : (acceptReading m rd s).pool = s.pool := by
  simp [acceptReading]
@[simp] theorem acceptReading_silentList (m : MeterId) (rd : Report) : (acceptReading m rd s).silentList = s.silentList := by
  simp [acceptReading]
@[simp] theorem acceptReading_retireList (m : MeterId) (rd : Report) : (acceptReading m rd s).retireList = s.retireList := by
  simp [acceptReading]
@[simp] theorem acceptReading_branches (m : MeterId) (rd : Report) : (acceptReading m rd s).branches = s.branches := by
  simp [acceptReading]
@[simp] theorem acceptReading_urgencyMap (m : MeterId) (rd : Report) : (acceptReading m rd s).urgencyMap = s.urgencyMap := by
  simp [acceptReading]
@[simp] theorem acceptReading_arbiter (m : MeterId) (rd : Report) : (acceptReading m rd s).arbiter = s.arbiter := by
  simp [acceptReading]
@[simp] theorem acceptReading_engine (m : MeterId) (rd : Report) : (acceptReading m rd s).engine = s.engine := by
  simp [acceptReading]
@[simp] theorem acceptReading_list (m : MeterId) (rd : Report) : (acceptReading m rd s).list = s.list := by
  simp [acceptReading]
@[simp] theorem acceptReading_monitor (m : MeterId) (rd : Report) : (acceptReading m rd s).monitor = s.monitor := by
  simp [acceptReading]
@[simp] theorem acceptReading_operations (m : MeterId) (rd : Report) : (acceptReading m rd s).operations = s.operations := by
  simp [acceptReading]
@[simp] theorem acceptReading_audit (m : MeterId) (rd : Report) : (acceptReading m rd s).audit = s.audit := by
  simp [acceptReading]
@[simp] theorem acceptReading_pending (m : MeterId) (rd : Report) : (acceptReading m rd s).pending = s.pending := by
  simp [acceptReading]

/-! ## rejectReading -/

@[simp] theorem rejectReading_powered (m : MeterId) (rd : Report) : (rejectReading m rd s).powered = s.powered := by
  simp [rejectReading]
@[simp] theorem rejectReading_timeBase (m : MeterId) (rd : Report) : (rejectReading m rd s).timeBase = s.timeBase := by
  simp [rejectReading]
@[simp] theorem rejectReading_pool (m : MeterId) (rd : Report) : (rejectReading m rd s).pool = s.pool := by
  simp [rejectReading]
@[simp] theorem rejectReading_silentList (m : MeterId) (rd : Report) : (rejectReading m rd s).silentList = s.silentList := by
  simp [rejectReading]
@[simp] theorem rejectReading_retireList (m : MeterId) (rd : Report) : (rejectReading m rd s).retireList = s.retireList := by
  simp [rejectReading]
@[simp] theorem rejectReading_branches (m : MeterId) (rd : Report) : (rejectReading m rd s).branches = s.branches := by
  simp [rejectReading]
@[simp] theorem rejectReading_urgencyMap (m : MeterId) (rd : Report) : (rejectReading m rd s).urgencyMap = s.urgencyMap := by
  simp [rejectReading]
@[simp] theorem rejectReading_arbiter (m : MeterId) (rd : Report) : (rejectReading m rd s).arbiter = s.arbiter := by
  simp [rejectReading]
@[simp] theorem rejectReading_engine (m : MeterId) (rd : Report) : (rejectReading m rd s).engine = s.engine := by
  simp [rejectReading]
@[simp] theorem rejectReading_list (m : MeterId) (rd : Report) : (rejectReading m rd s).list = s.list := by
  simp [rejectReading]
@[simp] theorem rejectReading_stock (m : MeterId) (rd : Report) : (rejectReading m rd s).stock = s.stock := by
  simp [rejectReading]
@[simp] theorem rejectReading_periods (m : MeterId) (rd : Report) : (rejectReading m rd s).periods = s.periods := by
  simp [rejectReading]
@[simp] theorem rejectReading_monitor (m : MeterId) (rd : Report) : (rejectReading m rd s).monitor = s.monitor := by
  simp [rejectReading]
@[simp] theorem rejectReading_notices (m : MeterId) (rd : Report) : (rejectReading m rd s).notices = s.notices := by
  simp [rejectReading]
@[simp] theorem rejectReading_operations (m : MeterId) (rd : Report) : (rejectReading m rd s).operations = s.operations := by
  simp [rejectReading]
@[simp] theorem rejectReading_audit (m : MeterId) (rd : Report) : (rejectReading m rd s).audit = s.audit := by
  simp [rejectReading]
@[simp] theorem rejectReading_pending (m : MeterId) (rd : Report) : (rejectReading m rd s).pending = s.pending := by
  simp [rejectReading]

/-! ## finishEntry -/

@[simp] theorem finishEntry_powered (n : Nat) (x : EntryOutcome) : (finishEntry n x s).powered = s.powered := by
  unfold finishEntry; dsimp only; (repeat' split) <;> simp
@[simp] theorem finishEntry_timeBase (n : Nat) (x : EntryOutcome) : (finishEntry n x s).timeBase = s.timeBase := by
  unfold finishEntry; dsimp only; (repeat' split) <;> simp
@[simp] theorem finishEntry_pool (n : Nat) (x : EntryOutcome) : (finishEntry n x s).pool = s.pool := by
  unfold finishEntry; dsimp only; (repeat' split) <;> simp
@[simp] theorem finishEntry_meters (n : Nat) (x : EntryOutcome) : (finishEntry n x s).meters = s.meters := by
  unfold finishEntry; dsimp only; (repeat' split) <;> simp
@[simp] theorem finishEntry_silentList (n : Nat) (x : EntryOutcome) : (finishEntry n x s).silentList = s.silentList := by
  unfold finishEntry; dsimp only; (repeat' split) <;> simp
@[simp] theorem finishEntry_retireList (n : Nat) (x : EntryOutcome) : (finishEntry n x s).retireList = s.retireList := by
  unfold finishEntry; dsimp only; (repeat' split) <;> simp
@[simp] theorem finishEntry_branches (n : Nat) (x : EntryOutcome) : (finishEntry n x s).branches = s.branches := by
  unfold finishEntry; dsimp only; (repeat' split) <;> simp
@[simp] theorem finishEntry_urgencyMap (n : Nat) (x : EntryOutcome) : (finishEntry n x s).urgencyMap = s.urgencyMap := by
  unfold finishEntry; dsimp only; (repeat' split) <;> simp
@[simp] theorem finishEntry_arbiter (n : Nat) (x : EntryOutcome) : (finishEntry n x s).arbiter = s.arbiter := by
  unfold finishEntry; dsimp only; (repeat' split) <;> simp
@[simp] theorem finishEntry_engine (n : Nat) (x : EntryOutcome) : (finishEntry n x s).engine = s.engine := by
  unfold finishEntry; dsimp only; (repeat' split) <;> simp
@[simp] theorem finishEntry_stock (n : Nat) (x : EntryOutcome) : (finishEntry n x s).stock = s.stock := by
  unfold finishEntry; dsimp only; (repeat' split) <;> simp
@[simp] theorem finishEntry_periods (n : Nat) (x : EntryOutcome) : (finishEntry n x s).periods = s.periods := by
  unfold finishEntry; dsimp only; (repeat' split) <;> simp
@[simp] theorem finishEntry_monitor (n : Nat) (x : EntryOutcome) : (finishEntry n x s).monitor = s.monitor := by
  unfold finishEntry; dsimp only; (repeat' split) <;> simp
@[simp] theorem finishEntry_operations (n : Nat) (x : EntryOutcome) : (finishEntry n x s).operations = s.operations := by
  unfold finishEntry; dsimp only; (repeat' split) <;> simp
@[simp] theorem finishEntry_audit (n : Nat) (x : EntryOutcome) : (finishEntry n x s).audit = s.audit := by
  unfold finishEntry; dsimp only; (repeat' split) <;> simp
@[simp] theorem finishEntry_pending (n : Nat) (x : EntryOutcome) : (finishEntry n x s).pending = s.pending := by
  unfold finishEntry; dsimp only; (repeat' split) <;> simp

/-! ## listDone -/

@[simp] theorem listDone_powered  : (listDone s).powered = s.powered := by
  simp [listDone]
@[simp] theorem listDone_timeBase  : (listDone s).timeBase = s.timeBase := by
  simp [listDone]
@[simp] theorem listDone_pool  : (listDone s).pool = s.pool := by
  simp [listDone]
@[simp] theorem listDone_meters  : (listDone s).meters = s.meters := by
  simp [listDone]
@[simp] theorem listDone_silentList  : (listDone s).silentList = s.silentList := by
  simp [listDone]
@[simp] theorem listDone_retireList  : (listDone s).retireList = s.retireList := by
  simp [listDone]
@[simp] theorem listDone_branches  : (listDone s).branches = s.branches := by
  simp [listDone]
@[simp] theorem listDone_urgencyMap  : (listDone s).urgencyMap = s.urgencyMap := by
  simp [listDone]
@[simp] theorem listDone_arbiter  : (listDone s).arbiter = s.arbiter := by
  simp [listDone]
@[simp] theorem listDone_engine  : (listDone s).engine = s.engine := by
  simp [listDone]
@[simp] theorem listDone_stock  : (listDone s).stock = s.stock := by
  simp [listDone]
@[simp] theorem listDone_periods  : (listDone s).periods = s.periods := by
  simp [listDone]
@[simp] theorem listDone_monitor  : (listDone s).monitor = s.monitor := by
  simp [listDone]
@[simp] theorem listDone_operations  : (listDone s).operations = s.operations := by
  simp [listDone]
@[simp] theorem listDone_audit  : (listDone s).audit = s.audit := by
  simp [listDone]
@[simp] theorem listDone_pending  : (listDone s).pending = s.pending := by
  simp [listDone]

/-! ## endRun -/

@[simp] theorem endRun_powered  : (endRun s).powered = s.powered := by
  unfold endRun; (repeat' split) <;> simp
@[simp] theorem endRun_timeBase  : (endRun s).timeBase = s.timeBase := by
  unfold endRun; (repeat' split) <;> simp
@[simp] theorem endRun_pool  : (endRun s).pool = s.pool := by
  unfold endRun; (repeat' split) <;> simp
@[simp] theorem endRun_meters  : (endRun s).meters = s.meters := by
  unfold endRun; (repeat' split) <;> simp
@[simp] theorem endRun_silentList  : (endRun s).silentList = s.silentList := by
  unfold endRun; (repeat' split) <;> simp
@[simp] theorem endRun_retireList  : (endRun s).retireList = s.retireList := by
  unfold endRun; (repeat' split) <;> simp
@[simp] theorem endRun_branches  : (endRun s).branches = s.branches := by
  unfold endRun; (repeat' split) <;> simp
@[simp] theorem endRun_urgencyMap  : (endRun s).urgencyMap = s.urgencyMap := by
  unfold endRun; (repeat' split) <;> simp
@[simp] theorem endRun_arbiter  : (endRun s).arbiter = s.arbiter := by
  unfold endRun; (repeat' split) <;> simp
@[simp] theorem endRun_engine  : (endRun s).engine = s.engine := by
  unfold endRun; (repeat' split) <;> simp
@[simp] theorem endRun_stock  : (endRun s).stock = s.stock := by
  unfold endRun; (repeat' split) <;> simp
@[simp] theorem endRun_periods  : (endRun s).periods = s.periods := by
  unfold endRun; (repeat' split) <;> simp
@[simp] theorem endRun_monitor  : (endRun s).monitor = s.monitor := by
  unfold endRun; (repeat' split) <;> simp
@[simp] theorem endRun_operations  : (endRun s).operations = s.operations := by
  unfold endRun; (repeat' split) <;> simp
@[simp] theorem endRun_audit  : (endRun s).audit = s.audit := by
  unfold endRun; (repeat' split) <;> simp
@[simp] theorem endRun_pending  : (endRun s).pending = s.pending := by
  unfold endRun; (repeat' split) <;> simp

/-! ## entryResolved -/

@[simp] theorem entryResolved_powered (g : GrantSource) (x : GrantResult) : (entryResolved g x s).powered = s.powered := by
  unfold entryResolved; dsimp only; (repeat' split) <;> simp
@[simp] theorem entryResolved_timeBase (g : GrantSource) (x : GrantResult) : (entryResolved g x s).timeBase = s.timeBase := by
  unfold entryResolved; dsimp only; (repeat' split) <;> simp
@[simp] theorem entryResolved_pool (g : GrantSource) (x : GrantResult) : (entryResolved g x s).pool = s.pool := by
  unfold entryResolved; dsimp only; (repeat' split) <;> simp
@[simp] theorem entryResolved_meters (g : GrantSource) (x : GrantResult) : (entryResolved g x s).meters = s.meters := by
  unfold entryResolved; dsimp only; (repeat' split) <;> simp
@[simp] theorem entryResolved_silentList (g : GrantSource) (x : GrantResult) : (entryResolved g x s).silentList = s.silentList := by
  unfold entryResolved; dsimp only; (repeat' split) <;> simp
@[simp] theorem entryResolved_retireList (g : GrantSource) (x : GrantResult) : (entryResolved g x s).retireList = s.retireList := by
  unfold entryResolved; dsimp only; (repeat' split) <;> simp
@[simp] theorem entryResolved_branches (g : GrantSource) (x : GrantResult) : (entryResolved g x s).branches = s.branches := by
  unfold entryResolved; dsimp only; (repeat' split) <;> simp
@[simp] theorem entryResolved_urgencyMap (g : GrantSource) (x : GrantResult) : (entryResolved g x s).urgencyMap = s.urgencyMap := by
  unfold entryResolved; dsimp only; (repeat' split) <;> simp
@[simp] theorem entryResolved_arbiter (g : GrantSource) (x : GrantResult) : (entryResolved g x s).arbiter = s.arbiter := by
  unfold entryResolved; dsimp only; (repeat' split) <;> simp
@[simp] theorem entryResolved_engine (g : GrantSource) (x : GrantResult) : (entryResolved g x s).engine = s.engine := by
  unfold entryResolved; dsimp only; (repeat' split) <;> simp
@[simp] theorem entryResolved_stock (g : GrantSource) (x : GrantResult) : (entryResolved g x s).stock = s.stock := by
  unfold entryResolved; dsimp only; (repeat' split) <;> simp
@[simp] theorem entryResolved_periods (g : GrantSource) (x : GrantResult) : (entryResolved g x s).periods = s.periods := by
  unfold entryResolved; dsimp only; (repeat' split) <;> simp
@[simp] theorem entryResolved_monitor (g : GrantSource) (x : GrantResult) : (entryResolved g x s).monitor = s.monitor := by
  unfold entryResolved; dsimp only; (repeat' split) <;> simp
@[simp] theorem entryResolved_operations (g : GrantSource) (x : GrantResult) : (entryResolved g x s).operations = s.operations := by
  unfold entryResolved; dsimp only; (repeat' split) <;> simp
@[simp] theorem entryResolved_audit (g : GrantSource) (x : GrantResult) : (entryResolved g x s).audit = s.audit := by
  unfold entryResolved; dsimp only; (repeat' split) <;> simp
@[simp] theorem entryResolved_pending (g : GrantSource) (x : GrantResult) : (entryResolved g x s).pending = s.pending := by
  unfold entryResolved; dsimp only; (repeat' split) <;> simp

/-! ## offerGrant -/

@[simp] theorem offerGrant_powered (m : MeterId) (n : Nat) (g : GrantSource) : (offerGrant m n g s).powered = s.powered := by
  unfold offerGrant; dsimp only; (repeat' split) <;> simp
@[simp] theorem offerGrant_timeBase (m : MeterId) (n : Nat) (g : GrantSource) : (offerGrant m n g s).timeBase = s.timeBase := by
  unfold offerGrant; dsimp only; (repeat' split) <;> simp
@[simp] theorem offerGrant_pool (m : MeterId) (n : Nat) (g : GrantSource) : (offerGrant m n g s).pool = s.pool := by
  unfold offerGrant; dsimp only; (repeat' split) <;> simp
@[simp] theorem offerGrant_silentList (m : MeterId) (n : Nat) (g : GrantSource) : (offerGrant m n g s).silentList = s.silentList := by
  unfold offerGrant; dsimp only; (repeat' split) <;> simp
@[simp] theorem offerGrant_retireList (m : MeterId) (n : Nat) (g : GrantSource) : (offerGrant m n g s).retireList = s.retireList := by
  unfold offerGrant; dsimp only; (repeat' split) <;> simp
@[simp] theorem offerGrant_branches (m : MeterId) (n : Nat) (g : GrantSource) : (offerGrant m n g s).branches = s.branches := by
  unfold offerGrant; dsimp only; (repeat' split) <;> simp
@[simp] theorem offerGrant_urgencyMap (m : MeterId) (n : Nat) (g : GrantSource) : (offerGrant m n g s).urgencyMap = s.urgencyMap := by
  unfold offerGrant; dsimp only; (repeat' split) <;> simp
@[simp] theorem offerGrant_arbiter (m : MeterId) (n : Nat) (g : GrantSource) : (offerGrant m n g s).arbiter = s.arbiter := by
  unfold offerGrant; dsimp only; (repeat' split) <;> simp
@[simp] theorem offerGrant_list (m : MeterId) (n : Nat) (g : GrantSource) : (offerGrant m n g s).list = s.list := by
  unfold offerGrant; dsimp only; (repeat' split) <;> simp
@[simp] theorem offerGrant_stock (m : MeterId) (n : Nat) (g : GrantSource) : (offerGrant m n g s).stock = s.stock := by
  unfold offerGrant; dsimp only; (repeat' split) <;> simp
@[simp] theorem offerGrant_periods (m : MeterId) (n : Nat) (g : GrantSource) : (offerGrant m n g s).periods = s.periods := by
  unfold offerGrant; dsimp only; (repeat' split) <;> simp
@[simp] theorem offerGrant_monitor (m : MeterId) (n : Nat) (g : GrantSource) : (offerGrant m n g s).monitor = s.monitor := by
  unfold offerGrant; dsimp only; (repeat' split) <;> simp
@[simp] theorem offerGrant_notices (m : MeterId) (n : Nat) (g : GrantSource) : (offerGrant m n g s).notices = s.notices := by
  unfold offerGrant; dsimp only; (repeat' split) <;> simp
@[simp] theorem offerGrant_pending (m : MeterId) (n : Nat) (g : GrantSource) : (offerGrant m n g s).pending = s.pending := by
  unfold offerGrant; dsimp only; (repeat' split) <;> simp

/-! ## startHoldOff -/

@[simp] theorem startHoldOff_powered (m : MeterId) : (startHoldOff m s).powered = s.powered := by
  simp [startHoldOff]
@[simp] theorem startHoldOff_timeBase (m : MeterId) : (startHoldOff m s).timeBase = s.timeBase := by
  simp [startHoldOff]
@[simp] theorem startHoldOff_pool (m : MeterId) : (startHoldOff m s).pool = s.pool := by
  simp [startHoldOff]
@[simp] theorem startHoldOff_silentList (m : MeterId) : (startHoldOff m s).silentList = s.silentList := by
  simp [startHoldOff]
@[simp] theorem startHoldOff_retireList (m : MeterId) : (startHoldOff m s).retireList = s.retireList := by
  simp [startHoldOff]
@[simp] theorem startHoldOff_urgencyMap (m : MeterId) : (startHoldOff m s).urgencyMap = s.urgencyMap := by
  simp [startHoldOff]
@[simp] theorem startHoldOff_arbiter (m : MeterId) : (startHoldOff m s).arbiter = s.arbiter := by
  simp [startHoldOff]
@[simp] theorem startHoldOff_engine (m : MeterId) : (startHoldOff m s).engine = s.engine := by
  simp [startHoldOff]
@[simp] theorem startHoldOff_list (m : MeterId) : (startHoldOff m s).list = s.list := by
  simp [startHoldOff]
@[simp] theorem startHoldOff_stock (m : MeterId) : (startHoldOff m s).stock = s.stock := by
  simp [startHoldOff]
@[simp] theorem startHoldOff_periods (m : MeterId) : (startHoldOff m s).periods = s.periods := by
  simp [startHoldOff]
@[simp] theorem startHoldOff_monitor (m : MeterId) : (startHoldOff m s).monitor = s.monitor := by
  simp [startHoldOff]
@[simp] theorem startHoldOff_notices (m : MeterId) : (startHoldOff m s).notices = s.notices := by
  simp [startHoldOff]
@[simp] theorem startHoldOff_operations (m : MeterId) : (startHoldOff m s).operations = s.operations := by
  simp [startHoldOff]
@[simp] theorem startHoldOff_audit (m : MeterId) : (startHoldOff m s).audit = s.audit := by
  simp [startHoldOff]
@[simp] theorem startHoldOff_pending (m : MeterId) : (startHoldOff m s).pending = s.pending := by
  simp [startHoldOff]

/-! ## writeOutcome -/

@[simp] theorem writeOutcome_powered (m : MeterId) (g : Grant) (x : GrantResult) (c : Claim) : (writeOutcome m g x c s).powered = s.powered := by
  simp [writeOutcome]
@[simp] theorem writeOutcome_timeBase (m : MeterId) (g : Grant) (x : GrantResult) (c : Claim) : (writeOutcome m g x c s).timeBase = s.timeBase := by
  simp [writeOutcome]
@[simp] theorem writeOutcome_pool (m : MeterId) (g : Grant) (x : GrantResult) (c : Claim) : (writeOutcome m g x c s).pool = s.pool := by
  simp [writeOutcome]
@[simp] theorem writeOutcome_silentList (m : MeterId) (g : Grant) (x : GrantResult) (c : Claim) : (writeOutcome m g x c s).silentList = s.silentList := by
  simp [writeOutcome]
@[simp] theorem writeOutcome_retireList (m : MeterId) (g : Grant) (x : GrantResult) (c : Claim) : (writeOutcome m g x c s).retireList = s.retireList := by
  simp [writeOutcome]
@[simp] theorem writeOutcome_branches (m : MeterId) (g : Grant) (x : GrantResult) (c : Claim) : (writeOutcome m g x c s).branches = s.branches := by
  simp [writeOutcome]
@[simp] theorem writeOutcome_urgencyMap (m : MeterId) (g : Grant) (x : GrantResult) (c : Claim) : (writeOutcome m g x c s).urgencyMap = s.urgencyMap := by
  simp [writeOutcome]
@[simp] theorem writeOutcome_arbiter (m : MeterId) (g : Grant) (x : GrantResult) (c : Claim) : (writeOutcome m g x c s).arbiter = s.arbiter := by
  simp [writeOutcome]
@[simp] theorem writeOutcome_engine (m : MeterId) (g : Grant) (x : GrantResult) (c : Claim) : (writeOutcome m g x c s).engine = s.engine := by
  simp [writeOutcome]
@[simp] theorem writeOutcome_list (m : MeterId) (g : Grant) (x : GrantResult) (c : Claim) : (writeOutcome m g x c s).list = s.list := by
  simp [writeOutcome]
@[simp] theorem writeOutcome_stock (m : MeterId) (g : Grant) (x : GrantResult) (c : Claim) : (writeOutcome m g x c s).stock = s.stock := by
  simp [writeOutcome]
@[simp] theorem writeOutcome_periods (m : MeterId) (g : Grant) (x : GrantResult) (c : Claim) : (writeOutcome m g x c s).periods = s.periods := by
  simp [writeOutcome]
@[simp] theorem writeOutcome_monitor (m : MeterId) (g : Grant) (x : GrantResult) (c : Claim) : (writeOutcome m g x c s).monitor = s.monitor := by
  simp [writeOutcome]
@[simp] theorem writeOutcome_notices (m : MeterId) (g : Grant) (x : GrantResult) (c : Claim) : (writeOutcome m g x c s).notices = s.notices := by
  simp [writeOutcome]
@[simp] theorem writeOutcome_operations (m : MeterId) (g : Grant) (x : GrantResult) (c : Claim) : (writeOutcome m g x c s).operations = s.operations := by
  simp [writeOutcome]
@[simp] theorem writeOutcome_audit (m : MeterId) (g : Grant) (x : GrantResult) (c : Claim) : (writeOutcome m g x c s).audit = s.audit := by
  simp [writeOutcome]
@[simp] theorem writeOutcome_pending (m : MeterId) (g : Grant) (x : GrantResult) (c : Claim) : (writeOutcome m g x c s).pending = s.pending := by
  simp [writeOutcome]

/-! ## creditMeter -/

@[simp] theorem creditMeter_powered (m : MeterId) (n : Nat) : (creditMeter m n s).powered = s.powered := by
  simp [creditMeter]
@[simp] theorem creditMeter_timeBase (m : MeterId) (n : Nat) : (creditMeter m n s).timeBase = s.timeBase := by
  simp [creditMeter]
@[simp] theorem creditMeter_pool (m : MeterId) (n : Nat) : (creditMeter m n s).pool = s.pool := by
  simp [creditMeter]
@[simp] theorem creditMeter_silentList (m : MeterId) (n : Nat) : (creditMeter m n s).silentList = s.silentList := by
  simp [creditMeter]
@[simp] theorem creditMeter_retireList (m : MeterId) (n : Nat) : (creditMeter m n s).retireList = s.retireList := by
  simp [creditMeter]
@[simp] theorem creditMeter_branches (m : MeterId) (n : Nat) : (creditMeter m n s).branches = s.branches := by
  simp [creditMeter]
@[simp] theorem creditMeter_urgencyMap (m : MeterId) (n : Nat) : (creditMeter m n s).urgencyMap = s.urgencyMap := by
  simp [creditMeter]
@[simp] theorem creditMeter_arbiter (m : MeterId) (n : Nat) : (creditMeter m n s).arbiter = s.arbiter := by
  simp [creditMeter]
@[simp] theorem creditMeter_engine (m : MeterId) (n : Nat) : (creditMeter m n s).engine = s.engine := by
  simp [creditMeter]
@[simp] theorem creditMeter_list (m : MeterId) (n : Nat) : (creditMeter m n s).list = s.list := by
  simp [creditMeter]
@[simp] theorem creditMeter_stock (m : MeterId) (n : Nat) : (creditMeter m n s).stock = s.stock := by
  simp [creditMeter]
@[simp] theorem creditMeter_periods (m : MeterId) (n : Nat) : (creditMeter m n s).periods = s.periods := by
  simp [creditMeter]
@[simp] theorem creditMeter_monitor (m : MeterId) (n : Nat) : (creditMeter m n s).monitor = s.monitor := by
  simp [creditMeter]
@[simp] theorem creditMeter_notices (m : MeterId) (n : Nat) : (creditMeter m n s).notices = s.notices := by
  simp [creditMeter]
@[simp] theorem creditMeter_operations (m : MeterId) (n : Nat) : (creditMeter m n s).operations = s.operations := by
  simp [creditMeter]
@[simp] theorem creditMeter_audit (m : MeterId) (n : Nat) : (creditMeter m n s).audit = s.audit := by
  simp [creditMeter]
@[simp] theorem creditMeter_pending (m : MeterId) (n : Nat) : (creditMeter m n s).pending = s.pending := by
  simp [creditMeter]

/-! ## restoreAllowance -/

@[simp] theorem restoreAllowance_powered (b : BranchId) (g : Grant) : (restoreAllowance b g s).powered = s.powered := by
  unfold restoreAllowance; (repeat' split) <;> simp
@[simp] theorem restoreAllowance_timeBase (b : BranchId) (g : Grant) : (restoreAllowance b g s).timeBase = s.timeBase := by
  unfold restoreAllowance; (repeat' split) <;> simp
@[simp] theorem restoreAllowance_pool (b : BranchId) (g : Grant) : (restoreAllowance b g s).pool = s.pool := by
  unfold restoreAllowance; (repeat' split) <;> simp
@[simp] theorem restoreAllowance_meters (b : BranchId) (g : Grant) : (restoreAllowance b g s).meters = s.meters := by
  unfold restoreAllowance; (repeat' split) <;> simp
@[simp] theorem restoreAllowance_silentList (b : BranchId) (g : Grant) : (restoreAllowance b g s).silentList = s.silentList := by
  unfold restoreAllowance; (repeat' split) <;> simp
@[simp] theorem restoreAllowance_retireList (b : BranchId) (g : Grant) : (restoreAllowance b g s).retireList = s.retireList := by
  unfold restoreAllowance; (repeat' split) <;> simp
@[simp] theorem restoreAllowance_urgencyMap (b : BranchId) (g : Grant) : (restoreAllowance b g s).urgencyMap = s.urgencyMap := by
  unfold restoreAllowance; (repeat' split) <;> simp
@[simp] theorem restoreAllowance_arbiter (b : BranchId) (g : Grant) : (restoreAllowance b g s).arbiter = s.arbiter := by
  unfold restoreAllowance; (repeat' split) <;> simp
@[simp] theorem restoreAllowance_engine (b : BranchId) (g : Grant) : (restoreAllowance b g s).engine = s.engine := by
  unfold restoreAllowance; (repeat' split) <;> simp
@[simp] theorem restoreAllowance_list (b : BranchId) (g : Grant) : (restoreAllowance b g s).list = s.list := by
  unfold restoreAllowance; (repeat' split) <;> simp
@[simp] theorem restoreAllowance_stock (b : BranchId) (g : Grant) : (restoreAllowance b g s).stock = s.stock := by
  unfold restoreAllowance; (repeat' split) <;> simp
@[simp] theorem restoreAllowance_periods (b : BranchId) (g : Grant) : (restoreAllowance b g s).periods = s.periods := by
  unfold restoreAllowance; (repeat' split) <;> simp
@[simp] theorem restoreAllowance_monitor (b : BranchId) (g : Grant) : (restoreAllowance b g s).monitor = s.monitor := by
  unfold restoreAllowance; (repeat' split) <;> simp
@[simp] theorem restoreAllowance_notices (b : BranchId) (g : Grant) : (restoreAllowance b g s).notices = s.notices := by
  unfold restoreAllowance; (repeat' split) <;> simp
@[simp] theorem restoreAllowance_operations (b : BranchId) (g : Grant) : (restoreAllowance b g s).operations = s.operations := by
  unfold restoreAllowance; (repeat' split) <;> simp
@[simp] theorem restoreAllowance_audit (b : BranchId) (g : Grant) : (restoreAllowance b g s).audit = s.audit := by
  unfold restoreAllowance; (repeat' split) <;> simp
@[simp] theorem restoreAllowance_pending (b : BranchId) (g : Grant) : (restoreAllowance b g s).pending = s.pending := by
  unfold restoreAllowance; (repeat' split) <;> simp

end Sys2Proof.Machine
end

