-- ==== Sys2Proof/Laws/Records.lean ====
section
/-!
SUPPORT. Reading one record after an update: the vectors, the meter and branch records, the stock lines, the notice classes
and the Line Interfaces.
-/

namespace Sys2Proof.Machine

/-! ## Vectors -/

theorem get_eq_getElem {α : Type} {n : Nat} (v : Vector α n) (i : Fin n) : v.get i = v[i.val] := rfl

theorem modifyAt_get {α : Type} {n : Nat} (v : Vector α n) (i j : Fin n) (f : α → α) :
    (modifyAt v i f).get j = if j = i then f (v.get i) else v.get j := by
  simp only [modifyAt, get_eq_getElem, Vector.getElem_set]
  by_cases h : i = j
  · subst h; simp
  · have h' : i.val ≠ j.val := fun e => h (Fin.ext e)
    simp [h', Ne.symm h]

@[simp] theorem modifyAt_get_self {α : Type} {n : Nat} (v : Vector α n) (i : Fin n) (f : α → α) :
    (modifyAt v i f).get i = f (v.get i) := by
  simp [modifyAt_get]

theorem modifyAt_get_ne {α : Type} {n : Nat} (v : Vector α n) {i j : Fin n} (f : α → α) (h : j ≠ i) :
    (modifyAt v i f).get j = v.get j := by
  simp [modifyAt_get, h]

@[simp] theorem mapAll_get {α β : Type} {n : Nat} (f : α → β) (v : Vector α n) (i : Fin n) :
    (mapAll f v).get i = f (v.get i) := by
  simp [mapAll, get_eq_getElem]

@[simp] theorem zipAll_get {α β γ : Type} {n : Nat} (f : α → β → γ) (v : Vector α n) (w : Vector β n) (i : Fin n) :
    (zipAll f v w).get i = f (v.get i) (w.get i) := by
  simp [zipAll, get_eq_getElem]

@[simp] theorem mapAll_toList {α β : Type} {n : Nat} (f : α → β) (v : Vector α n) :
    (mapAll f v).toList = v.toList.map f := by
  simp [mapAll, Vector.toList]

theorem modifyAt_toList {α : Type} {n : Nat} (v : Vector α n) (i : Fin n) (f : α → α) :
    (modifyAt v i f).toList = v.toList.set i.val (f (v.get i)) := by
  simp [modifyAt, Vector.toList, Vector.set]

/-- A vector is the list of its elements by index. -/
theorem toList_eq_map_get {α : Type} {n : Nat} (v : Vector α n) :
    v.toList = (List.finRange n).map v.get := by
  apply List.ext_getElem
  · simp
  · intro i h1 h2
    simp [get_eq_getElem]

theorem vector_ext_get {α : Type} {n : Nat} {v w : Vector α n} (h : ∀ i : Fin n, v.get i = w.get i) : v = w := by
  ext i hi
  exact h ⟨i, hi⟩

variable (s : State)

/-! ## Meters -/

theorem modMeter_meter (m n : MeterId) (f : Meter → Meter) :
    (modMeter m f s).meter n = if n = m then f (s.meter m) else s.meter n := by
  simp [State.meter, modifyAt_get]

@[simp] theorem modMeter_meter_self (m : MeterId) (f : Meter → Meter) :
    (modMeter m f s).meter m = f (s.meter m) := by
  simp [modMeter_meter]

theorem modMeter_meter_ne {m n : MeterId} (f : Meter → Meter) (h : n ≠ m) :
    (modMeter m f s).meter n = s.meter n := by
  simp [modMeter_meter, h]

/-- A meter's record depends on the meters alone. -/
theorem meter_congr {s t : State} (h : t.meters = s.meters) (m : MeterId) : t.meter m = s.meter m := by
  simp [State.meter, h]

/-! ## Branches -/

theorem modBranch_branch (b c : BranchId) (f : Branch → Branch) :
    (modBranch b f s).branch c = if c = b then f (s.branch b) else s.branch c := by
  simp [State.branch, modifyAt_get]

@[simp] theorem modBranch_branch_self (b : BranchId) (f : Branch → Branch) :
    (modBranch b f s).branch b = f (s.branch b) := by
  simp [modBranch_branch]

theorem modBranch_branch_ne {b c : BranchId} (f : Branch → Branch) (h : c ≠ b) :
    (modBranch b f s).branch c = s.branch c := by
  simp [modBranch_branch, h]

/-- A branch's record depends on the branches alone. -/
theorem branch_congr {s t : State} (h : t.branches = s.branches) (b : BranchId) : t.branch b = s.branch b := by
  simp [State.branch, h]

/-! ## Stock lines -/

theorem modStockLine_stockLine (b c : BranchId) (l k : LineNo) (f : StockLine → StockLine) :
    (modStockLine b l f s).stockLine c k = if c = b ∧ k = l then f (s.stockLine b l) else s.stockLine c k := by
  simp only [State.stockLine, modStockLine_stock, modifyAt_get]
  by_cases h : c = b
  · subst h; simp only [true_and, if_true]; rw [modifyAt_get]
  · simp [h]

@[simp] theorem modStockLine_stockLine_self (b : BranchId) (l : LineNo) (f : StockLine → StockLine) :
    (modStockLine b l f s).stockLine b l = f (s.stockLine b l) := by
  simp [modStockLine_stockLine]

/-- A stock line depends on the lines alone. -/
theorem stockLine_congr {s t : State} (h : t.stock.lines = s.stock.lines) (b : BranchId) (l : LineNo) :
    t.stockLine b l = s.stockLine b l := by
  simp [State.stockLine, h]

/-! ## Notice classes -/

theorem NoticeClass.idx_inj {c d : NoticeClass} (h : c.idx = d.idx) : c = d := by
  cases c <;> cases d <;> first | rfl | (exact absurd h (by decide))

theorem modNotice_noticeClass (c d : NoticeClass) (f : NoticeEntry → NoticeEntry) :
    (modNotice c f s).noticeClass d = if d = c then f (s.noticeClass c) else s.noticeClass d := by
  simp only [State.noticeClass, modNotice_notices, modifyAt_get]
  by_cases h : d = c
  · subst h; simp
  · have h' : d.idx ≠ c.idx := fun e => h (NoticeClass.idx_inj e)
    simp [h, h']

/-- A condition moves its own class as R203 gives and leaves the other classes. -/
theorem setCondition_noticeClass (c d : NoticeClass) :
    (setCondition c s).noticeClass d =
      if d = c then { s.noticeClass c with phase := (s.noticeClass c).phase.afterCondition } else s.noticeClass d := by
  simp [setCondition, modNotice_noticeClass]

@[simp] theorem setCondition_cause (c : NoticeClass) : (setCondition c s).notices.cause = s.notices.cause := rfl

@[simp] theorem setCondition_completed (c : NoticeClass) :
    (setCondition c s).notices.completed = s.notices.completed := rfl

/-! ## Lines -/

theorem setLine_line (p q : Port) (x : LineIf) : (s.setLine p x).line q = if q = p then x else s.line q := by
  cases p <;> cases q <;> simp [State.setLine, State.line]

@[simp] theorem setLine_line_self (p : Port) (x : LineIf) : (s.setLine p x).line p = x := by
  simp [setLine_line]

@[simp] theorem setLine_setLine (p : Port) (x y : LineIf) : (s.setLine p x).setLine p y = s.setLine p y := by
  cases p <;> rfl

@[simp] theorem setLine_same (p : Port) : s.setLine p (s.line p) = s := by
  cases p <;> rfl

theorem modLineIf_line (p q : Port) (f : LineIf → LineIf) :
    (modLineIf p f s).line q = if q = p then f (s.line p) else s.line q := by
  simp [modLineIf, setLine_line]

/-- A frame joins the end of its port's queue; the other port's line stays. -/
theorem enqueue_line (p q : Port) (f : OutFrame) :
    (enqueue p f s).line q = if q = p then { s.line p with queue := (s.line p).queue ++ [f] } else s.line q := by
  simp [enqueue, modLineIf_line]

/-- A silence that has already passed on one port has ended what that port was receiving; the other port's line stays. -/
theorem settleLine_line (p q : Port) :
    (settleLine p s).line q = if q = p then (s.line p).settled s.timeBase else s.line q := by
  simp [settleLine, modLineIf_line]

/-- A line that waits for a start marker is left as it was by a silence. -/
theorem settled_waiting {l : LineIf} (now : Word32) (h : l.receiver = .waiting) : l.settled now = l := by
  simp [LineIf.settled, Receiver.last, h]

/-- The ready-in pin of one port is read; the rest of the part stays. -/
theorem readPin_line (p q : Port) (readyIn : Bool) :
    (readPin p readyIn s).line q = if q = p then { s.line p with readyIn := readyIn } else s.line q := by
  simp [readPin, modLineIf_line]

/-- The flags byte of an entry carries its two flags as LOAD-LIST reads them (R116, R198). -/
theorem entry_flags_bits (e : Entry) :
    (BitVec.ofNat 8 e.flags).getLsbD 0 = e.quiet ∧ (BitVec.ofNat 8 e.flags).getLsbD 1 = e.stopOnShort := by
  cases hq : e.quiet <;> cases hs : e.stopOnShort <;> simp [Entry.flags, hq, hs]

/-- A line depends on the two Line Interfaces alone. -/
theorem line_congr {s t : State} (h : t.operations = s.operations) (h' : t.audit = s.audit) (p : Port) :
    t.line p = s.line p := by
  cases p <;> simp [State.line, h, h']

/-- A notice class depends on the Notice Unit alone. -/
theorem noticeClass_congr {s t : State} (h : t.notices = s.notices) (c : NoticeClass) :
    t.noticeClass c = s.noticeClass c := by
  simp [State.noticeClass, h]

end Sys2Proof.Machine
end

