-- ==== Sys2Proof/Laws/Dispatcher.lean ====
section
/-!
SUPPORT. What the Dispatcher's operations can do: the taking of a frame, its judgement and the reply.
-/

namespace Sys2Proof.Machine

/-- A line counter rises by one and saturates at 65,535 (R202). -/
theorem tally_eq (n : Nat) : tally n = min (n + 1) 65535 := by
  have hc : Config.maxTally = 65535 := rfl
  unfold tally raiseTo
  split <;> omega

/-- The model's test of a silence is that of the statements. -/
theorem silent_eq_silenceDue (s : State) (p : Port) :
    (s.line p).receiver.last.any (silent s.timeBase) = silenceDue s p := by
  unfold silenceDue
  split <;> rename_i h <;> rw [h] <;> rfl

/-- The line of a port as an event finds it, in the terms of the statements. -/
theorem settled_eq (s : State) (p : Port) :
    (s.line p).settled s.timeBase = if silenceDue s p then idleLine s p else s.line p := by
  unfold LineIf.settled
  rw [silent_eq_silenceDue]
  split <;> rename_i h
  · simp only [LineIf.truncate, idleLine, truncatedNow, h, if_true, tally_eq]
  · rfl

/-- A line that waits for a start marker is its own idle line. -/
theorem idleLine_waiting {s : State} {p : Port} (h : (s.line p).receiver = .waiting) : idleLine s p = s.line p := by
  have hn : silenceDue s p = false := by simp [silenceDue, h]
  simp only [idleLine, truncatedNow, hn, ← h, Bool.false_eq_true, if_false]

/-- A port that can receive a whole frame does so on its idle line. -/
theorem settled_of_canReceive {s : State} {p : Port} (h : CanReceive s p) :
    (s.line p).settled s.timeBase = idleLine s p := by
  obtain ⟨-, -, hw | hd⟩ := h
  · rw [settled_waiting _ hw, idleLine_waiting hw]
  · simp [settled_eq, hd]

/-- A frame that is `Taken` is taken by `takeFrame`, not oversize, and leaves the state that `Taken` names. -/
theorem takeFrame_of_taken {p : Port} {kind tag : Byte} {body : List Byte} {s t : State}
    (h : Taken p kind tag body s t) : takeFrame p kind tag body s = .taken false t := by
  obtain ⟨hp, hf, ⟨hb, rfl⟩ | ⟨hc, hl, rfl⟩⟩ := h
  · simp [takeFrame, hp, hb, RxFrame.isFrame, hf]
  · simp [takeFrame, hp, hf, hc.1, settled_of_canReceive hc, idleLine, hc.2.1, completeFrame, Nat.not_lt.mpr hl]

/-- A taken message is judged and answered in the state it leaves. -/
theorem request_of_taken {α : Type} {p : Port} {k : Kind} {tag : Byte} {b : Body α} {enc : α → List Byte}
    {s t : State} (owner : α → State → Answer) (h : Taken p k.code tag (bodyBytes enc b) s t) :
    request p k tag b enc owner s = reply p k.code tag (answerTo p k b owner false t) := by
  simp [request, takeFrame_of_taken h]

/-- A request that passes the Dispatcher's checks is answered by its owner (R197, check 6). -/
theorem judge_of_passes {p : Port} {k : Kind} {owner : State → Answer} {s : State} (hp : k.permitted p = true)
    (hu : s.monitor.state = .uncommissioned → k.takenUncommissioned = true)
    (hl : s.monitor.state = .lockdown → k.lockedOut p = false) : judge p k owner s = owner s := by
  unfold judge
  rw [if_neg (by simp [hp]), if_neg, if_neg]
  · rintro ⟨h1, h2⟩; simp [hl h1] at h2
  · rintro ⟨h1, h2⟩; simp [hu h1] at h2

/-- The reply of a taken message whose body has its fields and which passes the Dispatcher's checks. -/
theorem request_fields {α : Type} {p : Port} {k : Kind} {tag : Byte} {m : α} {enc : α → List Byte} {s t : State}
    (owner : α → State → Answer) (h : Taken p k.code tag (enc m) s t) (hp : k.permitted p = true)
    (hu : t.monitor.state = .uncommissioned → k.takenUncommissioned = true)
    (hl : t.monitor.state = .lockdown → k.lockedOut p = false) :
    request p k tag (.fields m) enc owner s =
      replied p k.code tag (owner m t).status (owner m t).body (owner m t).state := by
  rw [request_of_taken owner (b := .fields m) h]
  simp [answerTo, judge_of_passes hp hu hl, reply, replied]

/-- In service a request permitted on its port reaches its owner. -/
theorem request_inService {α : Type} {p : Port} {k : Kind} {tag : Byte} {m : α} {enc : α → List Byte} {s t : State}
    (owner : α → State → Answer) (h : Taken p k.code tag (enc m) s t) (hp : k.permitted p = true)
    (hs : t.monitor.state = .inService) :
    request p k tag (.fields m) enc owner s =
      replied p k.code tag (owner m t).status (owner m t).body (owner m t).state :=
  request_fields owner h hp (by simp [hs]) (by simp [hs])

/-- The taking of a frame changes the line of its port alone. -/
theorem Taken.frame {p : Port} {kind tag : Byte} {body : List Byte} {s t : State} (h : Taken p kind tag body s t) :
    t = s.setLine p (t.line p) := by
  obtain ⟨-, -, ⟨-, rfl⟩ | ⟨-, -, rfl⟩⟩ := h
  · simp
  · simp

/-- A reply adds its frame to the end of its port's queue and changes nothing else. -/
theorem replied_eq (p : Port) (kind tag : Byte) (st : Status) (body : List WireField) (s : State) :
    replied p kind tag st body s =
      s.setLine p { s.line p with queue := (s.line p).queue ++ [.reply tag st kind body] } := rfl

end Sys2Proof.Machine
end

