-- ==== Sys2Proof/Laws/Ops.lean ====
section
/-!
SUPPORT. What each shared operation does to the record it is about: one lemma for each operation and record, to cite in place
of unfolding the operation. Laws/Frames.lean says what the operation leaves as it was.
-/

namespace Sys2Proof.Machine

variable (s : State)

/-! ## The pool -/

/-- Working the condition out anew records it, changes no figure, and may change the worst condition. -/
theorem recheckPool_pool :
    (recheckPool s).pool = { s.pool with recorded := s.pool.condition, worst := (recheckPool s).pool.worst } := by
  unfold recheckPool setPoolCondition
  dsimp only
  split <;> simp

@[simp] theorem recheckPool_recorded : (recheckPool s).pool.recorded = s.pool.condition := by
  rw [recheckPool_pool]

@[simp] theorem recheckPool_figures : (recheckPool s).pool.figures = s.pool.figures := by
  rw [recheckPool_pool]; rfl

@[simp] theorem recheckPool_condition : (recheckPool s).pool.condition = s.pool.condition := by
  rw [recheckPool_pool]; rfl

/-- The pool of a pool change: the new figures, and the condition they give. -/
theorem changePool_pool (pool : Pool) (hit : Bool) :
    (changePool pool hit s).pool =
      { pool with recorded := pool.condition, worst := (changePool pool hit s).pool.worst } := by
  unfold changePool
  rw [recheckPool_pool]
  simp

/-- A pool change touches the current bank's saturated mark alone among the banks. -/
theorem changePool_periods (pool : Pool) (hit : Bool) :
    (changePool pool hit s).periods =
      { s.periods with current := { s.periods.current with saturated := s.periods.current.saturated || hit } } := by
  simp [changePool, markSaturated]

theorem raiseTo_eq_min (top x d : Nat) : raiseTo top x d = min (x + d) top := by
  unfold raiseTo; split <;> omega

theorem raiseFigure_le (x d : Nat) : raiseFigure x d ≤ Config.maxFigure := by
  simp only [raiseFigure, raiseTo_eq_min]; omega

theorem raiseSigned_eq_clamp (x d : Int) :
    raiseSigned x d = max Config.minSigned (min Config.maxSigned (x + d)) := by
  simp only [raiseSigned, Config.minSigned, Config.maxSigned]; split_ifs <;> omega

/-! ## Dropping requests -/

/-- A removed request leaves its meter's record and nothing else of the meters. -/
theorem removeRequest_meter (m n : MeterId) :
    (removeRequest m s).meter n = if n = m then { s.meter m with pendingReq := none } else s.meter n := by
  simp [removeRequest, State.meter, modifyAt_get]

/-- A removed request's meter leaves its own branch's pending order. -/
theorem removeRequest_branch (m : MeterId) (b : BranchId) :
    (removeRequest m s).branch b =
      if b = (s.meter m).branch then { s.branch b with order := (s.branch b).order.filter (fun x => x != m) }
      else s.branch b := by
  have h : (removeRequest m s).branches =
      (modBranch (s.meter m).branch (fun k => { k with order := k.order.filter (fun x => x != m) }) s).branches := by
    simp [removeRequest]
  rw [branch_congr h b, modBranch_branch]
  split
  · next e => rw [e]
  · rfl

/-- After a drop the meter has no pending request, whether it had one or not. -/
theorem dropRequest_meter (m n : MeterId) :
    (dropRequest m s).meter n = if n = m then { s.meter m with pendingReq := none } else s.meter n := by
  unfold dropRequest
  split
  · exact removeRequest_meter s m n
  · next h =>
    split
    · next e =>
      subst e
      have h' : (s.meter n).pendingReq = none := by simpa using h
      rw [← h']
    · rfl

theorem dropRequest_branch (m : MeterId) (b : BranchId) :
    (dropRequest m s).branch b =
      if b = (s.meter m).branch ∧ (s.meter m).pendingReq.isSome = true then
        { s.branch b with order := (s.branch b).order.filter (fun x => x != m) }
      else s.branch b := by
  unfold dropRequest
  split
  · next h => simp [removeRequest_branch, h]
  · next h => simp [h]

theorem dropAllRequests_meter (n : MeterId) : (dropAllRequests s).meter n = { s.meter n with pendingReq := none } := by
  simp [dropAllRequests, State.meter]

theorem dropAllRequests_branch (b : BranchId) : (dropAllRequests s).branch b = { s.branch b with order := [] } := by
  simp [dropAllRequests, State.branch]

theorem clearPaceAndHoldOff_meter (n : MeterId) :
    (clearPaceAndHoldOff s).meter n = { s.meter n with holdOff := none } := by
  simp [clearPaceAndHoldOff, State.meter]

theorem clearPaceAndHoldOff_branch (b : BranchId) :
    (clearPaceAndHoldOff s).branch b = { s.branch b with pace := 0 } := by
  simp [clearPaceAndHoldOff, State.branch]

/-! ## Suspension -/

theorem enterSuspended_meter (m n : MeterId) :
    (enterSuspended m s).meter n =
      if n = m then { s.meter m with state := .suspended, pendingReq := none, supervision := none } else s.meter n := by
  simp only [enterSuspended, modMeter_meter, dropRequest_meter]
  split <;> simp_all

theorem suspendByFault_meter (m n : MeterId) :
    (suspendByFault m s).meter n =
      if n = m ∧ ((s.meter m).state = .active ∨ (s.meter m).state = .silent) then
        { s.meter m with state := .suspended, pendingReq := none, supervision := none }
      else s.meter n := by
  unfold suspendByFault
  split
  · next h => simp [enterSuspended_meter, h]
  · next h => simp [h]

/-! ## Lockdown and a restart -/

@[simp] theorem haltRunningList_list :
    (haltRunningList s).list = { s.list with
      state := if s.list.state = .running ∨ s.list.state = .halting then .halted else s.list.state } := by
  unfold haltRunningList
  split <;> simp [haltList]

theorem enterLockdown_meter (n : MeterId) : (enterLockdown s).meter n = { s.meter n with pendingReq := none } := by
  have h : (enterLockdown s).meters = (dropAllRequests s).meters := by simp [enterLockdown, dropAllRequests]
  rw [meter_congr h n, dropAllRequests_meter]

theorem enterLockdown_branch (b : BranchId) : (enterLockdown s).branch b = { s.branch b with order := [] } := by
  have h : (enterLockdown s).branches = (dropAllRequests s).branches := by simp [enterLockdown, dropAllRequests]
  rw [branch_congr h b, dropAllRequests_branch]

@[simp] theorem enterLockdown_monitor : (enterLockdown s).monitor = { s.monitor with state := .lockdown } := by
  simp [enterLockdown]

@[simp] theorem enterLockdown_engine : (enterLockdown s).engine = { s.engine with state := .stopped } := by
  simp [enterLockdown]

theorem restartTakesEffect_meter (n : MeterId) :
    (restartTakesEffect s).meter n = { s.meter n with pendingReq := none, holdOff := none } := by
  have h : (restartTakesEffect s).meters = (clearPaceAndHoldOff (dropAllRequests s)).meters := by
    simp [restartTakesEffect, clearPaceAndHoldOff, dropAllRequests]
  rw [meter_congr h n, clearPaceAndHoldOff_meter, dropAllRequests_meter]

theorem restartTakesEffect_branch (b : BranchId) :
    (restartTakesEffect s).branch b = { s.branch b with order := [], pace := 0 } := by
  have h : (restartTakesEffect s).branches = (clearPaceAndHoldOff (dropAllRequests s)).branches := by
    simp [restartTakesEffect, clearPaceAndHoldOff, dropAllRequests]
  rw [branch_congr h b, clearPaceAndHoldOff_branch, dropAllRequests_branch]

@[simp] theorem restartTakesEffect_engine : (restartTakesEffect s).engine = { s.engine with state := .active } := by
  simp [restartTakesEffect]

@[simp] theorem restartTakesEffect_arbiter : (restartTakesEffect s).arbiter = Arbiter.cleared := by
  simp [restartTakesEffect]

/-! ## Slots -/

theorem freeSlot_slots (k j : SlotId) :
    (freeSlot k s).engine.slots.get j = if j = k then none else s.engine.slots.get j := by
  simp [freeSlot, modifyAt_get]

/-- The lowest free slot is free, and every lower one is occupied (R86). -/
theorem freeSlot?_eq_some {k : SlotId} (h : freeSlot? s = some k) : s.engine.slots.get k = none := by
  have := List.find?_some h
  simpa using this

/-! ## Readings -/

/-- The record after an accepted reading; other records stay. -/
theorem acceptReading_meter (m n : MeterId) (rd : Report) :
    (acceptReading m rd s).meter n =
      if n = m then (s.meter m).accepted rd (supervisionExpiry s m) else s.meter n := by
  have h : (acceptReading m rd s).meters = (modMeter m (fun x => x.accepted rd (supervisionExpiry s m)) s).meters := by
    simp [acceptReading]
  rw [meter_congr h n, modMeter_meter]

end Sys2Proof.Machine
end

