-- ==== Sys2Proof/Laws/PerInstr.lean ====
section
/-!
SUPPORT. The family WireShape: of every well-formed command, that its operands have the shape the line or the kind's row
gives them (R193, R194, R197, R198).
-/

namespace Sys2Proof.Laws.WireShape

open Sys2Proof.Machine

/-- The bytes of a well-formed body: fields give a body that the kind's row takes, and bytes of another length one that it
does not; either fits the length field of a frame. -/
def BodyShape {α : Type} (k : Kind) (enc : α → List Byte) : Body α → Prop
  | .fields f => k.takesBody (enc f) = true ∧ (enc f).length ≤ maxBody
  | .otherLength bytes => k.takesBody bytes = false ∧ bytes.length ≤ maxBody

/-- A well-formed command has the shape its row gives. -/
def Statement (i : Instr) : Prop :=
  i.wellFormed = true →
    match i with
    | .meterStatus _ _ b => BodyShape .meterStatus ReadingMsg.bytes b
    | .refillRequest _ _ b => BodyShape .refillRequest RefillMsg.bytes b
    | .grantApplied _ _ b => BodyShape .grantApplied AppliedMsg.bytes b
    | .grantRejected _ _ b => BodyShape .grantRejected RejectedMsg.bytes b
    | .deposit _ _ b => BodyShape .deposit DepositMsg.bytes b
    | .enrolMeter _ _ b => BodyShape .enrolMeter EnrolMsg.bytes b
    | .configureMeter _ _ b => BodyShape .configureMeter ConfigureMeterMsg.bytes b
    | .suspendMeter _ _ b => BodyShape .suspendMeter MeterMsg.bytes b
    | .retireMeter _ _ b => BodyShape .retireMeter MeterMsg.bytes b
    | .finalReading _ b => BodyShape .finalReading ReadingMsg.bytes b
    | .adjustingFinalReading _ b => BodyShape .finalReading ReadingMsg.bytes b
    | .configureBranch _ _ b => BodyShape .configureBranch ConfigureBranchMsg.bytes b
    | .setUrgencyMap _ _ b => BodyShape .setUrgencyMap UrgencyMapMsg.bytes b
    | .setEngine _ _ b => BodyShape .setEngine SetEngineMsg.bytes b
    | .engineRestart _ _ b => BodyShape .engineRestart noBytes b
    | .configureStockLine _ _ b => BodyShape .configureStockLine StockLineMsg.bytes b
    | .stockReceipt _ _ b => BodyShape .stockReceipt ReceiptMsg.bytes b
    | .stockSale _ _ b => BodyShape .stockSale PiecesMsg.bytes b
    | .stockSpoil _ _ b => BodyShape .stockSpoil PiecesMsg.bytes b
    | .stockCount _ _ b => BodyShape .stockCount PiecesMsg.bytes b
    | .loadList _ _ b => BodyShape .loadList LoadListMsg.bytes b
    | .startList _ _ b => BodyShape .startList StartListMsg.bytes b
    | .haltList _ _ b => BodyShape .haltList noBytes b
    | .abortList _ _ b => BodyShape .abortList noBytes b
    | .clearList _ _ b => BodyShape .clearList noBytes b
    | .closePeriod _ _ b => BodyShape .closePeriod StampMsg.bytes b
    | .collectPeriod _ _ b => BodyShape .collectPeriod StampMsg.bytes b
    | .setNotices _ _ b => BodyShape .setNotices SetNoticesMsg.bytes b
    | .commission _ _ b => BodyShape .commission noBytes b
    | .refund _ _ b => BodyShape .refund RefundMsg.bytes b
    | .setPoolLimits _ _ b => BodyShape .setPoolLimits PoolLimitsMsg.bytes b
    | .setFaultPolicy _ _ b => BodyShape .setFaultPolicy PolicyMsg.bytes b
    | .setTolerance _ _ b => BodyShape .setTolerance ToleranceMsg.bytes b
    | .resumeMeter _ _ b => BodyShape .resumeMeter MeterMsg.bytes b
    | .release _ _ b => BodyShape .release noBytes b
    | .clearFaults _ _ b => BodyShape .clearFaults noBytes b
    | .queryPool _ _ b => BodyShape .queryPool noBytes b
    | .queryMeter _ _ b => BodyShape .queryMeter MeterMsg.bytes b
    | .queryBranch _ _ b => BodyShape .queryBranch BranchMsg.bytes b
    | .queryStock _ _ b => BodyShape .queryStock QueryStockMsg.bytes b
    | .queryList _ _ b => BodyShape .queryList QueryListMsg.bytes b
    | .queryPeriod _ _ b => BodyShape .queryPeriod QueryPeriodMsg.bytes b
    | .queryFaults _ _ b => BodyShape .queryFaults noBytes b
    | .queryLine _ _ b => BodyShape .queryLine QueryLineMsg.bytes b
    | .queryNotices _ _ b => BodyShape .queryNotices noBytes b
    | .unknownKind _ _ kind body => (∀ k ∈ Kind.all, k.code ≠ kind) ∧ body.length ≤ maxBody
    | .discardedByte _ b stop => b ≠ Config.startMarker ∨ stop = false
    | .shortLength _ b _ => b.toNat < 2
    | .silence _ | .frameCheck _ _ _ | .overrun _ | .lineBreak _ | .breakEnd _ | .frameTransmissionStart _ _
    | .fullyTransmitted _ | .selection | .queuingOpportunity _ | .supervisionExpiry _ | .holdOffExpiry _
    | .grantExpiry _ | .powerOn _ | .powerOnRetentionLost _ | .startMarkerReceived _ | .frameByteReceived _ _ _
    | .powerLoss => True

theorem body_shape {α : Type} (k : Kind) (enc : α → List Byte) (b : Body α)
    (h : bodyWellFormed k enc b = true) : BodyShape k enc b := by
  cases b <;> simpa [bodyWellFormed, BodyShape] using h

theorem meterStatus (p : Port) (tag : Byte) (b : Body ReadingMsg) : Statement (.meterStatus p tag b) := fun h => body_shape _ _ b h
theorem refillRequest (p : Port) (tag : Byte) (b : Body RefillMsg) : Statement (.refillRequest p tag b) := fun h => body_shape _ _ b h
theorem grantApplied (p : Port) (tag : Byte) (b : Body AppliedMsg) : Statement (.grantApplied p tag b) := fun h => body_shape _ _ b h
theorem grantRejected (p : Port) (tag : Byte) (b : Body RejectedMsg) : Statement (.grantRejected p tag b) := fun h => body_shape _ _ b h
theorem deposit (p : Port) (tag : Byte) (b : Body DepositMsg) : Statement (.deposit p tag b) := fun h => body_shape _ _ b h
theorem enrolMeter (p : Port) (tag : Byte) (b : Body EnrolMsg) : Statement (.enrolMeter p tag b) := fun h => body_shape _ _ b h
theorem configureMeter (p : Port) (tag : Byte) (b : Body ConfigureMeterMsg) : Statement (.configureMeter p tag b) := fun h => body_shape _ _ b h
theorem suspendMeter (p : Port) (tag : Byte) (b : Body MeterMsg) : Statement (.suspendMeter p tag b) := fun h => body_shape _ _ b h
theorem retireMeter (p : Port) (tag : Byte) (b : Body MeterMsg) : Statement (.retireMeter p tag b) := fun h => body_shape _ _ b h
theorem finalReading (tag : Byte) (b : Body ReadingMsg) : Statement (.finalReading tag b) := fun h => body_shape _ _ b h
theorem adjustingFinalReading (tag : Byte) (b : Body ReadingMsg) : Statement (.adjustingFinalReading tag b) := fun h => body_shape _ _ b h
theorem configureBranch (p : Port) (tag : Byte) (b : Body ConfigureBranchMsg) : Statement (.configureBranch p tag b) := fun h => body_shape _ _ b h
theorem setUrgencyMap (p : Port) (tag : Byte) (b : Body UrgencyMapMsg) : Statement (.setUrgencyMap p tag b) := fun h => body_shape _ _ b h
theorem setEngine (p : Port) (tag : Byte) (b : Body SetEngineMsg) : Statement (.setEngine p tag b) := fun h => body_shape _ _ b h
theorem engineRestart (p : Port) (tag : Byte) (b : Body Unit) : Statement (.engineRestart p tag b) := fun h => body_shape _ _ b h
theorem configureStockLine (p : Port) (tag : Byte) (b : Body StockLineMsg) : Statement (.configureStockLine p tag b) := fun h => body_shape _ _ b h
theorem stockReceipt (p : Port) (tag : Byte) (b : Body ReceiptMsg) : Statement (.stockReceipt p tag b) := fun h => body_shape _ _ b h
theorem stockSale (p : Port) (tag : Byte) (b : Body PiecesMsg) : Statement (.stockSale p tag b) := fun h => body_shape _ _ b h
theorem stockSpoil (p : Port) (tag : Byte) (b : Body PiecesMsg) : Statement (.stockSpoil p tag b) := fun h => body_shape _ _ b h
theorem stockCount (p : Port) (tag : Byte) (b : Body PiecesMsg) : Statement (.stockCount p tag b) := fun h => body_shape _ _ b h
theorem loadList (p : Port) (tag : Byte) (b : Body LoadListMsg) : Statement (.loadList p tag b) := fun h => body_shape _ _ b h
theorem startList (p : Port) (tag : Byte) (b : Body StartListMsg) : Statement (.startList p tag b) := fun h => body_shape _ _ b h
theorem haltList (p : Port) (tag : Byte) (b : Body Unit) : Statement (.haltList p tag b) := fun h => body_shape _ _ b h
theorem abortList (p : Port) (tag : Byte) (b : Body Unit) : Statement (.abortList p tag b) := fun h => body_shape _ _ b h
theorem clearList (p : Port) (tag : Byte) (b : Body Unit) : Statement (.clearList p tag b) := fun h => body_shape _ _ b h
theorem closePeriod (p : Port) (tag : Byte) (b : Body StampMsg) : Statement (.closePeriod p tag b) := fun h => body_shape _ _ b h
theorem collectPeriod (p : Port) (tag : Byte) (b : Body StampMsg) : Statement (.collectPeriod p tag b) := fun h => body_shape _ _ b h
theorem setNotices (p : Port) (tag : Byte) (b : Body SetNoticesMsg) : Statement (.setNotices p tag b) := fun h => body_shape _ _ b h
theorem commission (p : Port) (tag : Byte) (b : Body Unit) : Statement (.commission p tag b) := fun h => body_shape _ _ b h
theorem refund (p : Port) (tag : Byte) (b : Body RefundMsg) : Statement (.refund p tag b) := fun h => body_shape _ _ b h
theorem setPoolLimits (p : Port) (tag : Byte) (b : Body PoolLimitsMsg) : Statement (.setPoolLimits p tag b) := fun h => body_shape _ _ b h
theorem setFaultPolicy (p : Port) (tag : Byte) (b : Body PolicyMsg) : Statement (.setFaultPolicy p tag b) := fun h => body_shape _ _ b h
theorem setTolerance (p : Port) (tag : Byte) (b : Body ToleranceMsg) : Statement (.setTolerance p tag b) := fun h => body_shape _ _ b h
theorem resumeMeter (p : Port) (tag : Byte) (b : Body MeterMsg) : Statement (.resumeMeter p tag b) := fun h => body_shape _ _ b h
theorem release (p : Port) (tag : Byte) (b : Body Unit) : Statement (.release p tag b) := fun h => body_shape _ _ b h
theorem clearFaults (p : Port) (tag : Byte) (b : Body Unit) : Statement (.clearFaults p tag b) := fun h => body_shape _ _ b h
theorem queryPool (p : Port) (tag : Byte) (b : Body Unit) : Statement (.queryPool p tag b) := fun h => body_shape _ _ b h
theorem queryMeter (p : Port) (tag : Byte) (b : Body MeterMsg) : Statement (.queryMeter p tag b) := fun h => body_shape _ _ b h
theorem queryBranch (p : Port) (tag : Byte) (b : Body BranchMsg) : Statement (.queryBranch p tag b) := fun h => body_shape _ _ b h
theorem queryStock (p : Port) (tag : Byte) (b : Body QueryStockMsg) : Statement (.queryStock p tag b) := fun h => body_shape _ _ b h
theorem queryList (p : Port) (tag : Byte) (b : Body QueryListMsg) : Statement (.queryList p tag b) := fun h => body_shape _ _ b h
theorem queryPeriod (p : Port) (tag : Byte) (b : Body QueryPeriodMsg) : Statement (.queryPeriod p tag b) := fun h => body_shape _ _ b h
theorem queryFaults (p : Port) (tag : Byte) (b : Body Unit) : Statement (.queryFaults p tag b) := fun h => body_shape _ _ b h
theorem queryLine (p : Port) (tag : Byte) (b : Body QueryLineMsg) : Statement (.queryLine p tag b) := fun h => body_shape _ _ b h
theorem queryNotices (p : Port) (tag : Byte) (b : Body Unit) : Statement (.queryNotices p tag b) := fun h => body_shape _ _ b h
theorem unknownKind (p : Port) (tag : Byte) (kind : Byte) (body : List Byte) : Statement (.unknownKind p tag kind body) := by
  intro h
  simpa [Instr.wellFormed, inboundCode] using h
theorem discardedByte (p : Port) (b : Byte) (stop : Bool) : Statement (.discardedByte p b stop) := by
  intro h
  simpa [Instr.wellFormed] using h
theorem shortLength (p : Port) (b : Byte) (stop : Bool) : Statement (.shortLength p b stop) := fun h => of_decide_eq_true h
theorem silence (p : Port) : Statement (.silence p) := fun _ => trivial
theorem frameCheck (p : Port) (b : Byte) (stop : Bool) : Statement (.frameCheck p b stop) := fun _ => trivial
theorem overrun (p : Port) : Statement (.overrun p) := fun _ => trivial
theorem lineBreak (p : Port) : Statement (.lineBreak p) := fun _ => trivial
theorem breakEnd (p : Port) : Statement (.breakEnd p) := fun _ => trivial
theorem frameTransmissionStart (p : Port) (readyIn : Bool) : Statement (.frameTransmissionStart p readyIn) := fun _ => trivial
theorem fullyTransmitted (p : Port) : Statement (.fullyTransmitted p) := fun _ => trivial
theorem selection : Statement (.selection) := fun _ => trivial
theorem queuingOpportunity (p : Port) : Statement (.queuingOpportunity p) := fun _ => trivial
theorem supervisionExpiry (m : MeterId) : Statement (.supervisionExpiry m) := fun _ => trivial
theorem holdOffExpiry (m : MeterId) : Statement (.holdOffExpiry m) := fun _ => trivial
theorem grantExpiry (k : SlotId) : Statement (.grantExpiry k) := fun _ => trivial
theorem powerOn (straps : Straps) : Statement (.powerOn straps) := fun _ => trivial
theorem powerOnRetentionLost (straps : Straps) : Statement (.powerOnRetentionLost straps) := fun _ => trivial
theorem startMarkerReceived (p : Port) : Statement (.startMarkerReceived p) := fun _ => trivial
theorem frameByteReceived (p : Port) (b : Byte) (stop : Bool) : Statement (.frameByteReceived p b stop) := fun _ => trivial
theorem powerLoss : Statement (.powerLoss) := fun _ => trivial

end Sys2Proof.Laws.WireShape
end

