-- ==== Sys2Proof/Tests/Slice0.lean ====
section
/-!
SUPPORT. The author's own tests: the well-formedness checks, one step each of the manual's worked sequences, and for every
statement with hypotheses a state and operands that meet them.
Expected values are the manual's, or are worked out by hand from its rules.
-/

namespace Sys2Proof.Tests

open Sys2Proof.Machine

set_option Elab.async false

/-- The state after a command. -/
def after (c : Instr) (s : State) : State :=
  match exec c s with
  | .next t => t
  | _ => s

/-- The status and body of the newest reply on a port. -/
def answered (p : Port) (s : State) : Option (Status × List WireField) :=
  match (s.line p).queue.getLast? with
  | some (.reply _ status _ body) => some (status, body)
  | _ => none

/-! ## Well-formedness refuses ill-formed commands -/

theorem test_fields_of_an_overlong_list_are_refused :
    (Instr.loadList .operations 0 (.fields ⟨List.replicate 256 ⟨0, 1, 0⟩⟩)).wellFormed = false := by
  decide +kernel

theorem test_other_length_that_the_row_takes_is_refused :
    (Instr.suspendMeter .operations 0 (.otherLength [7])).wellFormed = false := by decide

theorem test_other_length_of_a_whole_list_is_refused :
    (Instr.loadList .operations 0 (.otherLength [1, 0, 0, 0, 0, 0, 0, 0, 0])).wellFormed = false := by decide

theorem test_other_length_beyond_a_frame_is_refused :
    (Instr.suspendMeter .operations 0 (.otherLength (List.replicate 65534 0))).wellFormed = false := by
  decide +kernel

theorem test_a_known_code_is_no_unknown_kind : (Instr.unknownKind .operations 0 0x48 []).wellFormed = false := by decide

theorem test_an_unknown_body_beyond_a_frame_is_refused :
    (Instr.unknownKind .operations 0 0x49 (List.replicate 65534 0)).wellFormed = false := by
  decide +kernel

theorem test_a_start_marker_is_not_discarded : (Instr.discardedByte .audit 0xA5 true).wellFormed = false := by decide

theorem test_a_length_of_two_is_not_short : (Instr.shortLength .audit 2 true).wellFormed = false := by decide

theorem test_well_formed_commands_are_accepted :
    (Instr.suspendMeter .operations 0 (.fields ⟨7⟩)).wellFormed = true ∧
      (Instr.suspendMeter .operations 0 (.otherLength [])).wellFormed = true ∧
      (Instr.unknownKind .operations 0 0x49 [1]).wellFormed = true ∧
      (Instr.discardedByte .audit 0xA5 false).wellFormed = true ∧ (Instr.shortLength .audit 1 true).wellFormed = true := by
  decide

/-! ## A part in service -/

/-- A part in service with its log empty, and a pool of `p` under the floor, threshold and level given. -/
def serving (p f t e : Nat) (c : PoolCondition) : State :=
  { State.reset with
    pool := { Pool.lost with p := p, dep := p, floor := f, threshold := t, engagement := e, recorded := c, worst := c }
    monitor := { state := .inService, policy := .strict, log := FaultLog.empty }
    engine := { Engine.lost with state := .active }
    notices := { classes := Notices.defaults, cause := .commission, completed := false } }

/-- A configured branch of the class and batch setting. -/
def withBranch (b : BranchId) (c : Priority) (batch : Bool) : State → State :=
  modBranch b (fun x => { x with configured := true, cls := c, batch := batch })

/-- An ACTIVE meter of a branch, with its registers. -/
def withMeter (m : MeterId) (b : BranchId) (ar dr : Nat) : State → State :=
  modMeter m (fun _ => { Meter.lost with
    state := .active, branch := b, base := ar, credited := dr, ct := ar + dr, arMirror := ar, drMirror := dr
    supervision := some 93600 })

/-- A pending request of a meter. -/
def withRequest (m : MeterId) (b : BranchId) (q : Nat) (u : Urgency) (s : State) : State :=
  modBranch b (fun x => { x with order := x.order ++ [m] })
    (modMeter m (fun r => { r with pendingReq := some { q := q, urgency := u } }) s)

/-- An unresolved grant of a meter: OFFERED in a slot, or DOUBTFUL. -/
def withGrant (m : MeterId) (serial : Word16) (amount : Nat) (slot : Option SlotId) (expiry : Word32) (s : State) : State :=
  let s := modMeter m (fun r => { r with
    grant := some { serial := serial, amount := amount, source := .request
                    phase := slot.elim .doubtful .offered } }) s
  let s := { s with pool := { s.pool with g := s.pool.g + amount, dep := s.pool.dep + amount } }
  match slot with
  | none => s
  | some k => { s with engine := { s.engine with
      slots := modifyAt s.engine.slots k (fun _ => some { serial := serial, meter := m, amount := amount, expiry := expiry })
      nextSerial := serial + 1 } }

/-! ## The pool (01_pool_accounts.md, the worked sequence) -/

theorem test_first_deposit_opens_the_pool :
    let t := after (.deposit .operations 1 (.fields ⟨1001, 3000000⟩)) (serving 0 1000000 2000000 50000 .dry)
    (t.pool.p, t.pool.dep, t.pool.recorded, t.pool.worst) = (3000000, 3000000, .opened, .dry) ∧
      answered .operations t = some (.ok, [.u32 1001, .u48 3000000, .u48 2000000, .u8 0]) := by
  decide +kernel

theorem test_repeated_voucher_is_out_of_range :
    let s := after (.deposit .operations 1 (.fields ⟨1001, 3000000⟩)) (serving 0 1000000 2000000 50000 .dry)
    let t := after (.deposit .operations 2 (.fields ⟨1001, 500000⟩)) s
    t.pool.p = 3000000 ∧ answered .operations t = some (.outOfRange, []) := by
  decide +kernel

theorem test_refund_empties_the_available_pool :
    let t := after (.refund .audit 3 (.fields ⟨1800000⟩)) (serving 2700000 1000000 2000000 50000 .ration)
    (t.pool.p, t.pool.rf, t.pool.available, t.pool.recorded) = (900000, 1800000, 0, .dry) ∧
      (t.noticeClass .pool).phase = .pending := by
  decide +kernel

/-! ## Meters (02_the_meter_table.md, the worked sequence of meter 77) -/

/-- Branch 12 with its LABEL line 4 and ADHESIVE line 1 (08_branch_stock_accounts.md), and meter 77 linked to line 4. -/
def office : State :=
  let line (l : LineNo) (x : StockLine) := modStockLine 12 l (fun _ => x)
  let s := withMeter 77 12 9372500 187500 (withBranch 12 .low false (serving 1000000 0 0 1 .opened))
  let s := modMeter 77 (fun r => { r with
    lastLabels := 40237
    settings := { ceiling := 400000, step := 1000, minimum := 5000, holdOff := 900, hours := 12, link := some 4 } }) s
  let s := { s with stock := { s.stock with tolerance := 1000 } }
  line 1 { StockLine.lost with configured := true, item := 2110, kind := .adhesive, face := 85, level := 2000, onHand := 2300 }
    (line 4 { StockLine.lost with configured := true, item := 3040, kind := .label, level := 500, onHand := 540 } s)

theorem test_enrolment_opens_a_record :
    let s := withBranch 12 .low false (serving 0 0 0 1 .dry)
    let t := after (.enrolMeter .operations 1 (.fields ⟨77, 12, 9310000, 0, 40112⟩)) s
    let r := t.meter 77
    (r.state, r.ct, r.arMirror, r.drMirror, r.lastLabels) = (.active, 9310000, 9310000, 0, 40112) ∧
      r.supervision = some 93600 ∧ r.holdOff = none := by
  decide +kernel

theorem test_configured_period_restarts_supervision :
    let s := withMeter 77 12 9310000 0 office
    let t := after (.configureMeter .operations 1 (.fields ⟨77, 400000, 1000, 5000, 900, 12, 4⟩)) s
    (t.meter 77).supervision = some 43200 ∧ (t.meter 77).settings.link = some 4 := by
  decide +kernel

theorem test_link_to_a_line_of_another_kind_is_out_of_range :
    let t := after (.configureMeter .operations 1 (.fields ⟨77, 400000, 1000, 5000, 900, 12, 1⟩)) office
    answered .operations t = some (.outOfRange, []) := by
  decide +kernel

theorem test_consistent_report_is_accepted :
    let s := modMeter 77 (fun r => { r with arMirror := 9310000, drMirror := 250000, lastLabels := 40112 }) office
    let t := after (.meterStatus .operations 1 (.fields ⟨77, 9372500, 187500, 40237⟩)) s
    let r := t.meter 77
    (r.state, r.arMirror, r.drMirror, r.lastLabels) = (.active, 9372500, 187500, 40237) ∧
      (t.periods.current.branches.get 12).used = 62500 ∧ (t.stockLine 12 4).onHand = 415 := by
  decide +kernel

theorem test_mismatch_suspends_and_locks_down :
    let t := after (.meterStatus .operations 1 (.fields ⟨77, 9401000, 160000, 40290⟩)) office
    let r := t.meter 77
    (r.state, r.arMirror, r.lastLabels, r.rejected, r.supervision) =
        (.suspended, 9372500, 40237, some ⟨9401000, 160000⟩, none) ∧
      (t.monitor.state, t.monitor.log.lastKind, t.engine.state) = (.lockdown, some .totalMismatch, .stopped) := by
  decide +kernel

/-! ## Grants (04_grant_computation.md, the worked cases of meter 12) -/

/-- Meter 12 of branch 3 and its request, under a rationed pool. -/
def rationed : State :=
  let s := withMeter 12 3 4050000 150000 (withBranch 3 .low false (serving 2500000 1000000 2000000 50000 .ration))
  let s := modBranch 3 (fun b => { b with weight := 13, allowance := some { period := 900000, remaining := 800000 } }) s
  let s := modMeter 12 (fun r => { r with
    settings := { r.settings with ceiling := 600000, step := 5000, minimum := 10000 } }) s
  withRequest 12 3 500000 2 s

theorem test_rationed_request_is_granted :
    let t := after .selection rationed
    (t.pool.p, t.pool.g, (t.branch 3).allowance.map Allowance.remaining) = (2200000, 300000, some 500000) ∧
      (t.meter 12).grant = some { serial := 1, amount := 300000, phase := .offered 0, source := .request } ∧
      (t.meter 12).pendingReq = none ∧ (t.branch 3).order = [] ∧
      t.operations.queue = [.grantOffer 12 1 300000 180] := by
  decide +kernel

theorem test_share_of_a_light_branch_is_below_the_minimum :
    let s := modMeter 12 (fun r => { r with settings := { r.settings with minimum := 25000 } })
      (modBranch 3 (fun b => { b with weight := 1 }) rationed)
    let t := after .selection s
    (t.branch 3).pace = 15 ∧ t.pool.p = 2500000 ∧ t.operations.queue = [.refillRefused 12 .ration] := by
  decide +kernel

theorem test_full_meter_is_refused_at_the_ceiling :
    let s := modMeter 12 (fun r => { r with arMirror := 3602000, drMirror := 598000 }) rationed
    (after .selection s).operations.queue = [.refillRefused 12 .ceiling] := by
  decide +kernel

theorem test_small_request_is_refused_at_the_minimum :
    let s := modMeter 12 (fun r => { r with pendingReq := some { q := 8000, urgency := 2 } }) rationed
    (after .selection s).operations.queue = [.refillRefused 12 .minimum] := by
  decide +kernel

/-! ## Arbitration (03_branches_refill_requests_and_arbitration.md, the worked sequences) -/

/-- Two HIGH branches and two LOW ones with their requests. -/
def rings (batch : Bool) : State :=
  let s := withBranch 3 .high batch (withBranch 5 .low false (withBranch 9 .high false (withBranch 20 .low false
    (serving 50000000 0 0 1 .opened))))
  let add (m : MeterId) (b : BranchId) (s : State) : State := withRequest m b 50000 2 (withMeter m b 0 0 s)
  add 80 20 (add 37 9 (add 36 9 (add 20 5 (add 13 3 (add 12 3 s)))))

theorem test_first_selection_serves_the_first_high_branch :
    let t := after .selection (rings false)
    t.arbiter = { high := 4, low := 0, holder := none, counter := 0 } ∧ (t.meter 12).grant.isSome = true := by
  decide +kernel

theorem test_the_low_slot_is_served_in_its_turn :
    let s := { rings false with arbiter := { high := 10, low := 0, holder := none, counter := 0 } }
    let t := after .selection s
    t.arbiter = { high := 0, low := 6, holder := none, counter := 0 } ∧ (t.meter 20).grant.isSome = true := by
  decide +kernel

theorem test_a_batch_holder_continues :
    let s := { rings true with arbiter := { high := 4, low := 0, holder := some (3, .high), counter := 1 } }
    let t := after .selection s
    t.arbiter = { high := 4, low := 0, holder := some (3, .high), counter := 2 } ∧ (t.meter 12).grant.isSome = true := by
  decide +kernel

theorem test_a_full_batch_gives_way :
    let s := { rings true with arbiter := { high := 4, low := 0, holder := some (3, .high), counter := 4 } }
    let t := after .selection s
    t.arbiter = { high := 10, low := 0, holder := none, counter := 0 } ∧ (t.meter 36).grant.isSome = true := by
  decide +kernel

theorem test_a_request_replaces_the_meters_own :
    let t := after (.refillRequest .operations 9 (.fields ⟨13, 70000, 7⟩)) (rings false)
    (t.branch 3).order = [12, 13] ∧ (t.meter 13).pendingReq = some { q := 70000, urgency := 7 } ∧
      answered .operations t = some (.queued, [.u8 13, .u8 3, .u8 2, .u8 2, .u8 0, .u32 0]) := by
  decide +kernel

/-! ## Delivery and resolution (05_grant_delivery_and_resolution.md, the worked sequences) -/

/-- Meter 40 of branch 7 with grant 3,107 of 120,000, OFFERED in slot 0 or DOUBTFUL. -/
def offered (slot : Option SlotId) : State :=
  let s := withMeter 40 7 1950000 50000 (withBranch 7 .low false (serving 780000 0 0 1 .opened))
  let s := modBranch 7 (fun b => { b with allowance := some { period := 1000000, remaining := 280000 } }) s
  let s := { s with monitor := { s.monitor with policy := .advisory } }
  withGrant 40 3107 120000 slot 1180 s

theorem test_an_expired_grant_is_doubtful :
    let t := after (.grantExpiry 0) (offered (some 0))
    (t.meter 40).grant = some { serial := 3107, amount := 120000, phase := .doubtful, source := .request } ∧
      t.engine.slots.get 0 = none ∧ t.pool.g = 120000 ∧ t.timeBase = 1180 := by
  decide +kernel

theorem test_a_report_releases_a_doubtful_grant :
    let t := after (.meterStatus .operations 1 (.fields ⟨40, 1962000, 38000, 0⟩)) (offered none)
    (t.pool.p, t.pool.g, (t.branch 7).allowance.map Allowance.remaining) = (900000, 0, some 400000) ∧
      (t.meter 40).lastOutcome = some { serial := 3107, result := .reversed, claim := .none } ∧
      (t.periods.current.branches.get 7).used = 12000 ∧ (t.periods.current.branches.get 7).reversed = 1 := by
  decide +kernel

theorem test_a_contested_grant_is_confirmed_and_suspends :
    let t := after (.grantRejected .operations 2 (.fields ⟨40, 3107, 12, 1962000, 158000, 0⟩)) (offered (some 0))
    let r := t.meter 40
    (r.ct, r.state, r.holdOff, t.pool.i, t.pool.g) = (2120000, .suspended, some 600, 120000, 0) ∧
      r.lastOutcome = some { serial := 3107, result := .applied, claim := .rejected 12 } ∧
      answered .operations t =
        some (.ok, [.u8 3, .u8 0, .u8 1, .u8 2, .u8 3, .u48 2120000, .u48 1962000, .u48 158000, .u8 0]) := by
  decide +kernel

theorem test_a_restart_waits_for_an_offer :
    let s := after (.engineRestart .operations 1 (.fields ())) (offered (some 0))
    let t := after (.grantExpiry 0) s
    answered .operations s = some (.ok, [.u8 1, .u8 1]) ∧ s.engine.state = .quiescing ∧ t.engine.state = .active ∧
      t.notices.cause = .restart := by
  decide +kernel

/-! ## The distribution list (06_distribution_lists.md, the worked sequence) -/

/-- A RUNNING list of one entry for meter 12, and the figures of the rationed case. -/
def listed (q : Nat) (quiet stop : Bool) : State :=
  let s := modBranch 3 (fun b => { b with order := [] }) (modMeter 12 (fun r => { r with pendingReq := none }) rationed)
  { s with list :=
      { state := .running, next := 0, cls := .high, batch := false
        entries := [{ meter := 12, q := q, quiet := quiet, stopOnShort := stop, outcome := .waiting, serial := none },
                    { meter := 40, q := 100000, quiet := false, stopOnShort := false, outcome := .waiting, serial := none }] } }

theorem test_a_list_is_loaded_and_started :
    let s := serving 5000000 0 0 1 .opened
    let t := after (.loadList .operations 1 (.fields ⟨[⟨12, 200000, 0⟩, ⟨90, 80000, 2⟩, ⟨91, 60000, 1⟩]⟩)) s
    let u := after (.startList .operations 2 (.fields ⟨1, 0⟩)) t
    t.list.entries.map (fun e => (e.meter.val, e.q, e.quiet, e.stopOnShort)) =
        [(12, 200000, false, false), (90, 80000, false, true), (91, 60000, true, false)] ∧
      (t.list.state, u.list.state, u.list.next) = (.loaded, .running, 0) := by
  decide +kernel

theorem test_an_entry_passes_over_share_and_minimum :
    let t := after .selection (listed 500000 false false)
    (t.pool.p, t.list.next, t.list.state) = (2050000, 1, .running) ∧
      t.list.entries.map Entry.outcome = [.offered, .waiting] ∧
      (t.meter 12).grant = some { serial := 1, amount := 450000, phase := .offered 0, source := .list (some 0) } := by
  decide +kernel

theorem test_a_short_entry_stops_the_list :
    let s := modMeter 12 (fun r => { r with settings := { r.settings with ceiling := 153000 } }) (listed 80000 false true)
    let t := after .selection s
    (t.pool.p, t.list.next, t.list.state) = (2500000, 1, .halted) ∧
      t.list.entries.map Entry.outcome = [.short .ceiling, .waiting] ∧ (t.noticeClass .list).phase = .pending := by
  decide +kernel

/-- The notice of that halt: HALTED, two entries, one WAITING and one SHORT, next entry 1, and CEILING as the one cause (R79,
R127). -/
theorem test_the_list_notice_shows_the_cause :
    let s := modMeter 12 (fun r => { r with settings := { r.settings with ceiling := 153000 } }) (listed 80000 false true)
    noticeBody (after .selection s) .list =
      [.u8 4, .u8 2, .u8 1, .u8 0, .u8 0, .u8 0, .u8 0, .u8 0, .u8 1, .u8 0, .u8 1, .u8 1, .u8 0, .u8 0] := by
  decide +kernel

theorem test_an_entry_of_an_inactive_meter_is_skipped :
    let s := modMeter 12 (fun r => { r with state := .suspended }) (listed 80000 false false)
    let t := after .selection s
    t.list.entries.map Entry.outcome = [.skippedState .suspended, .waiting] ∧ (t.noticeClass .list).phase = .pending := by
  decide +kernel

theorem test_an_aborted_list_abandons_its_entries :
    let t := after (.abortList .operations 1 (.fields ())) (listed 80000 false false)
    t.list.entries.map Entry.outcome = [.abandoned, .abandoned] ∧
      answered .operations t = some (.ok, [.u8 0, .u8 0, .u8 0, .u8 0, .u8 0, .u8 0, .u8 0, .u8 2]) := by
  decide +kernel

theorem test_a_halted_list_keeps_its_place :
    let t := after (.haltList .operations 1 (.fields ())) (listed 80000 false false)
    (t.list.state, t.list.next) = (.halted, 0) ∧ answered .operations t = some (.ok, [.u8 4, .u8 0]) := by
  decide +kernel

/-- Meter 40's grant of the list, the last one that a list in DRAINING-LIST waits for. -/
def drained : State :=
  let s := modMeter 40 (fun r => { r with grant := r.grant.map (fun g => { g with source := .list (some 1) }) })
    (offered none)
  { s with list :=
      { state := .drainingList, next := 2, cls := .high, batch := false
        entries :=
          [{ meter := 12, q := 5, quiet := false, stopOnShort := false, outcome := .applied, serial := some 3000 },
           { meter := 40, q := 120000, quiet := true, stopOnShort := false, outcome := .offered, serial := some 3107 }] } }

theorem test_the_last_release_ends_the_run :
    let t := after (.meterStatus .operations 1 (.fields ⟨40, 1962000, 38000, 0⟩)) drained
    (t.list.state, t.list.entries.map Entry.outcome) = (.done, [.applied, .reversed]) ∧
      (t.noticeClass .list).phase = .pending ∧ (t.branch 7).allowance.map Allowance.remaining = some 280000 := by
  decide +kernel

theorem test_an_entry_shows_one_flags_byte :
    (entryFields ({ meter := 12, q := 5, quiet := true, stopOnShort := true, outcome := .waiting, serial := none }, 0))[3]? =
      some (.u8 3) := by
  decide +kernel

theorem test_an_aborted_list_is_cleared :
    let s := after (.abortList .operations 1 (.fields ())) (after .selection (listed 500000 false false))
    let t := after (.clearList .operations 2 (.fields ())) s
    (t.list.state, t.list.entries) = (.empty, []) ∧ answered .operations t = some (.ok, [.u8 1]) ∧
      ((t.meter 12).grant.map Grant.source) = some (.list none) := by
  decide +kernel

/-! ## Retirement (07_meter_retirement.md, the worked sequence of meter 55) -/

/-- Meter 55 of branch 4 with grant 912 of 150,000. -/
def retiring (st : MeterState) (slot : Option SlotId) : State :=
  let s := withMeter 55 4 2900000 100000 (withBranch 4 .low false (serving 1000000 0 0 1 .opened))
  let s := modBranch 4 (fun b => { b with allowance := some { period := 600000, remaining := 200000 } }) s
  let s := { s with monitor := { s.monitor with policy := .advisory }, pool := { s.pool with i := 0 } }
  let s := modStockLine 4 2 (fun x => { x with configured := true, kind := .label, onHand := 1000 }) s
  let s := withGrant 55 912 150000 slot 5120 s
  modMeter 55 (fun r => { r with
    state := st, lastLabels := 51000, supervision := if st = .active then r.supervision else none
    settings := { r.settings with link := some 2 } }) s

theorem test_retirement_drains_an_offered_grant :
    let t := after (.retireMeter .operations 1 (.fields ⟨55⟩)) (retiring .active (some 3))
    (t.meter 55).state = .draining ∧ (t.meter 55).supervision = none ∧
      answered .operations t = some (.ok, [.u8 55, .u8 4, .u8 1, .u16 912, .u48 150000, .u8 0]) := by
  decide +kernel

theorem test_an_expiry_ends_draining :
    ((after (.grantExpiry 3) (retiring .draining (some 3))).meter 55).state = .awaitingReading := by
  decide +kernel

theorem test_a_final_mismatch_keeps_the_grant :
    let t := after (.meterStatus .operations 1 (.fields ⟨55, 2960000, 195000, 51240⟩)) (retiring .awaitingReading none)
    let r := t.meter 55
    (r.state, r.rejected, r.grant.isSome) = (.awaitingReading, some ⟨2960000, 195000⟩, true) ∧
      (t.monitor.log.lastKind, t.monitor.state) = (some .finalMismatch, .inService) := by
  decide +kernel

theorem test_an_adjusting_reading_retires_the_meter :
    let t := after (.adjustingFinalReading 1 (.fields ⟨55, 2960000, 195000, 51240⟩)) (retiring .awaitingReading none)
    let r := t.meter 55
    (r.state, r.grant, r.ct, r.arMirror, r.drMirror) = (.retired, none, 3155000, 2960000, 195000) ∧
      (t.pool.p, t.pool.g, t.pool.i, t.pool.r) = (1190000, 0, 155000, 195000) ∧
      (t.branch 4).allowance.map Allowance.remaining = some 350000 ∧ (t.stockLine 4 2).onHand = 760 ∧
      (t.periods.current.adjustments, (t.periods.current.branches.get 4).used) = (155000, 60000) ∧
      t.retireList.map (fun e => (e.swept, e.delta)) = [(195000, 155000)] := by
  decide +kernel

theorem test_a_final_reading_confirms_and_sweeps :
    let t := after (.finalReading 1 (.fields ⟨55, 2960000, 190000, 51240⟩)) (retiring .awaitingReading none)
    let r := t.meter 55
    (r.state, r.ct, r.drMirror, t.pool.p, t.pool.i, t.pool.r) = (.retired, 3150000, 190000, 1190000, 150000, 190000) := by
  decide +kernel

theorem test_a_contested_final_reading_retires_and_faults :
    let t := after (.grantApplied .operations 1 (.fields ⟨55, 912, 2960000, 40000, 51240⟩)) (retiring .awaitingReading none)
    (t.meter 55).state = .retired ∧ t.monitor.log.lastKind = some .claimMismatch ∧
      (t.meter 55).lastOutcome = some { serial := 912, result := .reversed, claim := .applied } ∧ t.pool.p = 1190000 := by
  decide +kernel

/-! ## Stock (08_branch_stock_accounts.md, the worked sequence) -/

theorem test_a_sale_above_the_level :
    let t := after (.stockSale .operations 1 (.fields ⟨12, 1, 250⟩)) office
    ((t.stockLine 12 1).onHand, (t.stockLine 12 1).issues, (t.periods.current.branches.get 12).sales) = (2050, 250, 21250) ∧
      t.stock.reorder = [] := by
  decide +kernel

theorem test_spoilage_below_the_level_is_raised :
    let s := modStockLine 12 1 (fun x => { x with onHand := 2050 }) office
    let t := after (.stockSpoil .operations 1 (.fields ⟨12, 1, 60⟩)) s
    ((t.stockLine 12 1).onHand, (t.stockLine 12 1).raised, (t.periods.current.branches.get 12).spoilage) = (1990, true, 5100) ∧
      t.stock.reorder = [(12, 1)] ∧ (t.noticeClass .reorder).phase = .pending := by
  decide +kernel

theorem test_labels_beyond_the_stock_are_short :
    let t := after (.meterStatus .operations 1 (.fields ⟨77, 9372500, 187500, 40857⟩)) office
    let x := t.stockLine 12 4
    (x.onHand, x.shortfall, x.issues, x.raised) = (0, 80, 620, true) ∧ t.stock.reorder = [(12, 4)] := by
  decide +kernel

theorem test_a_paid_receipt_is_a_purchase :
    let s := { modStockLine 12 1 (fun x => { x with onHand := 1990, raised := true }) office with
      stock := { (modStockLine 12 1 (fun x => { x with onHand := 1990, raised := true }) office).stock with
        reorder := [(12, 1), (12, 4)] } }
    let t := after (.stockReceipt .operations 1 (.fields ⟨12, 1, 1000, 1⟩)) s
    ((t.stockLine 12 1).onHand, t.pool.p, t.pool.k) = (2990, 915000, 85000) ∧ t.stock.reorder = [(12, 4)] := by
  decide +kernel

theorem test_a_count_beyond_the_tolerance_is_a_fault :
    let s := modStockLine 12 1 (fun x => { x with onHand := 2990 }) office
    let t := after (.stockCount .operations 1 (.fields ⟨12, 1, 2960⟩)) s
    (t.periods.current.branches.get 12).variance = -2550 ∧ t.monitor.log.lastKind = some .stockVariance ∧
      answered .operations t =
        some (.ok, [.u8 12, .u8 1, .u32 2990, .u32 2960, .s64 (-30), .s64 (-2550), .u32 0, .u8 0, .u8 1]) := by
  decide +kernel

/-! ## Periods (09_accounting_periods.md, the worked sequence) -/

/-- Stamp 101 is current; period 0 is closed and not collected. -/
def closing : State :=
  let s := withBranch 7 .low false (serving 2080000 0 0 1 .opened)
  let s := modBranch 7 (fun b => { b with allowance := some { period := 400000, remaining := 250000 } }) s
  let bank (stamp : Word32) (dep ref used n amount short : Nat) : Bank :=
    { Bank.opened stamp with
      deposits := dep, refunds := ref
      branches := modifyAt (Bank.opened 0).branches 7 (fun k => { k with
        used := used, appliedCount := n, appliedAmount := amount, short := short }) }
  { s with periods :=
      { current := bank 101 0 500000 60000 1 100000 1
        closing := { bank 0 3000000 0 150000 2 270000 0 with poolAtClose := some 2730000 }
        held := true, collected := false } }

theorem test_an_uncollected_period_is_merged :
    let t := after (.closePeriod .operations 1 (.fields ⟨102⟩)) closing
    let k := t.periods.closing
    (k.stamp, k.spanned, k.deposits, k.refunds, k.poolAtClose) = (101, 2, 3000000, 500000, some 2080000) ∧
      k.branches.get 7 = { used := 210000, appliedCount := 3, appliedAmount := 370000, reversed := 0, short := 1, sales := 0,
                           spoilage := 0, variance := 0 } ∧
      (t.branch 7).allowance = some { period := 400000, remaining := 400000 } ∧ t.periods.current.stamp = 102 := by
  decide +kernel

theorem test_a_close_under_the_current_stamp_is_repeated :
    answered .operations (after (.closePeriod .operations 1 (.fields ⟨101⟩)) closing) =
      some (.ok, [.u8 9, .u32 0, .u8 1, .u8 0, .u8 1, .u48 2730000, .u32 101]) := by
  decide +kernel

/-! ## Faults and operating states (10_faults_lockdown_and_operating_states.md, the worked sequence) -/

/-- Meter 30 SUSPENDED with its rejected reading. -/
def suspended : State :=
  modMeter 30 (fun r => { r with state := .suspended, supervision := none, rejected := some { ar := 4830000, dr := 190000 } })
    (withMeter 30 2 4800000 200000 (withBranch 2 .low false (serving 2000000 0 0 1 .opened)))

theorem test_lockdown_turns_a_deposit_away :
    let s := { suspended with monitor := { suspended.monitor with state := .lockdown } }
    answered .operations (after (.deposit .operations 1 (.fields ⟨1, 5⟩)) s) = some (.locked, []) := by
  decide +kernel

theorem test_resumption_rebaselines_the_meter :
    let t := after (.resumeMeter .audit 1 (.fields ⟨30⟩)) suspended
    let r := t.meter 30
    (r.state, r.ct, r.arMirror, r.drMirror, r.rejected) = (.active, 5020000, 4830000, 190000, none) ∧
      (t.pool.p, t.pool.i, t.periods.current.adjustments) = (1980000, 20000, 20000) ∧
      (t.periods.current.branches.get 2).used = 30000 := by
  decide +kernel

theorem test_commissioning_starts_the_engine :
    let t := after (.commission .audit 1 (.fields ())) State.reset
    (t.monitor.state, t.engine.state, t.notices.cause) = (.inService, .active, .commission) := by
  decide +kernel

theorem test_a_deposit_on_the_audit_port_is_refused :
    answered .audit (after (.deposit .audit 1 (.fields ⟨1, 5⟩)) suspended) = some (.wrongPort, []) := by
  decide +kernel

/-! ## Lines and notices (11_lines_messages_and_notices.md) -/

/-- R193: the check value of the nine bytes 31H to 39H under this polynomial and initial value is 29B1H. -/
theorem test_the_check_of_the_standard_string :
    checkOf [0x31, 0x32, 0x33, 0x34, 0x35, 0x36, 0x37, 0x38, 0x39] = 0x29B1 := by
  decide +kernel

theorem test_a_frame_arrives_byte_by_byte :
    let bytes := frameBytes 0x48 9 []
    let s := (bytes.tail.dropLast).foldl (fun s b => after (.frameByteReceived .audit b true) s)
      (after (.startMarkerReceived .audit) suspended)
    let t := after (.frameCheck .audit (bytes.getLast?.getD 0) true) s
    (t.line .audit).buffer = some { kind := 0x48, tag := 9, body := [], length := 2, oversize := false } := by
  decide +kernel

theorem test_a_bad_check_is_garbled :
    let s := [0x00, 0x02, 0x48, 0x09, 0x00].foldl (fun s b => after (.frameByteReceived .audit b true) s)
      (after (.startMarkerReceived .audit) suspended)
    let t := after (.frameCheck .audit 0x00 true) s
    (t.line .audit).buffer = none ∧ (t.line .audit).counters.garbled = 1 := by
  decide +kernel

/-- A start marker and no byte after it for `n` seconds, with no SILENCE (R194). -/
def hung (p : Port) (n : Nat) : State :=
  { after (.startMarkerReceived p) suspended with timeBase := BitVec.ofNat 32 n }

theorem test_a_whole_frame_after_a_silence_is_taken :
    let t := after (.queryPool .operations 7 (.fields ())) (hung .operations 3)
    (t.line .operations).counters.truncated = 1 ∧ (t.line .operations).receiver = .waiting ∧
      (t.line .operations).queue.length = 1 := by
  decide +kernel

theorem test_a_whole_frame_before_a_silence_is_not_at_hand :
    after (.queryPool .operations 7 (.fields ())) (hung .operations 2) = hung .operations 2 := by
  decide +kernel

theorem test_a_break_after_a_silence_counts_both :
    let c := ((after (.lineBreak .audit) (hung .audit 3)).line .audit).counters
    let d := ((after (.lineBreak .audit) (hung .audit 2)).line .audit).counters
    (c.truncated, c.breaks, d.truncated, d.breaks) = (1, 1, 0, 1) := by
  decide +kernel

theorem test_a_query_counts_a_silence_of_the_other_port :
    let t := after (.queryLine .operations 7 (.fields ⟨1, false⟩)) (hung .audit 3)
    (t.line .audit).receiver = .waiting ∧ (t.line .audit).counters = LineCounters.zero ∧
      (t.line .operations).queue.map OutFrame.content =
        [(after (.queryLine .operations 7 (.fields ⟨1, false⟩)) (after (.silence .audit) (hung .audit 3))).line
          .operations].flatMap (fun l => l.queue.map OutFrame.content) := by
  decide +kernel

theorem test_a_silence_truncates :
    let t := after (.silence .operations) (after (.startMarkerReceived .operations) suspended)
    (t.line .operations).counters.truncated = 1 ∧ (t.line .operations).receiver = .waiting ∧ t.timeBase = 3 := by
  decide +kernel

theorem test_a_break_empties_the_queue :
    let t := after (.lineBreak .operations) (after .selection rationed)
    (t.line .operations).queue = [] ∧ (t.line .operations).counters.breaks = 1 ∧ (t.meter 12).grant.isSome = true := by
  decide +kernel

theorem test_started_is_the_first_notice :
    let t := after (.queuingOpportunity .operations) State.reset
    (t.noticeClass .started).phase = .queued .operations ∧ t.operations.queue.length = 1 := by
  decide +kernel

theorem test_a_query_gives_the_present_ready_in :
    answered .audit (after (.queryLine .audit 1 (.fields ⟨0, true⟩)) suspended) =
      some (.ok, [.u32 9600, .u16 512, .u8 16, .u8 0, .u8 1, .u8 1, .u16 0, .u16 0, .u16 0, .u16 0, .u16 0, .u16 0, .u16 0]) := by
  decide +kernel

theorem test_a_transmitted_notice_is_idle :
    let s := after (.queuingOpportunity .operations) State.reset
    let t := after (.fullyTransmitted .operations) (after (.frameTransmissionStart .operations true) s)
    (t.noticeClass .started).phase = .idle ∧ t.operations.queue = [] := by
  decide +kernel

theorem test_an_expired_supervision_reports_the_meter :
    let t := after (.supervisionExpiry 12) rationed
    ((t.meter 12).state, (t.branch 3).order, t.timeBase) = (.silent, [], 93600) ∧
      t.silentList = [{ meter := 12, time := 93600 }] ∧ (t.noticeClass .silent).phase = .pending := by
  decide +kernel

/-! ## Power (00_scope.md, R69, R112, R129) -/

theorem test_power_returns_with_doubtful_grants :
    let s := after .powerLoss (offered (some 0))
    let t := after (.powerOn { operations := ⟨true, false⟩, audit := ⟨true, true⟩ }) s
    (t.meter 40).grant = some { serial := 3107, amount := 120000, phase := .doubtful, source := .request } ∧
      t.engine.slots.get 0 = none ∧ (t.operations.rate, t.audit.rate) = (.r19200, .r115200) ∧
      (s.powered, t.powered, t.notices.cause) = (false, true, .power) := by
  decide +kernel

theorem test_lost_retention_uncommissions_the_part :
    let t := after (.powerOnRetentionLost { operations := ⟨false, false⟩, audit := ⟨false, true⟩ }) closing
    (t.monitor.state, t.pool.p, t.pool.engagement, t.engine.state, t.audit.rate) =
      (.uncommissioned, 0, 1, .stopped, .r57600) := by
  decide +kernel

/-! ## The queue -/

theorem test_a_step_takes_the_front_command :
    (match step { suspended with pending := [.supervisionExpiry 1, .selection] } with
    | .next t => t.pending
    | _ => []) = [.selection] := by
  decide +kernel

theorem test_an_idle_step_is_one_second :
    (match step suspended with
    | .next t => t.timeBase
    | _ => 0) = 1 := by
  decide +kernel

theorem test_no_word_spells_a_command : decodeTableWord 8 0x01 = none := by decide

/-! ## Witnesses: states and operands that meet the hypotheses of each statement

A statement whose hypotheses are the taking of a frame is met in both ways that `Taken` allows; the first two lemmas say so
of any state, and the witnesses apply them. -/

/-- The line of a port is at rest, and a body of `n` bytes fits L_max. -/
def atRest (p : Port) (n : Nat) (s : State) : Bool :=
  s.powered && decide (1 ≤ (s.line p).free) && (s.line p).buffer.isNone && (s.line p).receiver == .waiting &&
    !(s.line p).breakNow && decide (n + 7 ≤ s.engine.lMax)

theorem canReceive_at_rest {p : Port} {s : State}
    (h : (s.line p).buffer = none ∧ (s.line p).receiver = .waiting ∧ (s.line p).breakNow = false) : CanReceive s p :=
  ⟨h.1, h.2.2, .inl h.2.1⟩

theorem taken_at_rest {p : Port} {kind tag : Byte} {body : List Byte} {s : State} (h : atRest p body.length s = true) :
    Taken p kind tag body s s := by
  simp only [atRest, Bool.and_eq_true, decide_eq_true_eq, Option.isNone_iff_eq_none, beq_iff_eq, Bool.not_eq_true'] at h
  obtain ⟨⟨⟨⟨⟨h1, h2⟩, h3⟩, h4⟩, h5⟩, h6⟩ := h
  exact ⟨h1, h2, .inr ⟨⟨h3, h5, .inl h4⟩, h6, by simp [idleLine_waiting h4]⟩⟩

/-- A frame that a silence has ended leaves its port free for a whole frame. -/
theorem taken_after_silence :
    Taken .audit 0x40 1 [] (hung .audit 3)
      ((hung .audit 3).setLine .audit { suspended.audit with
        counters := { suspended.audit.counters with truncated := 1 } }) :=
  ⟨by decide +kernel, by decide +kernel,
    .inr ⟨⟨by decide +kernel, by decide +kernel, .inr (by decide +kernel)⟩, by decide +kernel, by decide +kernel⟩⟩

/-- The state with a frame in a port's receive buffer. -/
def buffered (p : Port) (kind tag : Byte) (body : List Byte) (s : State) : State :=
  s.setLine p { s.line p with
    buffer := some { kind := kind, tag := tag, body := body, length := body.length + 2, oversize := false } }

theorem taken_from_buffer {p : Port} {kind tag : Byte} {body : List Byte} {s : State}
    (h : s.powered = true ∧ 1 ≤ (s.line p).free) :
    Taken p kind tag body (buffered p kind tag body s)
      ((buffered p kind tag body s).setLine p { s.line p with buffer := none }) := by
  refine ⟨?_, ?_, .inl ⟨?_, ?_⟩⟩
  · cases p <;> exact h.1
  · simpa [buffered, LineIf.free] using h.2
  · simp [buffered]
  · simp [buffered]

/-- A port whose outbound queue is full. -/
def queueFull (p : Port) (s : State) : State :=
  s.setLine p { s.line p with queue := List.replicate 16 (.refillRefused 0 .pool) }

theorem witness_taken_from_buffer :
    Taken .operations 0x10 1 (DepositMsg.bytes ⟨1, 5⟩) (buffered .operations 0x10 1 (DepositMsg.bytes ⟨1, 5⟩) suspended)
      ((buffered .operations 0x10 1 (DepositMsg.bytes ⟨1, 5⟩) suspended).setLine .operations
        { suspended.line .operations with buffer := none }) :=
  taken_from_buffer (by decide +kernel)

theorem witness_StepRunsTheFrontCommand :
    { suspended with pending := [.selection] }.pending = .selection :: [] ∧
      (suspended.pending = [] ∧ suspended.powered = true) ∧
      (after .powerLoss suspended).pending = [] ∧ (after .powerLoss suspended).powered = false := by
  decide +kernel

/-- `suspended`, in lockdown. -/
def locked : State :=
  suspended.setMonitor { suspended.monitor with state := .lockdown }

theorem witness_DispatcherJudgesInOrder :
    (∃ m, messageOf (.suspendMeter .operations 1 (.fields ⟨30⟩)) = some m ∧ m.sized = true ∧
      Taken m.port m.kind.code m.tag m.bytes suspended suspended) ∧
    (∃ m, messageOf (.suspendMeter .operations 1 (.otherLength [])) = some m ∧ m.sized = false ∧
      Taken m.port m.kind.code m.tag m.bytes suspended suspended) ∧
    (∃ m, messageOf (.refund .operations 1 (.fields ⟨5⟩)) = some m ∧ m.kind = .refund ∧ m.port = .operations ∧
      Taken m.port m.kind.code m.tag m.bytes suspended suspended) ∧
    (∃ m, messageOf (.deposit .operations 1 (.fields ⟨1001, 3000000⟩)) = some m ∧ m.kind = .deposit ∧
      Taken m.port m.kind.code m.tag m.bytes State.reset State.reset ∧ State.reset.monitor.state = .uncommissioned) ∧
    ∃ m, messageOf (.adjustingFinalReading 1 (.fields ⟨55, 2960000, 195000, 51240⟩)) = some m ∧
      m.kind = .finalReading ∧ m.port = .audit ∧ Taken m.port m.kind.code m.tag m.bytes locked locked ∧
      locked.monitor.state = .lockdown :=
  ⟨⟨_, rfl, rfl, taken_at_rest (by decide +kernel)⟩, ⟨_, rfl, rfl, taken_at_rest (by decide +kernel)⟩,
    ⟨_, rfl, rfl, rfl, taken_at_rest (by decide +kernel)⟩, ⟨_, rfl, rfl, taken_at_rest (by decide +kernel), by decide⟩,
    ⟨_, rfl, rfl, rfl, taken_at_rest (by decide +kernel), by decide +kernel⟩⟩

/-- A frame of an unknown kind, too long for L_max, in the Audit port's receive buffer. -/
def longUnknown : State :=
  suspended.setLine .audit { suspended.audit with
    buffer := some { kind := 0x49, tag := 1, body := List.replicate 506 0, length := 508, oversize := true } }

theorem witness_UnknownKindIsMalformed_buffered :
    (longUnknown.powered = true ∧ 1 ≤ (longUnknown.line .audit).free ∧
      List.replicate 506 (0 : Byte) <+: List.replicate 506 0 ∧
      (longUnknown.line .audit).buffer =
        some { kind := 0x49, tag := 1, body := List.replicate 506 0,
               length := (List.replicate 506 (0 : Byte)).length + 2, oversize := true }) ∧
      ((queueFull .audit longUnknown).line .audit).free = 0 ∧
      ((queueFull .audit longUnknown).line .audit).buffer.isSome = true := by
  decide +kernel

theorem witness_UnknownKindIsMalformed :
    (∀ k ∈ Kind.all, k.code ≠ 0x49) ∧
      Taken .audit 0x49 1 (List.replicate 505 0) suspended suspended ∧
      (suspended.powered = true ∧ 1 ≤ (suspended.line .audit).free ∧ CanReceive suspended .audit ∧
        suspended.engine.lMax < (List.replicate 506 (0 : Byte)).length + 7) ∧
      (after .powerLoss suspended).powered = false :=
  ⟨by decide, taken_at_rest (by decide +kernel),
    ⟨by decide +kernel, by decide +kernel, canReceive_at_rest (by decide +kernel), by decide +kernel⟩, by decide +kernel⟩

theorem witness_UnknownKindIsMalformed_waiting :
    let s := queueFull .audit suspended
    (s.powered = true ∧ (s.line .audit).free = 0 ∧ CanReceive s .audit) ∧
      (List.replicate 505 (0 : Byte)).length + 7 ≤ s.engine.lMax ∧
      s.engine.lMax < (List.replicate 506 (0 : Byte)).length + 7 :=
  ⟨⟨by decide +kernel, by decide +kernel, canReceive_at_rest (by decide +kernel)⟩, by decide +kernel, by decide +kernel⟩

theorem witness_UnknownKindIsMalformed_not_at_hand :
    (let s := hung .audit 2
    (s.line .audit).buffer = none ∧ (s.line .audit).receiver ≠ .waiting ∧ silenceDue s .audit = false) ∧
      (let s := after (.lineBreak .audit) suspended
      (s.line .audit).buffer = none ∧ (s.line .audit).breakNow = true) ∧
      ∃ f, (longUnknown.line .audit).buffer = some f ∧ f.tag ≠ 2 := by
  refine ⟨by decide +kernel, by decide +kernel, _, rfl, by decide⟩

/-- A message too long for its row: `n` bytes of 0 as a SUSPEND-METER. -/
def long (n : Nat) : Message :=
  .of .operations .suspendMeter 1 MeterMsg.bytes answerSuspendMeter (.otherLength (List.replicate n 0))

theorem long_is_a_message (n : Nat) :
    messageOf (.suspendMeter .operations 1 (.otherLength (List.replicate n 0))) = some (long n) := rfl

theorem witness_FramesThatAreNotJudged_buffered :
    let s := suspended.setLine .operations { suspended.operations with
      buffer := some { kind := 0x13, tag := 1, body := List.replicate 506 0, length := 508, oversize := true } }
    s.powered = true ∧ 1 ≤ (s.line .operations).free ∧ List.replicate 506 0 <+: (long 506).bytes ∧
      (s.line .operations).buffer =
        some { kind := (long 506).kind.code, tag := (long 506).tag, body := List.replicate 506 0,
               length := (long 506).bytes.length + 2, oversize := true } := by
  decide +kernel

theorem witness_FramesThatAreNotJudged_arriving :
    (suspended.powered = true ∧ CanReceive suspended .operations ∧
      1 ≤ (suspended.line .operations).free ∧ suspended.engine.lMax < (long 506).bytes.length + 7) ∧
    let s := queueFull .operations suspended
    (s.powered = true ∧ CanReceive s .operations ∧ (s.line .operations).free = 0 ∧
      (long 505).bytes.length + 7 ≤ s.engine.lMax ∧ s.engine.lMax < (long 506).bytes.length + 7) :=
  ⟨⟨by decide +kernel, canReceive_at_rest (by decide +kernel), by decide +kernel, by decide +kernel⟩,
    by decide +kernel, canReceive_at_rest (by decide +kernel), by decide +kernel, by decide +kernel, by decide +kernel⟩

theorem witness_FramesThatAreNotJudged_waiting :
    let s := queueFull .operations (buffered .operations 0x13 1 [30] suspended)
    (s.line .operations).free = 0 ∧ (s.line .operations).buffer.isSome = true := by
  decide +kernel

theorem witness_FramesThatAreNotJudged_not_at_hand :
    (after .powerLoss suspended).powered = false ∧
      (let s := hung .operations 2
      (s.line .operations).buffer = none ∧ (s.line .operations).receiver ≠ .waiting ∧
        silenceDue s .operations = false) ∧
      (let s := after (.lineBreak .operations) suspended
      (s.line .operations).buffer = none ∧ (s.line .operations).breakNow = true) ∧
      (let s := buffered .operations 0x14 1 [30] suspended
      ∃ f, (s.line .operations).buffer = some f ∧ f.kind ≠ (long 1).kind.code) := by
  refine ⟨by decide +kernel, by decide +kernel, by decide +kernel, _, rfl, by decide⟩

theorem witness_DepositsAndRefundsMovePoolMoney :
    (Taken .operations 0x10 1 (DepositMsg.bytes ⟨1001, 3000000⟩) suspended suspended ∧
        suspended.monitor.state = .inService) ∧
      Taken .audit 0x31 1 (RefundMsg.bytes ⟨1800000⟩) suspended suspended :=
  ⟨⟨taken_at_rest (by decide +kernel), by decide +kernel⟩, taken_at_rest (by decide +kernel)⟩

theorem witness_SettingsAreReplaced :
    (Taken .audit 0x32 1 (PoolLimitsMsg.bytes ⟨1000000, 2000000, 50000⟩) suspended suspended ∧
        suspended.monitor.state ≠ .lockdown) ∧
      Taken .operations 0x17 1 (UrgencyMapMsg.bytes ⟨#v[0, 0, 0, 0, 0, 0, 1, 1]⟩) suspended suspended ∧
      Taken .operations 0x18 1 (SetEngineMsg.bytes ⟨180, 4, 512⟩) suspended suspended ∧
      Taken .audit 0x34 1 (ToleranceMsg.bytes ⟨1000⟩) suspended suspended ∧
      Taken .audit 0x33 1 (PolicyMsg.bytes ⟨1⟩) suspended suspended ∧
      Taken .operations 0x27 1 (SetNoticesMsg.bytes ⟨Vector.replicate 8 ⟨1, 0⟩⟩) suspended suspended :=
  ⟨⟨taken_at_rest (by decide +kernel), by decide +kernel⟩, taken_at_rest (by decide +kernel),
    taken_at_rest (by decide +kernel), taken_at_rest (by decide +kernel), taken_at_rest (by decide +kernel),
    taken_at_rest (by decide +kernel)⟩

theorem witness_QueriesChangeNothing :
    Taken .operations 0x40 1 [] suspended suspended ∧ Taken .audit 0x41 1 (MeterMsg.bytes ⟨191⟩) suspended suspended ∧
      Taken .audit 0x42 1 (BranchMsg.bytes ⟨47⟩) suspended suspended ∧
      Taken .audit 0x43 1 (QueryStockMsg.bytes ⟨47, 11, 12⟩) suspended suspended ∧
      Taken .audit 0x44 1 (QueryListMsg.bytes ⟨31, 32⟩) suspended suspended ∧
      Taken .audit 0x45 1 (QueryPeriodMsg.bytes ⟨1, 47, 8⟩) suspended suspended ∧
      Taken .audit 0x46 1 [] suspended suspended ∧ Taken .audit 0x48 1 [] suspended suspended ∧
      (Taken .audit 0x47 1 (QueryLineMsg.bytes ⟨0, true⟩) suspended suspended ∧ (0 : Byte).toNat = Port.operations.code) ∧
      (Taken .audit 0x47 1 (QueryLineMsg.bytes ⟨1, true⟩) suspended suspended ∧ (1 : Byte).toNat = Port.audit.code) ∧
      Taken .audit 0x47 1 (QueryLineMsg.bytes ⟨2, true⟩) suspended suspended ∧ 2 ≤ (2 : Byte).toNat :=
  ⟨taken_at_rest (by decide +kernel), taken_at_rest (by decide +kernel), taken_at_rest (by decide +kernel),
    taken_at_rest (by decide +kernel), taken_at_rest (by decide +kernel), taken_at_rest (by decide +kernel),
    taken_at_rest (by decide +kernel), taken_at_rest (by decide +kernel),
    ⟨taken_at_rest (by decide +kernel), by decide⟩, ⟨taken_at_rest (by decide +kernel), by decide⟩,
    taken_at_rest (by decide +kernel), by decide⟩

theorem witness_EnrolmentSetsUpTheRecord :
    Taken .operations 0x11 1 (EnrolMsg.bytes ⟨191, 12, 9310000, 0, 40112⟩) office office :=
  taken_at_rest (by decide +kernel)

theorem witness_MeterSettingsAreReplaced :
    Taken .operations 0x12 1 (ConfigureMeterMsg.bytes ⟨77, 400000, 1000, 5000, 900, 12, 4⟩) office office :=
  taken_at_rest (by decide +kernel)

theorem witness_SuspensionWithholdsTheMeter :
    Taken .operations 0x13 1 (MeterMsg.bytes ⟨77⟩) office office ∧ office.monitor.state ≠ .uncommissioned :=
  ⟨taken_at_rest (by decide +kernel), by decide +kernel⟩

theorem witness_RetirementBegins :
    Taken .operations 0x14 1 (MeterMsg.bytes ⟨77⟩) office office ∧ office.monitor.state ≠ .uncommissioned :=
  ⟨taken_at_rest (by decide +kernel), by decide +kernel⟩

theorem witness_StatusReportsAreJudged :
    (Taken .operations 0x01 1 (ReadingMsg.bytes ⟨192, 0, 0, 0⟩) office office ∧
        office.monitor.state ≠ .uncommissioned ∧ 192 ≤ (192 : Byte).toNat) ∧
      (Taken .operations 0x01 1 (ReadingMsg.bytes ⟨191, 0, 0, 0⟩) office office ∧
        (191 : Byte).toNat = (191 : MeterId).val ∧ (office.meter 191).state = .vacant) ∧
      Taken .operations 0x01 1 (ReadingMsg.bytes ⟨77, 9372500, 187500, 40237⟩) office office ∧
        (77 : Byte).toNat = (77 : MeterId).val ∧ (office.meter 77).state = .active :=
  ⟨⟨taken_at_rest (by decide +kernel), by decide +kernel, by decide⟩,
    ⟨taken_at_rest (by decide +kernel), by decide, by decide +kernel⟩,
    taken_at_rest (by decide +kernel), by decide, by decide +kernel⟩

/-- A total mismatch of meter 30. -/
def mismatch : FaultRecord :=
  { kind := .totalMismatch, time := 0, ct := 5000000, meter := some 30, serial := 0, amount := 0, grantValid := false,
    reading := some { ar := 4830000, dr := 190000 } }

/-- Both forms of FaultsAreHandled: a fault that is hushed, and one that is logged. -/
theorem witness_FaultsAreHandled :
    let hushed (s : State) (f : FaultRecord) : Bool :=
      s.monitor.state == .lockdown &&
        ((f.kind == .totalMismatch || f.kind == .claimMismatch || f.kind == .finalMismatch) || f.kind == .registerRegress)
    hushed { suspended with monitor := { suspended.monitor with state := .lockdown } } mismatch = true ∧
      hushed suspended mismatch = false := by
  decide +kernel

theorem witness_RefillRequestsAreQueued :
    Taken .operations 0x02 1 (RefillMsg.bytes ⟨13, 70000, 7⟩) (rings false) (rings false) ∧
      (rings false).monitor.state = .inService :=
  ⟨taken_at_rest (by decide +kernel), by decide +kernel⟩

theorem witness_BranchConfigurationIsReplaced :
    Taken .operations 0x16 1 (ConfigureBranchMsg.bytes ⟨47, 1, 64, 0, 0, 1, 999999999999⟩) office office :=
  taken_at_rest (by decide +kernel)

theorem witness_ConfirmationAndRelease :
    ((offered (some 0)).meter 40).grant =
        some { serial := 3107, amount := 120000, phase := .offered 0, source := .request } ∧
      ((offered none).meter 40).grant = some { serial := 3107, amount := 120000, phase := .doubtful, source := .request } := by
  decide +kernel

/-- The last OFFERED entry of a list in DRAINING-LIST, with meter 40's grant (`drained`). -/
theorem witness_ConfirmationAndRelease_of_an_entry :
    (drained.meter 40).grant =
        some { serial := 3107, amount := 120000, phase := .doubtful, source := .list (some 1) } ∧
      drained.list.state = .drainingList ∧ drained.list.entries.map Entry.outcome = [.applied, .offered] := by
  decide +kernel

theorem witness_OutcomesFollowTheRegisters :
    let s := offered (some 0)
    (Taken .operations 0x03 1 (AppliedMsg.bytes ⟨192, 3107, 0, 0, 0⟩) s s ∧ s.monitor.state ≠ .uncommissioned ∧
        192 ≤ (192 : Byte).toNat) ∧
      (Taken .operations 0x03 1 (AppliedMsg.bytes ⟨191, 3107, 0, 0, 0⟩) s s ∧
        (191 : Byte).toNat = (191 : MeterId).val ∧ (s.meter 191).state = .vacant) ∧
      (Taken .operations 0x04 1 (RejectedMsg.bytes ⟨40, 3107, 12, 1962000, 158000, 0⟩) s s ∧
        (40 : Byte).toNat = (40 : MeterId).val ∧ (s.meter 40).state = .active ∧
        (s.meter 40).grant.map Grant.serial = some 3107) ∧
      Taken .operations 0x03 1 (AppliedMsg.bytes ⟨40, 3108, 1962000, 38000, 0⟩) s s ∧
        ∀ g : Grant, (s.meter 40).grant = some g → g.serial ≠ 3108 := by
  refine ⟨⟨taken_at_rest (by decide +kernel), by decide +kernel, by decide⟩,
    ⟨taken_at_rest (by decide +kernel), by decide, by decide +kernel⟩,
    ⟨taken_at_rest (by decide +kernel), by decide, by decide +kernel, by decide +kernel⟩,
    taken_at_rest (by decide +kernel), ?_⟩
  intro g h
  have e := witness_ConfirmationAndRelease.1
  rw [h] at e
  cases Option.some.inj e
  decide

theorem witness_EngineRestarts :
    Taken .operations 0x19 1 [] (offered (some 0)) (offered (some 0)) ∧ (offered (some 0)).monitor.state = .inService :=
  ⟨taken_at_rest (by decide +kernel), by decide +kernel⟩

theorem witness_GrantsExpire :
    let s := offered (some 7)
    (s.powered = true ∧ s.engine.slots.get 7 = some { serial := 3107, meter := 40, amount := 120000, expiry := 1180 }) ∧
      s.engine.slots.get 0 = none ∧ (after .powerLoss s).powered = false := by
  decide +kernel

theorem witness_FinalReadingsRetireTheMeter :
    let s := retiring .awaitingReading none
    (Taken .operations 0x01 1 (ReadingMsg.bytes ⟨55, 2960000, 190000, 51240⟩) s s ∧
        Taken .operations 0x15 1 (ReadingMsg.bytes ⟨55, 2960000, 190000, 51240⟩) s s ∧
        (55 : Byte).toNat = (55 : MeterId).val ∧ s.monitor.state ≠ .uncommissioned ∧
        (s.meter 55).state = .awaitingReading) ∧
      (Taken .operations 0x15 1 (ReadingMsg.bytes ⟨192, 0, 0, 0⟩) s s ∧ 192 ≤ (192 : Byte).toNat) ∧
      Taken .operations 0x15 1 (ReadingMsg.bytes ⟨191, 0, 0, 0⟩) s s ∧ (191 : Byte).toNat = (191 : MeterId).val ∧
        (s.meter 191).state ≠ .awaitingReading :=
  ⟨⟨taken_at_rest (by decide +kernel), taken_at_rest (by decide +kernel), by decide, by decide +kernel, by decide +kernel⟩,
    ⟨taken_at_rest (by decide +kernel), by decide⟩, taken_at_rest (by decide +kernel), by decide, by decide +kernel⟩

theorem witness_OutcomesCanBeFinalReadings :
    let s := retiring .awaitingReading none
    (Taken .operations 0x03 1 (AppliedMsg.bytes ⟨55, 912, 2960000, 190000, 51240⟩) s s ∧
        (55 : Byte).toNat = (55 : MeterId).val ∧ s.monitor.state ≠ .uncommissioned ∧
        (s.meter 55).state = .awaitingReading ∧ (s.meter 55).grant.map Grant.serial = some 912) ∧
      Taken .operations 0x04 1 (RejectedMsg.bytes ⟨55, 913, 1, 2960000, 190000, 51240⟩) s s ∧
        ((s.meter 55).grant.all (fun g => g.serial != 913)) = true :=
  ⟨⟨taken_at_rest (by decide +kernel), by decide, by decide +kernel, by decide +kernel, by decide +kernel⟩,
    taken_at_rest (by decide +kernel), by decide +kernel⟩

theorem witness_AdjustingReadingsRetireTheMeter :
    let s := retiring .awaitingReading none
    Taken .audit 0x15 1 (ReadingMsg.bytes ⟨55, 2960000, 195000, 51240⟩) s s ∧ s.monitor.state = .inService :=
  ⟨taken_at_rest (by decide +kernel), by decide +kernel⟩

theorem witness_ResumptionRebaselines :
    Taken .audit 0x35 1 (MeterMsg.bytes ⟨30⟩) suspended suspended ∧ suspended.monitor.state = .inService :=
  ⟨taken_at_rest (by decide +kernel), by decide +kernel⟩

theorem witness_StockLinesAreConfiguredAndReordered :
    Taken .operations 0x1A 1 (StockLineMsg.bytes ⟨12, 11, 65535, 2, 9999999, 999999⟩) office office :=
  taken_at_rest (by decide +kernel)

theorem witness_StockMovements :
    Taken .operations 0x1B 1 (ReceiptMsg.bytes ⟨12, 1, 1000, 1⟩) office office ∧
      Taken .operations 0x1C 1 (PiecesMsg.bytes ⟨12, 1, 250⟩) office office ∧
      Taken .operations 0x1D 1 (PiecesMsg.bytes ⟨12, 1, 60⟩) office office ∧
      Taken .operations 0x1E 1 (PiecesMsg.bytes ⟨12, 1, 0⟩) office office ∧
      office.monitor.state ≠ .uncommissioned :=
  ⟨taken_at_rest (by decide +kernel), taken_at_rest (by decide +kernel), taken_at_rest (by decide +kernel),
    taken_at_rest (by decide +kernel), by decide +kernel⟩

theorem witness_ListsAreLoaded_refused :
    let s := listed 80000 false false
    (Taken .operations 0x20 1 (LoadListMsg.bytes ⟨[⟨12, 200000, 0⟩]⟩) s s ∧ s.monitor.state = .inService ∧
        s.list.state = .running) ∧
      Taken .operations 0x20 1 (LoadListMsg.bytes ⟨[⟨192, 200000, 0⟩]⟩) suspended suspended ∧
        suspended.list.state = .empty ∧ ¬ (192 : Byte).toNat < 192 :=
  ⟨⟨taken_at_rest (by decide +kernel), by decide +kernel, by decide +kernel⟩, taken_at_rest (by decide +kernel),
    by decide +kernel, by decide⟩

theorem witness_ListsAreLoaded_taken :
    let m : LoadListMsg := ⟨[⟨12, 99999999, 3⟩]⟩
    let new : List Entry :=
      [{ meter := 12, q := 99999999, quiet := true, stopOnShort := true, outcome := .waiting, serial := none }]
    Taken .operations 0x20 1 m.bytes suspended suspended ∧ suspended.monitor.state = .inService ∧
      suspended.list.state = .empty ∧ m.entries.length ≠ 0 ∧ m.entries.length ≤ 32 ∧
      List.Forall₂ (fun (e : ListEntryMsg) (x : Entry) =>
        (e.meter.toNat < 192 ∧ 1 ≤ e.q.toNat ∧ e.q.toNat ≤ 99999999 ∧ e.flags.toNat ≤ 3) ∧
          x.meter.val = e.meter.toNat ∧
          x = { meter := x.meter, q := e.q.toNat, quiet := e.flags.getLsbD 0, stopOnShort := e.flags.getLsbD 1,
                outcome := .waiting, serial := none }) m.entries new :=
  ⟨taken_at_rest (by decide +kernel), by decide +kernel, by decide +kernel, by decide, by decide,
    .cons (by decide) .nil⟩

theorem witness_ListsAreStarted :
    let s := listed 80000 false false
    Taken .operations 0x21 1 (StartListMsg.bytes ⟨1, 1⟩) s s ∧ s.monitor.state = .inService :=
  ⟨taken_at_rest (by decide +kernel), by decide +kernel⟩

theorem witness_ListsAreHaltedAbortedAndCleared :
    let s := listed 80000 false false
    Taken .operations 0x22 1 [] s s ∧ Taken .operations 0x23 1 [] s s ∧ Taken .operations 0x24 1 [] s s ∧
      s.monitor.state ≠ .uncommissioned :=
  ⟨taken_at_rest (by decide +kernel), taken_at_rest (by decide +kernel), taken_at_rest (by decide +kernel),
    by decide +kernel⟩

theorem witness_PeriodsAreClosedAndCollected :
    (Taken .operations 0x25 1 (StampMsg.bytes ⟨102⟩) closing closing ∧ (102 : Word32) ≠ closing.periods.current.stamp ∧
        closing.periods.collected = false) ∧
      (Taken .operations 0x25 1 (StampMsg.bytes ⟨101⟩) closing closing ∧ (101 : Word32) = closing.periods.current.stamp) ∧
      (Taken .operations 0x25 1 (StampMsg.bytes ⟨1⟩) suspended suspended ∧
        (1 : Word32) ≠ suspended.periods.current.stamp ∧ suspended.periods.collected = true) ∧
      Taken .operations 0x26 1 (StampMsg.bytes ⟨0⟩) closing closing ∧ closing.monitor.state ≠ .uncommissioned :=
  ⟨⟨taken_at_rest (by decide +kernel), by decide +kernel, by decide +kernel⟩,
    ⟨taken_at_rest (by decide +kernel), by decide +kernel⟩,
    ⟨taken_at_rest (by decide +kernel), by decide +kernel, by decide +kernel⟩,
    taken_at_rest (by decide +kernel), by decide +kernel⟩

theorem witness_AuditorsChangeTheOperatingState :
    Taken .audit 0x30 1 [] State.reset State.reset ∧ Taken .audit 0x36 1 [] suspended suspended ∧
      Taken .audit 0x37 1 [] suspended suspended :=
  ⟨taken_at_rest (by decide +kernel), taken_at_rest (by decide +kernel), taken_at_rest (by decide +kernel)⟩

theorem witness_BytesBetweenFrames :
    (suspended.powered = true ∧ (suspended.line .audit).receiver = .waiting ∧ (suspended.line .audit).breakNow = false) ∧
      (let s := buffered .audit 0x48 1 [] suspended
      (s.line .audit).receiver = .waiting ∧ (s.line .audit).buffer.isSome = true) ∧
      let s := after (.lineBreak .audit) suspended
      (s.line .audit).receiver = .waiting ∧ (s.line .audit).breakNow = true := by
  decide +kernel

/-- A frame of which the start marker has come. -/
def begun : State := after (.startMarkerReceived .audit) suspended

theorem witness_BytesWithinFrames :
    (begun.powered = true ∧ (begun.line .audit).breakNow = false ∧
        (begun.line .audit).receiver = .frame (RxProgress.begin 512 0) ∧
        (begun.timeBase - (RxProgress.begin 512 0).last).toNat < 3) ∧
      let s := after (.overrun .audit) (buffered .audit 0x48 1 [] suspended)
      (s.line .audit).receiver = .overrun { count := 1, length := 0, last := 0 } ∧ (s.timeBase - 0).toNat < 3 := by
  decide +kernel

/-- A frame, and an overrun, of which nothing has come for 3 seconds. -/
theorem witness_BytesWithinFrames_late :
    (let s := { begun with timeBase := 3 }
    s.powered = true ∧ (s.line .audit).breakNow = false ∧ (s.line .audit).receiver = .frame (RxProgress.begin 512 0) ∧
      (RxProgress.begin 512 0).last = 0 ∧ 3 ≤ (s.timeBase - 0).toNat) ∧
      let s := { after (.overrun .audit) (buffered .audit 0x48 1 [] suspended) with timeBase := 3 }
      (s.line .audit).receiver = .overrun { count := 1, length := 0, last := 0 } ∧ 3 ≤ (s.timeBase - 0).toNat := by
  decide +kernel

theorem witness_SilencesAndBreaksAbandonFrames :
    (begun.powered = true ∧ (begun.line .audit).receiver = .frame (RxProgress.begin 512 0)) ∧
      (suspended.powered = true ∧ (suspended.line .audit).receiver = .waiting) ∧
      (after .powerLoss suspended).powered = false := by
  decide +kernel

/-- A frame being sent, at the head of the Operations queue, with lists for it to report. -/
def sendingFrame (f : OutFrame) : State :=
  let s : State := { suspended with
    silentList := [{ meter := 30, time := 7 }]
    retireList := [{ meter := 55, branch := 4, finalAr := 1, swept := 2, delta := 0, time := 7, unreported := false,
                     sampled := true }]
    stock := { suspended.stock with reorder := [(12, 1)] } }
  s.setLine .operations { s.operations with queue := [f], sending := some f.bytes }

theorem witness_FramesAreTransmitted :
    suspended.powered = true ∧ (suspended.line .operations).sending = none ∧
      ∀ f ∈ [OutFrame.refillRefused 12 .pool, .notice .list [] .nothing, .notice .silent [] (.meters [30]),
          .notice .reorder [] (.pairs [(12, 1)]), .notice .retire [] (.meters [55])],
        (sendingFrame f).powered = true ∧ ((sendingFrame f).line .operations).sending.isSome = true ∧
          ((sendingFrame f).line .operations).queue = f :: [] := by
  decide +kernel

theorem witness_FramesAreReadAsTheyAreWritten :
    (List.replicate 65533 (0 : Byte)).length + 2 < 2 ^ 16 ∧ ([] : List Byte).length + 2 < 2 ^ 16 ∧ 5 ≤ 64 := by
  refine ⟨?_, by decide, by decide⟩
  rw [List.length_replicate]
  decide

theorem witness_NoticesAreQueued :
    ((suspended.noticeClass .started).phase ≠ .pending) ∧
      (State.reset.powered = true ∧ (State.reset.noticeClass .started).phase = .pending ∧
        (State.reset.noticeClass .started).enabled = true ∧ (State.reset.noticeClass .started).route = .operations ∧
        (State.reset.line .operations).queue.length < 14) ∧
      NoticeClass.started.idx = 0 := by
  decide +kernel

theorem witness_RingsAreSearchedFromThePointers :
    (∀ r : Requester, present suspended r = false) ∧ (ringSearch (rings false)).map Pick.requester = some 3 ∧
      (∃ r : Requester, highMember (rings false) r = true) ∧
      (ringSearch rationed).map Pick.requester = some 3 ∧ ¬ ∃ r : Requester, highMember rationed r = true := by
  decide +kernel

theorem witness_SelectionPicksARequester :
    (¬ ∃ r : Requester, present suspended r = true) ∧
      (let s := rationed
      s.powered = true ∧ s.monitor.state = .inService ∧ s.engine.state = .active ∧
        (∃ k : SlotId, s.engine.slots.get k = none) ∧ s.operations.queue.length ≤ 13 ∧
        s.pool.engagement ≤ s.pool.p - s.pool.floor ∧ (∃ r : Requester, present s r = true) ∧ s.arbiter.holder = none) ∧
      (let s := { rings true with arbiter := { high := 4, low := 0, holder := some (3, .high), counter := 3 } }
      present s 3 = true ∧ (s.branch 3).batch = true ∧ s.arbiter.counter < s.engine.batchLimit ∧
        findsRequest s 3 .high = true) ∧
      let s := { listed 500000 false false with
        arbiter := { high := 0, low := 0, holder := some (48, .low), counter := 1 } }
      let s := s.setList { s.list with batch := true }
      present s 48 = true ∧ s.list.batch = true ∧ s.arbiter.counter < s.engine.batchLimit ∧
        ∃ e ∈ s.list.entries[s.list.next]?, e.outcome = .waiting := by
  decide +kernel

/-- Both outcomes occur: `test_rationed_request_is_granted` and `test_share_of_a_light_branch_is_below_the_minimum` run them. -/
theorem witness_RequestsAreGrantedOrRefused :
    rationed.engine.nextSerial ≠ 0 ∧ (rationed.meter 12).pendingReq = some { q := 500000, urgency := 2 } ∧ rationed.engine.slots.get 0 = none ∧
      ∀ j : SlotId, j < 0 → rationed.engine.slots.get j ≠ none := by
  decide +kernel

theorem witness_ListEntriesAreServed :
    let s := listed 500000 false false
    let e : Entry := { meter := 12, q := 500000, quiet := false, stopOnShort := false, outcome := .waiting, serial := none }
    s.list.entries[s.list.next]? = some e ∧ e.outcome = .waiting ∧ s.engine.slots.get 0 = none ∧
      (∀ j : SlotId, j < 0 → s.engine.slots.get j ≠ none) ∧
      ∀ y ∈ s.list.entries.take s.list.next, y.outcome ≠ .waiting := by
  decide +kernel

theorem witness_TimersExpire :
    (rationed.powered = true ∧ (rationed.meter 12).supervision = some 93600) ∧
      (let s := modMeter 12 (fun r => { r with holdOff := some 600 }) rationed
      s.powered = true ∧ (s.meter 12).holdOff = some 600) ∧
      (rationed.meter 13).supervision = none ∧ (rationed.meter 13).holdOff = none ∧
      (after .powerLoss rationed).powered = false := by
  decide +kernel

theorem witness_PowerLoss : suspended.powered = true ∧ (after .powerLoss suspended).powered = false := by
  decide +kernel

/-! ### The laws

`lawful` has a meter with a pending request, a meter whose OFFERED grant came from the list, a RUNNING list, a raised stock
line, a queued notice, and a SELECTION in front of it: it meets every law together, and its step goes on. -/

/-- Meter 13's record in `lawful`. -/
def lender : Meter :=
  { Meter.lost with
    state := .active, branch := 3, base := 5000, credited := 20000, ct := 25000, arMirror := 6000, drMirror := 19000
    supervision := some 93600
    grant := some { serial := 700, amount := 300000, phase := .offered 0, source := .list (some 0) } }

def lawful : State :=
  let s := modMeter 13 (fun _ => lender) rationed
  let s := modStockLine 3 0 (fun x => { x with configured := true, onHand := 5, level := 10, raised := true }) s
  let s := after (.queuingOpportunity .operations) (setCondition .reorder s)
  { s with
    pool := { s.pool with g := 300000, dep := 2800000 }
    engine := { s.engine with
      nextSerial := 701
      slots := modifyAt s.engine.slots 0 (fun _ => some { serial := 700, meter := 13, amount := 300000, expiry := 180 }) }
    list :=
      { state := .running, next := 1, cls := .high, batch := false
        entries :=
          [{ meter := 13, q := 300000, quiet := false, stopOnShort := false, outcome := .offered, serial := some 700 },
           { meter := 40, q := 5, quiet := false, stopOnShort := false, outcome := .waiting, serial := none }] }
    stock := { s.stock with reorder := [(3, 0)] }
    pending := [.selection] }

/-- Meter 12's record in `lawful`. -/
def borrower : Meter := rationed.meter 12

theorem lawful_meter : ∀ m : MeterId,
    lawful.meter m = if m = 12 then borrower else if m = 13 then lender else Meter.lost := by
  decide +kernel

theorem lawful_grant (m : MeterId) (g : Grant) (h : (lawful.meter m).grant = some g) :
    m = 13 ∧ g = { serial := 700, amount := 300000, phase := .offered 0, source := .list (some 0) } := by
  have hb : borrower.grant = none := by decide +kernel
  rw [lawful_meter] at h
  split_ifs at h with h1 h2
  · rw [hb] at h; cases h
  · exact ⟨h2, (Option.some.inj h).symm⟩
  · cases h

theorem lawful_slot : ∀ k : SlotId, lawful.engine.slots.get k =
    if k = 0 then some { serial := 700, meter := 13, amount := 300000, expiry := 180 } else none := by
  decide +kernel

theorem witness_a_lawful_state_steps : ∃ t, step lawful = .next t := ⟨_, rfl⟩

theorem witness_pool_laws : PoolRange lawful ∧ ConditionRecorded lawful ∧ Conserved lawful ∧
    (after .selection { lawful with pending := [] }).periods.current.saturated = false := by
  unfold PoolRange ConditionRecorded Conserved
  decide +kernel

theorem witness_BranchesHoldEightMeters : BranchCapacity lawful := by
  unfold BranchCapacity
  decide +kernel

theorem witness_MirrorLaw : MirrorLaw lawful := by
  unfold MirrorLaw
  decide +kernel

theorem witness_RecordLaw : RecordLaw lawful := by
  unfold RecordLaw
  decide +kernel

theorem witness_BranchLaw : BranchLaw lawful := by
  intro b
  have h : ∀ b : BranchId, (lawful.branch b).allowance.all (fun a => decide (a.remaining ≤ a.period)) = true ∧
      (lawful.branch b).pace ≤ Config.fullPace := by decide +kernel
  refine ⟨fun a ha => ?_, (h b).2⟩
  have := (h b).1
  rw [ha] at this
  simpa using this

theorem witness_OrderLaw : OrderLaw lawful := by
  unfold OrderLaw
  decide +kernel

theorem witness_SupervisionLaw : SupervisionLaw lawful := by
  unfold SupervisionLaw
  decide +kernel

theorem witness_AmountLaw : AmountLaw lawful := by
  have h : ∀ m : MeterId, heldInG (lawful.meter m) ≤ Config.maxGrant ∧
      (lawful.meter m).pendingReq.all (fun r => decide (r.q ≤ Config.maxGrant)) = true := by decide +kernel
  refine ⟨fun m => ⟨(h m).1, fun r hr => ?_⟩, by decide +kernel⟩
  have := (h m).2
  rw [hr] at this
  simpa using this

theorem witness_GrantTotal : GrantTotal lawful := by
  unfold GrantTotal
  decide +kernel

theorem witness_SlotLaw : SlotLaw lawful := by
  have h13 : (lawful.meter 13).grant = lender.grant := by rw [lawful_meter]; rfl
  constructor
  · intro k e h
    rw [lawful_slot] at h
    split_ifs at h with hk
    · cases h
      exact ⟨_, h13, by rw [hk], rfl, rfl⟩
  · intro m g k h hp
    obtain ⟨rfl, rfl⟩ := lawful_grant m g h
    cases hp
    exact ⟨_, lawful_slot 0, rfl⟩

theorem witness_SerialLaw : SerialLaw lawful := by
  refine ⟨by decide +kernel, ?_, ?_⟩
  · intro m g h
    rw [(lawful_grant m g h).2]
    decide
  · intro m n g h hm hn _
    rw [(lawful_grant m g hm).1, (lawful_grant n h hn).1]

theorem witness_EngineLaw : EngineLaw lawful := by
  unfold EngineLaw
  decide +kernel

theorem witness_ListLaw : ListLaw lawful := by
  refine ⟨by decide +kernel, by decide +kernel, ?_, ?_⟩
  · intro n e h
    match n with
    | 0 => cases h; decide +kernel
    | 1 => cases h; decide +kernel
    | n + 2 => cases h
  · intro m g n h hs
    obtain ⟨rfl, rfl⟩ := lawful_grant m g h
    cases hs
    exact ⟨_, rfl, rfl, rfl⟩

theorem witness_StockLaws : StockLaw lawful ∧ ReorderLaw lawful := by
  unfold StockLaw ReorderLaw
  decide +kernel

theorem witness_QueueLaw : QueueLaw lawful ∧ QueueLaw (sendingFrame (.refillRefused 12 .pool)) := by
  have h : ∀ p : Port, (lawful.line p).queue.length ≤ Config.queuePlaces ∧ (lawful.line p).sending = none ∧
      ((sendingFrame (.refillRefused 12 .pool)).line p).queue.length ≤ Config.queuePlaces := by
    intro p
    cases p <;> decide +kernel
  refine ⟨fun p => ⟨(h p).1, fun bytes e => ?_⟩, fun p => ⟨(h p).2.2, fun bytes e => ?_⟩⟩
  · rw [(h p).2.1] at e
    cases e
  · cases p with
    | operations => exact ⟨_, [], rfl, (Option.some.inj e).symm⟩
    | audit => cases e

theorem witness_CounterLaw : CounterLaw lawful := by
  refine ⟨fun p => ?_, by decide +kernel, by decide +kernel⟩
  unfold LineCounters.inRange
  cases p <;> decide +kernel

theorem witness_NoticeLaw : NoticeLaw lawful := by
  intro c p
  cases c <;> cases p <;> decide +kernel

theorem witness_UnpoweredLaw :
    UnpoweredLaw (after .powerLoss lawful) ∧ (after .powerLoss lawful).powered = false ∧
      ∃ t, step (after .powerLoss lawful) = .next t := by
  refine ⟨fun _ => ⟨by decide +kernel, by decide +kernel, ?_, ?_⟩, by decide +kernel, _, rfl⟩
  · intro c
    cases c <;> decide +kernel
  · intro p
    cases p <;> decide +kernel

end Sys2Proof.Tests
end

/-!
What the Meter Table's two laws (R26, R41) read of a record: its standing, its branch and its registers. Almost every
operation leaves that as it was, whatever it does to requests, grants and timers.
-/

namespace Sys2Proof.Proofs.MeterTable

open Sys2Proof.Machine

/-! ## The ledger of a record -/

/-- Whether a meter counts against its branch's capacity (R26): the states other than VACANT and RETIRED are one standing. -/
inductive Standing where
  | vacant
  | enrolled
  | retired
deriving DecidableEq

def standingOf : MeterState → Standing
  | .vacant => .vacant
  | .retired => .retired
  | _ => .enrolled

/-- The fields of a record that R26, R18 and R41 speak of. -/
structure Ledger where
  standing : Standing
  branch : BranchId
  base : Nat
  credited : Int
  ct : Nat
  ar : Nat
  dr : Nat

def ledgerOf (r : Meter) : Ledger :=
  { standing := standingOf r.state, branch := r.branch, base := r.base, credited := r.credited, ct := r.ct,
    ar := r.arMirror, dr := r.drMirror }

/-- The ledgers of all records. -/
def ledgers (v : Vector Meter 192) (m : MeterId) : Ledger :=
  ledgerOf (v.get m)

/-- The mirrors add up to CT, and CT to base + credited (R18, R41). -/
def Ledger.Balanced (l : Ledger) : Prop :=
  l.ar + l.dr = l.ct ∧ (l.ct : Int) = l.base + l.credited

/-- The ledger after a reading of these registers that a credit of `x` explains: the mirrors are the registers, CT their
total (R38, R94, R139, R190). -/
def Ledger.posted (l : Ledger) (x : Int) (ar dr : Nat) : Ledger :=
  { l with credited := l.credited + x, ct := ar + dr, ar := ar, dr := dr }

def Ledger.retire (l : Ledger) : Ledger :=
  { l with standing := .retired }

theorem standingOf_eq_vacant_iff (x : MeterState) : standingOf x = .vacant ↔ x = .vacant := by
  cases x <;> simp [standingOf]

theorem standingOf_eq_enrolled_iff (x : MeterState) : standingOf x = .enrolled ↔ x ≠ .vacant ∧ x ≠ .retired := by
  cases x <;> simp [standingOf]

theorem mirrorLaw_iff (s : State) :
    MirrorLaw s ↔ ∀ m, (ledgers s.meters m).standing ≠ .vacant → (ledgers s.meters m).Balanced := by
  simp only [MirrorLaw, ledgers, ledgerOf, Ledger.Balanced, State.meter, ne_eq, standingOf_eq_vacant_iff]

/-! ## The ledgers after an update of the records -/

theorem ledgers_modifyAt (v : Vector Meter 192) (m : MeterId) (f : Meter → Meter) :
    ledgers (modifyAt v m f) = Function.update (ledgers v) m (ledgerOf (f (v.get m))) := by
  funext n
  by_cases h : n = m
  · subst h; simp [ledgers]
  · simp [ledgers, modifyAt_get_ne v f h, h]

theorem ledgers_modifyAt_same {v : Vector Meter 192} {m : MeterId} {f : Meter → Meter}
    (h : ledgerOf (f (v.get m)) = ledgerOf (v.get m)) : ledgers (modifyAt v m f) = ledgers v := by
  rw [ledgers_modifyAt, h]
  exact Function.update_eq_self m (ledgers v)

theorem ledgers_mapAll_same {v : Vector Meter 192} {f : Meter → Meter} (h : ∀ r, ledgerOf (f r) = ledgerOf r) :
    ledgers (mapAll f v) = ledgers v := by
  funext m
  simp [ledgers, h]

theorem ledgers_eq {s t : State} (h : ∀ m, ledgerOf (t.meter m) = ledgerOf (s.meter m)) :
    ledgers t.meters = ledgers s.meters :=
  funext h

/-- A change of one record that leaves every ledger alike changes none. -/
theorem modMeter_ledgers_same {m : MeterId} {f : Meter → Meter} {s : State}
    (h : ledgerOf (f (s.meter m)) = ledgerOf (s.meter m)) :
    ledgers (modMeter m f s).meters = ledgers s.meters :=
  ledgers_modifyAt_same h

/-! ## What a change may do to a ledger -/

/-- A ledger may go over into another: the branch stays, an enrolled meter may become RETIRED and the standing does not
change otherwise, and a balanced ledger stays balanced. An enrolment alone does more. -/
structure Ledger.Kept (a b : Ledger) : Prop where
  branch : b.branch = a.branch
  standing : b.standing = a.standing ∨ a.standing = .enrolled ∧ b.standing = .retired
  balanced : a.Balanced → b.Balanced

theorem Ledger.Kept.refl (a : Ledger) : a.Kept a :=
  ⟨rfl, .inl rfl, id⟩

/-- A credit that explains the total reported keeps the ledger balanced. -/
theorem Ledger.kept_posted (a : Ledger) {x : Int} {ar dr : Nat} (h : ((ar + dr : Nat) : Int) = a.ct + x) :
    a.Kept (a.posted x ar dr) := by
  refine ⟨rfl, .inl rfl, fun hb => ⟨rfl, ?_⟩⟩
  obtain ⟨-, hct⟩ := hb
  simp only [Ledger.posted]
  omega

theorem Ledger.Kept.retire {a b : Ledger} (h : a.Kept b) (he : a.standing = .enrolled) : a.Kept b.retire :=
  ⟨h.branch, .inr ⟨he, rfl⟩, h.balanced⟩

/-- Every record's ledger goes over as `Ledger.Kept` allows. -/
def LedgersKept (v w : Vector Meter 192) : Prop :=
  ∀ m, (ledgers v m).Kept (ledgers w m)

theorem LedgersKept.of_eq {v w : Vector Meter 192} (h : ledgers w = ledgers v) : LedgersKept v w := by
  intro m
  rw [h]
  exact .refl _

theorem LedgersKept.of_update {v w : Vector Meter 192} {m : MeterId} {l : Ledger}
    (h : ledgers w = Function.update (ledgers v) m l) (hl : (ledgers v m).Kept l) : LedgersKept v w := by
  intro n
  rw [h]
  by_cases hn : n = m
  · subst hn; simpa using hl
  · simpa [hn] using Ledger.Kept.refl _

theorem LedgersKept.eq_right {v w x : Vector Meter 192} (h : LedgersKept v w) (hx : ledgers x = ledgers w) :
    LedgersKept v x := by
  intro m
  rw [hx]
  exact h m

/-! ## Shared operations that leave every ledger as it was -/

section Operations

variable (s : State)

theorem restartTakesEffect_ledgers : ledgers (restartTakesEffect s).meters = ledgers s.meters :=
  ledgers_eq fun m => by rw [restartTakesEffect_meter]; rfl

theorem clearPaceAndHoldOff_ledgers : ledgers (clearPaceAndHoldOff s).meters = ledgers s.meters :=
  ledgers_mapAll_same fun _ => rfl

theorem enterLockdown_ledgers : ledgers (enterLockdown s).meters = ledgers s.meters :=
  ledgers_eq fun m => by rw [enterLockdown_meter]; rfl

theorem removeRequest_ledgers (m : MeterId) : ledgers (removeRequest m s).meters = ledgers s.meters :=
  modMeter_ledgers_same rfl

@[simp] theorem dropRequest_ledgers (m : MeterId) : ledgers (dropRequest m s).meters = ledgers s.meters := by
  unfold dropRequest
  split
  · exact removeRequest_ledgers s m
  · rfl

/-- A fault suspends only meters that are enrolled, and they stay so (R30). -/
@[simp] theorem suspendByFault_ledgers (m : MeterId) : ledgers (suspendByFault m s).meters = ledgers s.meters := by
  refine ledgers_eq fun n => ?_
  rw [suspendByFault_meter]
  split
  · next h =>
    obtain ⟨rfl, hs | hs⟩ := h <;> simp [ledgerOf, hs, standingOf]
  · rfl

theorem raiseFault_ledgers (f : FaultRecord) : ledgers (raiseFault f s).meters = ledgers s.meters := by
  unfold raiseFault
  dsimp only
  split <;> (repeat' split) <;> simp [enterLockdown_ledgers]

@[simp] theorem handFault_ledgers (f : FaultRecord) : ledgers (handFault f s).meters = ledgers s.meters := by
  unfold handFault
  split
  · simp
  · exact raiseFault_ledgers s f

theorem settleRestart_ledgers : ledgers (settleRestart s).meters = ledgers s.meters := by
  unfold settleRestart
  split
  · exact restartTakesEffect_ledgers s
  · rfl

@[simp] theorem afterSlotFreed_ledgers (g : Grant) : ledgers (afterSlotFreed g s).meters = ledgers s.meters := by
  unfold afterSlotFreed
  split
  · exact settleRestart_ledgers s
  · rfl

/-- DRAINING and AWAITING-READING are both enrolled states. -/
theorem leaveDraining_ledgers (m : MeterId) : ledgers (leaveDraining m s).meters = ledgers s.meters := by
  apply modMeter_ledgers_same
  by_cases h : (s.meter m).state = .draining <;> simp [ledgerOf, h, standingOf]

@[simp] theorem clearGrant_ledgers (m : MeterId) (g : Grant) :
    ledgers (clearGrant m g s).meters = ledgers s.meters := by
  rw [clearGrant, freeGrantSlot_meters]
  exact modMeter_ledgers_same rfl

@[simp] theorem makeDoubtful_ledgers (m : MeterId) (g : Grant) :
    ledgers (makeDoubtful m g s).meters = ledgers s.meters := by
  rw [makeDoubtful, freeGrantSlot_meters]
  exact modMeter_ledgers_same rfl

@[simp] theorem writeOutcome_ledgers (m : MeterId) (g : Grant) (result : GrantResult) (claim : Claim) :
    ledgers (writeOutcome m g result claim s).meters = ledgers s.meters :=
  modMeter_ledgers_same rfl

@[simp] theorem startHoldOff_ledgers (m : MeterId) : ledgers (startHoldOff m s).meters = ledgers s.meters :=
  modMeter_ledgers_same rfl

@[simp] theorem rejectReading_ledgers (m : MeterId) (rd : Report) :
    ledgers (rejectReading m rd s).meters = ledgers s.meters :=
  modMeter_ledgers_same rfl

@[simp] theorem offerGrant_ledgers (m : MeterId) (x : Nat) (source : GrantSource) :
    ledgers (offerGrant m x source s).meters = ledgers s.meters := by
  unfold offerGrant
  split
  · rfl
  · rw [enqueue_meters]
    exact modMeter_ledgers_same rfl

theorem expireSlot_ledgers (k : SlotId) (slot : Slot) : ledgers (expireSlot k slot s).meters = ledgers s.meters := by
  rw [expireSlot, settleRestart_ledgers, leaveDraining_ledgers, modLineIf_meters, freeSlot_meters]
  exact modMeter_ledgers_same rfl

theorem emptyList_ledgers : ledgers (emptyList s).meters = ledgers s.meters :=
  ledgers_mapAll_same fun _ => rfl

end Operations

/-- A change of an enrolled meter that moves it between enrolled states leaves its ledger as it was. -/
theorem ledgerOf_withState {r : Meter} {x : MeterState} (hr : standingOf r.state = .enrolled)
    (hx : standingOf x = .enrolled) : ledgerOf { r with state := x } = ledgerOf r := by
  simp [ledgerOf, hr, hx]

section Enrolled

variable {s : State} {m : MeterId} (h : standingOf (s.meter m).state = .enrolled)
include h

theorem enterSuspended_ledgers : ledgers (enterSuspended m s).meters = ledgers s.meters := by
  refine ledgers_eq fun n => ?_
  rw [enterSuspended_meter]
  split
  · next e => subst e; exact ledgerOf_withState h rfl
  · rfl

theorem becomeSilent_ledgers : ledgers (becomeSilent m s).meters = ledgers s.meters := by
  have hj (t : State) : (joinSilentList m t).meters = t.meters := by
    unfold joinSilentList; split <;> simp
  rw [becomeSilent, setCondition_meters, hj, ← dropRequest_ledgers s m]
  apply modMeter_ledgers_same
  refine ledgerOf_withState ?_ rfl
  rwa [dropRequest_meter, if_pos rfl]

theorem beginRetirement_ledgers : ledgers (beginRetirement m s).meters = ledgers s.meters := by
  rw [beginRetirement, ← dropRequest_ledgers s m]
  apply modMeter_ledgers_same
  refine ledgerOf_withState ?_ ?_
  · rwa [dropRequest_meter, if_pos rfl]
  · split <;> rfl

end Enrolled

/-! ## The operations that post to a ledger -/

section Posting

variable (s : State) (m : MeterId)

/-- An accepted reading changes the mirrors alone; the SILENT meter it makes ACTIVE was enrolled already (R38). -/
theorem acceptReading_ledgers (rd : Report) :
    ledgers (acceptReading m rd s).meters =
      Function.update (ledgers s.meters) m { ledgers s.meters m with ar := rd.ar, dr := rd.dr } := by
  have hm : (acceptReading m rd s).meters =
      modifyAt s.meters m (fun x => x.accepted rd (supervisionExpiry s m)) := by
    simp [acceptReading]
  have ha (r : Meter) : standingOf (if r.state = .silent then .active else r.state) = standingOf r.state := by
    split
    · next h => rw [h]; rfl
    · rfl
  rw [hm, ledgers_modifyAt]
  congr 1
  simp only [ledgers, ledgerOf, Meter.accepted, ha]

/-- A reading whose total is CT posts no credit. -/
theorem acceptReading_posted {rd : Report} (h : rd.total = (s.meter m).ct) :
    ledgers (acceptReading m rd s).meters =
      Function.update (ledgers s.meters) m ((ledgers s.meters m).posted 0 rd.ar rd.dr) := by
  rw [acceptReading_ledgers]
  congr 1
  have h' : rd.ar + rd.dr = (ledgers s.meters m).ct := h
  simp [Ledger.posted, h']

/-- A confirmed grant posts its amount with the reading that showed it applied (R94). -/
theorem confirmGrant_ledgers (g : Grant) (claim : Claim) {rd : Report} (h : rd.total = (s.meter m).ct + g.amount) :
    ledgers (confirmGrant m g claim rd s).meters =
      Function.update (ledgers s.meters) m ((ledgers s.meters m).posted g.amount rd.ar rd.dr) := by
  have hc : ledgers (creditMeter m g.amount (poolConfirm g.amount s)).meters =
      Function.update (ledgers s.meters) m
        { ledgers s.meters m with
          credited := (ledgers s.meters m).credited + g.amount, ct := (ledgers s.meters m).ct + g.amount } := by
    rw [creditMeter, modMeter_meters, ledgers_modifyAt, poolConfirm_meters]
    rfl
  have h' : rd.ar + rd.dr = (ledgers s.meters m).ct + g.amount := h
  rw [confirmGrant, afterSlotFreed_ledgers, leaveDraining_ledgers, entryResolved_meters, bankApplied_meters,
    startHoldOff_ledgers, writeOutcome_ledgers, clearGrant_ledgers, acceptReading_ledgers, hc]
  simp [Ledger.posted, h']

/-- Of a release only its reading, if it has one, reaches the ledgers (R95). -/
theorem releaseGrant_ledgers (g : Grant) (claim : Claim) (rd : Option Report) :
    ledgers (releaseGrant m g claim rd s).meters = ledgers (acceptOptional m rd
      (restoreAllowance (s.meter m).branch g (poolRelease g.amount s))).meters := by
  rw [releaseGrant, afterSlotFreed_ledgers, leaveDraining_ledgers, entryResolved_meters, bankReversed_meters,
    writeOutcome_ledgers, clearGrant_ledgers]

theorem releaseByAudit_ledgers : ledgers (releaseByAudit m s).meters = ledgers s.meters := by
  unfold releaseByAudit
  split
  · simp [releaseGrant_ledgers, acceptOptional]
  · rfl

/-- An adjustment that makes `total` the meter's CT credits the difference (R139, R190). -/
theorem adjustMeter_ledgers {delta : Int} {total : Nat} (h : (total : Int) = (ledgers s.meters m).ct + delta) :
    ledgers (adjustMeter m delta total s).meters =
      Function.update (ledgers s.meters) m
        { ledgers s.meters m with credited := (ledgers s.meters m).credited + delta, ct := total } := by
  unfold adjustMeter
  split
  · next hd =>
    have ht : total = (ledgers s.meters m).ct := by omega
    rw [hd, ht, add_zero]
    exact (Function.update_eq_self m _).symm
  · rw [modMeter_meters, ledgers_modifyAt, poolAdjust_meters, bankAdjustment_meters]
    rfl

/-- The completion of a retirement makes the meter RETIRED and posts nothing (R136). -/
theorem completeRetirement_ledgers (delta : Int) :
    ledgers (completeRetirement m delta s).meters =
      Function.update (ledgers s.meters) m (ledgers s.meters m).retire := by
  simp only [completeRetirement, setCondition_meters, reportRetirement, State.setRetireList_meters, modMeter_meters,
    poolSweep_meters, bankSweep_meters]
  exact ledgers_modifyAt _ _ _

end Posting

/-! ## Readings and audit actions on an enrolled meter -/

section Readings

variable {s : State} {m : MeterId} {rd : Report}

theorem acceptReading_kept (h : rd.total = (s.meter m).ct) :
    LedgersKept s.meters (acceptReading m rd s).meters :=
  .of_update (acceptReading_posted s m h) (Ledger.kept_posted _ (by rw [add_zero]; exact congrArg _ h))

theorem confirmGrant_kept (g : Grant) (claim : Claim) (h : rd.total = (s.meter m).ct + g.amount) :
    LedgersKept s.meters (confirmGrant m g claim rd s).meters :=
  .of_update (confirmGrant_ledgers s m g claim h) (Ledger.kept_posted _ (by exact_mod_cast h))

theorem releaseGrant_kept (g : Grant) (claim : Claim) (h : rd.total = (s.meter m).ct) :
    LedgersKept s.meters (releaseGrant m g claim (some rd) s).meters := by
  have hm : (restoreAllowance (s.meter m).branch g (poolRelease g.amount s)).meters = s.meters := by simp
  have h' : rd.total = ((restoreAllowance (s.meter m).branch g (poolRelease g.amount s)).meter m).ct := by
    rw [meter_congr hm, h]
  have hk := acceptReading_kept h'
  rw [hm] at hk
  exact hk.eq_right (releaseGrant_ledgers s m g claim (some rd))

theorem inconsistentReading_ledgers (kind : FaultKind) (m : MeterId) (rd : Report) (s : State) :
    ledgers (inconsistentReading kind m rd s).state.meters = ledgers s.meters := by
  simp [inconsistentReading]

theorem total_of_showsApplied {r : Meter} {x : Nat} (h : showsApplied r x rd = true) : rd.total = r.ct + x := by
  simp only [showsApplied, Bool.and_eq_true, decide_eq_true_eq] at h
  exact h.1

theorem judgeOutcome_notApplied {r : Meter} {x : Nat} (h : judgeOutcome r x rd = .notApplied) : rd.total = r.ct := by
  unfold judgeOutcome at h
  split_ifs at h
  assumption

theorem judgeOutcome_applied {r : Meter} {x : Nat} (h : judgeOutcome r x rd = .applied) : rd.total = r.ct + x := by
  unfold judgeOutcome at h
  split_ifs at h with _ _ ha
  exact total_of_showsApplied ha

theorem judgeOffered_notApplied {r : Meter} {x : Nat} (h : judgeOffered r x rd = .notApplied) : rd.total = r.ct := by
  unfold judgeOffered at h
  split_ifs at h
  assumption

theorem judgeOffered_applied {r : Meter} {x : Nat} (h : judgeOffered r x rd = .applied) : rd.total = r.ct + x := by
  unfold judgeOffered at h
  split_ifs at h with _ ha
  exact total_of_showsApplied ha

theorem statusReport_kept (m : MeterId) (rd : Report) (s : State) :
    LedgersKept s.meters (statusReport m rd s).state.meters := by
  unfold statusReport
  split
  · unfold judgeWithoutGrant
    split_ifs with _ ht
    · exact .of_eq (inconsistentReading_ledgers ..)
    · exact acceptReading_kept ht
    · exact .of_eq (inconsistentReading_ledgers ..)
  · next g _ =>
    split_ifs
    · unfold statusWhileOffered
      split
      · exact .of_eq (inconsistentReading_ledgers ..)
      · next hj => exact confirmGrant_kept g .none (judgeOffered_applied hj)
      · next hj => exact acceptReading_kept (judgeOffered_notApplied hj)
      · exact .of_eq (inconsistentReading_ledgers ..)
    · unfold statusWhileDoubtful
      split
      · exact .of_eq (inconsistentReading_ledgers ..)
      · next hj => exact confirmGrant_kept g .none (judgeOutcome_applied hj)
      · next hj => exact releaseGrant_kept g .none (judgeOutcome_notApplied hj)
      · exact .of_eq (inconsistentReading_ledgers ..)

/-- Completing a retirement on top of a reading that has been accepted. -/
theorem completeRetirement_kept {t : State} (he : standingOf (s.meter m).state = .enrolled)
    (h : LedgersKept s.meters t.meters) (delta : Int) :
    LedgersKept s.meters (completeRetirement m delta t).meters := by
  intro n
  rw [completeRetirement_ledgers]
  by_cases hn : n = m
  · subst hn
    rw [Function.update_self]
    exact (h n).retire he
  · rw [Function.update_of_ne hn]
    exact h n

theorem finalReading_kept (he : standingOf (s.meter m).state = .enrolled) (claim : Claim) (rd : Report) :
    LedgersKept s.meters (finalReading m claim rd s).state.meters := by
  unfold finalReading
  split
  · unfold finalWithoutGrant
    split_ifs with _ ht
    · exact .of_eq (inconsistentReading_ledgers ..)
    · exact completeRetirement_kept he (acceptReading_kept ht) 0
    · exact .of_eq (inconsistentReading_ledgers ..)
  · next g _ =>
    unfold finalWithGrant
    split
    · exact .of_eq (inconsistentReading_ledgers ..)
    · next hj => exact completeRetirement_kept he (releaseGrant_kept g claim (judgeOutcome_notApplied hj)) 0
    · next hj => exact completeRetirement_kept he (confirmGrant_kept g claim (judgeOutcome_applied hj)) 0
    · exact .of_eq (inconsistentReading_ledgers ..)

/-- A meter adjusted to the total of a reading has Δ posted once its mirrors are that reading's (R139, R190). -/
theorem adjusted_ledgers (s : State) (m : MeterId) (x : Reading) :
    let settled := ledgers (adjustMeter m (deltaOf (s.meter m) x) (x.ar + x.dr) (releaseByAudit m s)).meters
    Function.update settled m { settled m with ar := x.ar, dr := x.dr } =
      Function.update (ledgers s.meters) m ((ledgers s.meters m).posted (deltaOf (s.meter m) x) x.ar x.dr) := by
  have hd : ((x.ar + x.dr : Nat) : Int) = (ledgers (releaseByAudit m s).meters m).ct + deltaOf (s.meter m) x := by
    rw [releaseByAudit_ledgers]
    exact (add_sub_cancel _ _).symm
  rw [adjustMeter_ledgers _ _ hd, releaseByAudit_ledgers]
  simp [Ledger.posted]

theorem kept_posted_deltaOf (s : State) (m : MeterId) (x : Reading) :
    (ledgers s.meters m).Kept ((ledgers s.meters m).posted (deltaOf (s.meter m) x) x.ar x.dr) :=
  Ledger.kept_posted _ (add_sub_cancel _ _).symm

theorem adjustOn_kept (he : standingOf (s.meter m).state = .enrolled) (rd : Report) :
    LedgersKept s.meters (adjustOn m rd s).state.meters := by
  unfold adjustOn
  dsimp only
  split_ifs
  · exact .of_eq rfl
  · exact .of_eq rfl
  · refine completeRetirement_kept he (.of_update ?_ (kept_posted_deltaOf s m rd.reading)) _
    rw [acceptReading_ledgers]
    exact adjusted_ledgers s m rd.reading

/-- A resumed meter was enrolled already. -/
theorem reactivate_ledgers (h : (ledgers s.meters m).standing = .enrolled) :
    ledgers (reactivate m s).meters = ledgers s.meters := by
  rw [reactivate, startSupervision_meters, ledgers_modifyAt_same rfl]
  exact modMeter_ledgers_same (ledgerOf_withState h rfl)

theorem rebaseline_kept (he : standingOf (s.meter m).state = .enrolled) (x : Reading) :
    LedgersKept s.meters (rebaseline m x (deltaOf (s.meter m) x) s).meters := by
  obtain ⟨t, hr, ht⟩ : ∃ t, rebaseline m x (deltaOf (s.meter m) x) s = reactivate m t ∧ ledgers t.meters =
      Function.update (ledgers s.meters) m ((ledgers s.meters m).posted (deltaOf (s.meter m) x) x.ar x.dr) := by
    refine ⟨_, rfl, ?_⟩
    rw [← adjusted_ledgers, modMeter_meters, recordUsage_meters, ledgers_modifyAt]
    rfl
  refine .of_update ?_ (kept_posted_deltaOf s m x)
  rw [hr, reactivate_ledgers, ht]
  rw [ht, Function.update_self]
  exact he

end Readings

/-! ## What a command does to the records -/

/-- The enrolled meters of a branch (R26). -/
def seatedAt (b : BranchId) (r : Meter) : Bool :=
  r.branch == b && r.state != .vacant && r.state != .retired

/-- The records after a step: their ledgers are kept, or one meter that is not enrolled is enrolled at a branch that has
room (R24, R25), or retention was lost (R176). -/
inductive MetersAfter (v w : Vector Meter 192) : Prop where
  | kept (h : LedgersKept v w)
  | enrolled (m : MeterId) (b : BranchId) (ar : Nat) (labels : Word32) (supervision : Option Word32)
      (room : v.toList.countP (seatedAt b) < 8)
      (h : w = modifyAt v m (fun _ => Meter.enrolled b ar labels supervision))
  | lost (h : w = State.reset.meters)

theorem MetersAfter.same {v w : Vector Meter 192} (h : ledgers w = ledgers v) : MetersAfter v w :=
  .kept (.of_eq h)

/-! ### Messages -/

/-- The state in which a frame waits, or is taken. -/
def stateOf : Taking → State
  | .waits t => t
  | .taken _ t => t

/-- The arrival and the taking of a frame change lines alone. -/
theorem takeFrame_meters (p : Port) (kind tag : Byte) (body : List Byte) (s : State) :
    (stateOf (takeFrame p kind tag body s)).meters = s.meters := by
  unfold takeFrame
  dsimp only
  split
  · rfl
  · split
    · split <;> simp [stateOf]
    · (repeat' split) <;> simp [stateOf]

@[simp] theorem refuse_meters (status : Status) (s : State) : (refuse status s).state.meters = s.meters := rfl

@[simp] theorem answerOk_meters (body : List WireField) (s : State) : (answerOk body s).state.meters = s.meters := rfl

/-- The Dispatcher refuses in the state as it is, or gives its owner's answer. -/
theorem answerTo_cases {α : Type} (p : Port) (k : Kind) (b : Body α) (owner : α → State → Answer) (o : Bool)
    (s : State) :
    (answerTo p k b owner o s).state = s ∨ ∃ f, (answerTo p k b owner o s).state = (owner f s).state := by
  unfold answerTo
  split
  · exact .inl rfl
  · split
    · exact .inl rfl
    · next f =>
      unfold judge
      split_ifs
      · exact .inl rfl
      · exact .inl rfl
      · exact .inl rfl
      · exact .inr ⟨f, rfl⟩

section Requests

variable {α : Type} {owner : α → State → Answer} {p : Port} {k : Kind} {tag : Byte} {b : Body α} {enc : α → List Byte}
  {s : State}

/-- What every answer of its owner does to the records, a message does. -/
theorem request_after (h : ∀ f t, MetersAfter t.meters (owner f t).state.meters) :
    MetersAfter s.meters (request p k tag b enc owner s).meters := by
  have ht := takeFrame_meters p k.code tag (bodyBytes enc b) s
  unfold request
  split
  · next t e =>
    rw [e] at ht
    exact .same (congrArg ledgers ht)
  · next o t e =>
    rw [e] at ht
    rw [reply, enqueue_meters, ← show t.meters = s.meters from ht]
    obtain ha | ⟨f, ha⟩ := answerTo_cases p k b owner o t
    · rw [ha]
      exact .same rfl
    · rw [ha]
      exact h f t

theorem request_kept (h : ∀ f t, LedgersKept t.meters (owner f t).state.meters) :
    MetersAfter s.meters (request p k tag b enc owner s).meters :=
  request_after (fun f t => .kept (h f t))

theorem request_same (h : ∀ f t, ledgers (owner f t).state.meters = ledgers t.meters) :
    MetersAfter s.meters (request p k tag b enc owner s).meters :=
  request_after (fun f t => .same (h f t))

theorem request_unchanged (h : ∀ f t, (owner f t).state.meters = t.meters) :
    MetersAfter s.meters (request p k tag b enc owner s).meters :=
  request_same fun f t => congrArg ledgers (h f t)

end Requests

/-! ### The owners' answers that change a ledger -/

theorem enrolledAt_eq (s : State) (b : BranchId) : enrolledAt s b = s.meters.toList.countP (seatedAt b) := by
  have he (x : MeterState) : x.enrolled = (x != .vacant && x != .retired) := by cases x <;> rfl
  have hb : (fun r : Meter => r.branch == b && r.state.enrolled) = seatedAt b := by
    funext r
    rw [seatedAt, he, Bool.and_assoc]
  rw [enrolledAt, hb]

theorem answerEnrolMeter_after (f : EnrolMsg) (s : State) :
    MetersAfter s.meters (answerEnrolMeter f s).state.meters := by
  unfold answerEnrolMeter
  split
  · next m b _ _ =>
    split_ifs with _ _ _ hroom
    · exact .same rfl
    · exact .same rfl
    · exact .same rfl
    · exact .same rfl
    · exact .enrolled m b f.ar.toNat f.labels (enrolSupervision s) (enrolledAt_eq s b ▸ not_le.mp hroom) rfl
  · exact .same rfl

theorem statusOn_kept (m : MeterId) (rd : Report) (s : State) :
    LedgersKept s.meters (statusOn m rd s).state.meters := by
  unfold statusOn
  split
  · exact .of_eq rfl
  · exact .of_eq rfl
  · next h => exact finalReading_kept (by rw [h]; rfl) .none rd
  all_goals exact statusReport_kept m rd s

theorem answerMeterStatus_kept (f : ReadingMsg) (s : State) :
    LedgersKept s.meters (answerMeterStatus f s).state.meters := by
  unfold answerMeterStatus
  split
  · exact .of_eq rfl
  · exact statusOn_kept _ _ s

theorem plainFinalOn_kept (m : MeterId) (rd : Report) (s : State) :
    LedgersKept s.meters (plainFinalOn m rd s).state.meters := by
  unfold plainFinalOn
  split
  case h_3 h => exact finalReading_kept (by rw [h]; rfl) .none rd
  all_goals exact .of_eq rfl

theorem answerFinalReading_kept (f : ReadingMsg) (s : State) :
    LedgersKept s.meters (answerFinalReading f s).state.meters := by
  unfold answerFinalReading
  split
  · exact .of_eq rfl
  · exact plainFinalOn_kept _ _ s

theorem adjustingFinalOn_kept (m : MeterId) (rd : Report) (s : State) :
    LedgersKept s.meters (adjustingFinalOn m rd s).state.meters := by
  unfold adjustingFinalOn
  split
  case h_3 h => exact adjustOn_kept (by rw [h]; rfl) rd
  all_goals exact .of_eq rfl

theorem answerAdjustingFinalReading_kept (f : ReadingMsg) (s : State) :
    LedgersKept s.meters (answerAdjustingFinalReading f s).state.meters := by
  unfold answerAdjustingFinalReading
  split
  · exact .of_eq rfl
  · exact adjustingFinalOn_kept _ _ s

theorem compareClaim_ledgers (m : MeterId) (g : Grant) (claim : Claim) (result : GrantResult) (rd : Report) (ct : Nat)
    (t : State) : ledgers (compareClaim m g claim result rd ct t).state.meters = ledgers t.meters := by
  unfold compareClaim
  split
  · exact handFault_ledgers ..
  · rfl

theorem outcomeInconsistent_ledgers (kind : FaultKind) (m : MeterId) (g : Grant) (rd : Report) (s : State) :
    ledgers (outcomeInconsistent kind m g rd s).state.meters = ledgers s.meters := by
  rw [outcomeInconsistent, handFault_ledgers, afterSlotFreed_ledgers, leaveDraining_ledgers, rejectReading_ledgers,
    makeDoubtful_ledgers]

theorem outcomeNamed_kept (m : MeterId) (g : Grant) (claim : Claim) (rd : Report) (s : State) :
    LedgersKept s.meters (outcomeNamed m g claim rd s).state.meters := by
  unfold outcomeNamed
  dsimp only
  split
  · exact .of_eq (outcomeInconsistent_ledgers ..)
  · next hj => exact (releaseGrant_kept g claim (judgeOutcome_notApplied hj)).eq_right (compareClaim_ledgers ..)
  · next hj => exact (confirmGrant_kept g claim (judgeOutcome_applied hj)).eq_right (compareClaim_ledgers ..)
  · exact .of_eq (outcomeInconsistent_ledgers ..)

theorem outcomeInService_kept (m : MeterId) (serial : Word16) (claim : Claim) (rd : Report) (s : State) :
    LedgersKept s.meters (outcomeInService m serial claim rd s).state.meters := by
  unfold outcomeInService
  dsimp only
  rw [answerOk_meters]
  split
  · exact outcomeNamed_kept m _ claim rd s
  · exact (statusReport_kept m rd s).eq_right (handFault_ledgers ..)

theorem outcomeOn_kept (m : MeterId) (serial : Word16) (claim : Claim) (rd : Report) (s : State) :
    LedgersKept s.meters (outcomeOn m serial claim rd s).state.meters := by
  unfold outcomeOn
  split
  · exact .of_eq rfl
  · exact .of_eq rfl
  · next h =>
    have he : standingOf (s.meter m).state = .enrolled := by rw [h]; rfl
    split
    · unfold outcomeFinalNamed
      dsimp only
      split
      · exact (finalReading_kept he _ rd).eq_right (handFault_ledgers ..)
      · exact finalReading_kept he _ rd
    · exact (finalReading_kept he .none rd).eq_right (handFault_ledgers ..)
  all_goals exact outcomeInService_kept m serial claim rd s

theorem answerGrantApplied_kept (f : AppliedMsg) (s : State) :
    LedgersKept s.meters (answerGrantApplied f s).state.meters := by
  unfold answerGrantApplied
  split
  · exact .of_eq rfl
  · exact outcomeOn_kept _ _ _ _ s

theorem answerGrantRejected_kept (f : RejectedMsg) (s : State) :
    LedgersKept s.meters (answerGrantRejected f s).state.meters := by
  unfold answerGrantRejected
  split
  · exact .of_eq rfl
  · exact outcomeOn_kept _ _ _ _ s

theorem resumeSuspended_kept {m : MeterId} {s : State} (he : standingOf (s.meter m).state = .enrolled) :
    LedgersKept s.meters (resumeSuspended m s).state.meters := by
  unfold resumeSuspended
  dsimp only
  split
  · exact .of_eq (reactivate_ledgers he)
  · next x _ =>
    split_ifs
    · exact .of_eq rfl
    · exact .of_eq rfl
    · exact .of_eq rfl
    · exact rebaseline_kept he x

theorem answerResumeMeter_kept (f : MeterMsg) (s : State) :
    LedgersKept s.meters (answerResumeMeter f s).state.meters := by
  unfold answerResumeMeter
  split
  · exact .of_eq rfl
  · unfold resumeOn
    split
    case h_3 h => exact resumeSuspended_kept (by rw [h]; rfl)
    all_goals exact .of_eq rfl

/-! ### The owners' answers that leave every ledger as it was -/

theorem acceptRequest_ledgers (m : MeterId) (r : PendingRequest) (s : State) :
    ledgers (acceptRequest m r s).state.meters = ledgers s.meters := by
  unfold acceptRequest
  split
  · exact modMeter_ledgers_same rfl
  · exact modMeter_ledgers_same rfl

theorem answerRefillRequest_ledgers (f : RefillMsg) (s : State) :
    ledgers (answerRefillRequest f s).state.meters = ledgers s.meters := by
  unfold answerRefillRequest refillOn
  (repeat' split) <;> simp [acceptRequest_ledgers]

theorem configureMeter_ledgers (m : MeterId) (k : Settings) (s : State) :
    ledgers (configureMeter m k s).meters = ledgers s.meters := by
  unfold configureMeter
  dsimp only
  split
  · rw [startSupervision_meters, ledgers_modifyAt_same rfl]
    exact modMeter_ledgers_same rfl
  · exact modMeter_ledgers_same rfl

theorem answerConfigureMeter_ledgers (f : ConfigureMeterMsg) (s : State) :
    ledgers (answerConfigureMeter f s).state.meters = ledgers s.meters := by
  unfold answerConfigureMeter
  (repeat' split) <;> simp [configureMeter_ledgers]

theorem answerSuspendMeter_ledgers (f : MeterMsg) (s : State) :
    ledgers (answerSuspendMeter f s).state.meters = ledgers s.meters := by
  unfold answerSuspendMeter
  split
  · rfl
  · unfold suspendOn
    split
    case h_3 h => exact enterSuspended_ledgers (by rw [h]; rfl)
    case h_4 h => exact enterSuspended_ledgers (by rw [h]; rfl)
    all_goals rfl

theorem answerRetireMeter_ledgers (f : MeterMsg) (s : State) :
    ledgers (answerRetireMeter f s).state.meters = ledgers s.meters := by
  unfold answerRetireMeter
  split
  · rfl
  · unfold retireOn
    split
    case h_3 h => exact beginRetirement_ledgers (by rw [h]; rfl)
    case h_4 h => exact beginRetirement_ledgers (by rw [h]; rfl)
    case h_5 h => exact beginRetirement_ledgers (by rw [h]; rfl)
    all_goals rfl

theorem answerEngineRestart_ledgers (f : Unit) (s : State) :
    ledgers (answerEngineRestart f s).state.meters = ledgers s.meters := by
  unfold answerEngineRestart
  split
  · dsimp only
    split
    · exact restartTakesEffect_ledgers s
    · rfl
  · rfl
  · rfl

theorem answerCommission_ledgers (f : Unit) (s : State) : ledgers (answerCommission f s).state.meters = ledgers s.meters := by
  have hr (r : Meter) : ledgerOf (Meter.commissioned s r) = ledgerOf r := by
    unfold Meter.commissioned
    split <;> rfl
  unfold answerCommission
  split
  · simp [commissionPart, ledgers_mapAll_same hr]
  · rfl
  · rfl

theorem answerLoadList_ledgers (f : LoadListMsg) (s : State) : ledgers (answerLoadList f s).state.meters = ledgers s.meters := by
  unfold answerLoadList
  dsimp only
  (repeat' split) <;> simp [appendEntries, emptyList_ledgers]

theorem answerClearList_ledgers (f : Unit) (s : State) : ledgers (answerClearList f s).state.meters = ledgers s.meters := by
  unfold answerClearList
  split
  · exact emptyList_ledgers s
  · exact emptyList_ledgers s
  · rfl

theorem answerDeposit_meters (f : DepositMsg) (s : State) : (answerDeposit f s).state.meters = s.meters := by
  unfold answerDeposit
  dsimp only
  split_ifs <;> simp

theorem answerRefund_meters (f : RefundMsg) (s : State) : (answerRefund f s).state.meters = s.meters := by
  unfold answerRefund
  dsimp only
  split_ifs <;> simp

theorem answerSetPoolLimits_meters (f : PoolLimitsMsg) (s : State) : (answerSetPoolLimits f s).state.meters = s.meters := by
  unfold answerSetPoolLimits
  dsimp only
  split_ifs <;> simp [setLimits]

theorem answerConfigureStockLine_meters (f : StockLineMsg) (s : State) :
    (answerConfigureStockLine f s).state.meters = s.meters := by
  unfold answerConfigureStockLine
  (repeat' split) <;> simp

/-- The line checks of R144 change nothing. -/
theorem withStockLine_ledgers {k : BranchId → LineNo → State → Answer} {s : State}
    (h : ∀ b l, ledgers (k b l s).state.meters = ledgers s.meters) (branch line : Byte) :
    ledgers (withStockLine branch line k s).state.meters = ledgers s.meters := by
  unfold withStockLine
  split
  · split
    · exact h _ _
    · rfl
  · rfl

theorem answerStockReceipt_ledgers (f : ReceiptMsg) (s : State) :
    ledgers (answerStockReceipt f s).state.meters = ledgers s.meters := by
  refine withStockLine_ledgers (fun b l => ?_) _ _
  unfold receiptOn
  dsimp only
  (repeat' split) <;> simp [receivePieces, payFor]

theorem answerStockSale_ledgers (f : PiecesMsg) (s : State) :
    ledgers (answerStockSale f s).state.meters = ledgers s.meters := by
  refine withStockLine_ledgers (fun b l => ?_) _ _
  unfold saleOn
  split <;> simp [sellPieces]

theorem answerStockSpoil_ledgers (f : PiecesMsg) (s : State) :
    ledgers (answerStockSpoil f s).state.meters = ledgers s.meters := by
  refine withStockLine_ledgers (fun b l => ?_) _ _
  unfold spoilOn
  split <;> simp [spoilPieces]

theorem answerStockCount_ledgers (f : PiecesMsg) (s : State) :
    ledgers (answerStockCount f s).state.meters = ledgers s.meters := by
  refine withStockLine_ledgers (fun b l => ?_) _ _
  unfold countOn
  dsimp only
  split
  · rfl
  · split <;> simp [countPieces]

theorem answerStartList_meters (f : StartListMsg) (s : State) : (answerStartList f s).state.meters = s.meters := by
  have hs (cls : Priority) (batch : Bool) : (startList cls batch s).meters = s.meters := by
    unfold startList
    dsimp only
    split <;> simp
  unfold answerStartList
  (repeat' split) <;> simp [hs]

theorem answerHaltList_meters (f : Unit) (s : State) : (answerHaltList f s).state.meters = s.meters := by
  unfold answerHaltList
  (repeat' split) <;> simp

theorem answerAbortList_meters (f : Unit) (s : State) : (answerAbortList f s).state.meters = s.meters := by
  unfold answerAbortList
  split <;> simp [abortList]

theorem answerClosePeriod_meters (f : StampMsg) (s : State) : (answerClosePeriod f s).state.meters = s.meters := by
  unfold answerClosePeriod
  split <;> simp [closePeriod]

theorem answerCollectPeriod_meters (f : StampMsg) (s : State) : (answerCollectPeriod f s).state.meters = s.meters := by
  unfold answerCollectPeriod
  split_ifs <;> rfl

theorem answerConfigureBranch_meters (f : ConfigureBranchMsg) (s : State) :
    (answerConfigureBranch f s).state.meters = s.meters := by
  unfold answerConfigureBranch
  split <;> rfl

theorem answerSetUrgencyMap_meters (f : UrgencyMapMsg) (s : State) : (answerSetUrgencyMap f s).state.meters = s.meters := by
  unfold answerSetUrgencyMap
  split <;> rfl

theorem answerSetEngine_meters (f : SetEngineMsg) (s : State) : (answerSetEngine f s).state.meters = s.meters := by
  unfold answerSetEngine
  dsimp only
  split <;> rfl

theorem answerSetNotices_meters (f : SetNoticesMsg) (s : State) : (answerSetNotices f s).state.meters = s.meters := by
  unfold answerSetNotices
  split <;> rfl

theorem answerSetFaultPolicy_meters (f : PolicyMsg) (s : State) : (answerSetFaultPolicy f s).state.meters = s.meters := by
  unfold answerSetFaultPolicy
  split <;> rfl

theorem answerSetTolerance_meters (f : ToleranceMsg) (s : State) : (answerSetTolerance f s).state.meters = s.meters := by
  unfold answerSetTolerance
  split <;> rfl

theorem answerRelease_meters (f : Unit) (s : State) : (answerRelease f s).state.meters = s.meters := by
  unfold answerRelease
  split <;> rfl

theorem answerClearFaults_meters (f : Unit) (s : State) : (answerClearFaults f s).state.meters = s.meters := by
  unfold answerClearFaults
  split <;> rfl

theorem answerQueryMeter_meters (f : MeterMsg) (s : State) : (answerQueryMeter f s).state.meters = s.meters := by
  unfold answerQueryMeter
  split <;> rfl

theorem answerQueryBranch_meters (f : BranchMsg) (s : State) : (answerQueryBranch f s).state.meters = s.meters := by
  unfold answerQueryBranch
  split <;> rfl

theorem answerQueryStock_meters (f : QueryStockMsg) (s : State) : (answerQueryStock f s).state.meters = s.meters := by
  unfold answerQueryStock
  (repeat' split) <;> rfl

theorem answerQueryList_meters (f : QueryListMsg) (s : State) : (answerQueryList f s).state.meters = s.meters := by
  unfold answerQueryList
  split <;> rfl

theorem answerQueryPeriod_meters (f : QueryPeriodMsg) (s : State) : (answerQueryPeriod f s).state.meters = s.meters := by
  unfold answerQueryPeriod
  (repeat' split) <;> rfl

theorem answerQueryLine_meters (f : QueryLineMsg) (s : State) : (answerQueryLine f s).state.meters = s.meters := by
  unfold answerQueryLine
  split <;> simp [readPin, settleLine]

/-! ### The selection -/

section Selection

variable (s : State)

theorem reserveForRequest_ledgers (m : MeterId) (x : Nat) :
    ledgers (reserveForRequest m x s).meters = ledgers s.meters := by
  simp [reserveForRequest, removeRequest_ledgers, consumeAllowance]

theorem refuseShort_ledgers (m : MeterId) (cause : Cause) :
    ledgers (refuseShort m cause s).meters = ledgers s.meters := by
  simp [refuseShort, removeRequest_ledgers]

theorem serveRequest_ledgers (m : MeterId) : ledgers (serveRequest m s).meters = ledgers s.meters := by
  unfold serveRequest
  split
  · rfl
  · dsimp only
    split
    · exact refuseShort_ledgers ..
    · exact reserveForRequest_ledgers ..

theorem supersede_ledgers (m : MeterId) : ledgers (supersede m s).meters = ledgers s.meters := by
  unfold supersede
  split
  · rw [enqueue_meters, removeRequest_ledgers]
  · rfl

theorem computeEntry_ledgers (n : Nat) (e : Entry) : ledgers (computeEntry n e s).meters = ledgers s.meters := by
  unfold computeEntry
  dsimp only
  split
  · unfold entryShort
    dsimp only
    split <;> simp
  · simp [reserveForEntry]

theorem processEntry_ledgers (n : Nat) (e : Entry) : ledgers (processEntry n e s).meters = ledgers s.meters := by
  unfold processEntry
  split_ifs
  · simp
  · simp
  · rw [computeEntry_ledgers, supersede_ledgers]

theorem serve_ledgers (r : Requester) (ring : Ring) : ledgers (serve r ring s).meters = ledgers s.meters := by
  unfold serve
  split
  · split
    · exact serveRequest_ledgers ..
    · rfl
  · unfold serveList
    split
    · rfl
    · rw [endRun_meters, advanceEntry, State.setList_meters, processEntry_ledgers]

theorem select_ledgers : ledgers (select s).meters = ledgers s.meters := by
  have hg : (giveUpBatch s).meters = s.meters := by
    unfold giveUpBatch
    dsimp only
    split <;> simp
  unfold select
  split
  · rw [serve_ledgers, State.setArbiter_meters]
  · dsimp only
    split
    · rw [serve_ledgers, State.setArbiter_meters, hg]
    · rw [hg]

end Selection

/-! ### Events at the lines, and power -/

theorem whenPowered_after {f : State → State} {s : State} (h : MetersAfter s.meters (f s).meters) :
    MetersAfter s.meters (whenPowered f s).meters := by
  unfold whenPowered
  split
  · exact h
  · exact .same rfl

theorem whenPowered_unchanged {f : State → State} {s : State} (h : (f s).meters = s.meters) :
    MetersAfter s.meters (whenPowered f s).meters :=
  whenPowered_after (.same (congrArg ledgers h))

theorem receive_meters (p : Port) (cond : LineIf → Bool) (f : LineIf → LineIf) (s : State) :
    (receive p cond f s).meters = s.meters := by
  unfold receive
  dsimp only
  split <;> simp

theorem noticeSent_meters (f : OutFrame) (s : State) : (noticeSent f s).meters = s.meters := by
  have hp (c : NoticeClass) (carried : Carried) (t : State) : (pageReported c carried t).meters = t.meters := by
    unfold pageReported
    dsimp only
    (repeat' split) <;> simp
  unfold noticeSent
  split
  · rw [hp, modNotice_meters]
  · rfl

theorem queueNotice_meters (c : NoticeClass) (p : Port) (s : State) : (queueNotice c p s).meters = s.meters := by
  unfold queueNotice
  dsimp only
  rw [enqueue_meters, modNotice_meters]
  split <;> simp [markSampled]

/-- A power-on with retained memory intact changes requests, grant phases and hold-off timers, and makes DRAINING meters
AWAITING-READING; the ledgers are retained (R43, R112). -/
theorem powerOn_ledgers (straps : Straps) (s : State) : ledgers (powerOn straps s).meters = ledgers s.meters := by
  have hm (r : Meter) : ledgerOf r.poweredOn = ledgerOf r := by
    by_cases h : r.state = .draining <;> simp [ledgerOf, Meter.poweredOn, h, standingOf]
  have ha (completed : Bool) (t : State) : (announce completed t).meters = t.meters := by
    unfold announce
    dsimp only
    split_ifs <;> simp
  have hr (t : State) : ledgers (restoreBlocks t).meters = ledgers t.meters := by
    simp [restoreBlocks, ledgers_mapAll_same hm]
  rw [powerOn, ha]
  split
  · rw [clearPaceAndHoldOff_ledgers, hr]
    rfl
  · rw [hr]
    rfl

/-! ### Every command -/

theorem enrolled_of_supervised {s : State} (hs : RecordLaw s) {m : MeterId} {expiry : Word32}
    (h : (s.meter m).supervision = some expiry) : standingOf (s.meter m).state = .enrolled := by
  obtain ⟨hidle, -⟩ := hs m
  rw [standingOf_eq_enrolled_iff]
  constructor <;> intro hm <;> simp_all

/-- What a command does to the records; a running supervision timer belongs to an enrolled meter (R131, R142). -/
theorem exec_after (c : Instr) {s : State} (hs : RecordLaw s) :
    ∃ t, exec c s = .next t ∧ MetersAfter s.meters t.meters := by
  cases c with
  | meterStatus => exact ⟨_, rfl, request_kept answerMeterStatus_kept⟩
  | refillRequest => exact ⟨_, rfl, request_same answerRefillRequest_ledgers⟩
  | grantApplied => exact ⟨_, rfl, request_kept answerGrantApplied_kept⟩
  | grantRejected => exact ⟨_, rfl, request_kept answerGrantRejected_kept⟩
  | deposit => exact ⟨_, rfl, request_unchanged answerDeposit_meters⟩
  | enrolMeter => exact ⟨_, rfl, request_after answerEnrolMeter_after⟩
  | configureMeter => exact ⟨_, rfl, request_same answerConfigureMeter_ledgers⟩
  | suspendMeter => exact ⟨_, rfl, request_same answerSuspendMeter_ledgers⟩
  | retireMeter => exact ⟨_, rfl, request_same answerRetireMeter_ledgers⟩
  | finalReading => exact ⟨_, rfl, request_kept answerFinalReading_kept⟩
  | adjustingFinalReading => exact ⟨_, rfl, request_kept answerAdjustingFinalReading_kept⟩
  | configureBranch => exact ⟨_, rfl, request_unchanged answerConfigureBranch_meters⟩
  | setUrgencyMap => exact ⟨_, rfl, request_unchanged answerSetUrgencyMap_meters⟩
  | setEngine => exact ⟨_, rfl, request_unchanged answerSetEngine_meters⟩
  | engineRestart => exact ⟨_, rfl, request_same answerEngineRestart_ledgers⟩
  | configureStockLine => exact ⟨_, rfl, request_unchanged answerConfigureStockLine_meters⟩
  | stockReceipt => exact ⟨_, rfl, request_same answerStockReceipt_ledgers⟩
  | stockSale => exact ⟨_, rfl, request_same answerStockSale_ledgers⟩
  | stockSpoil => exact ⟨_, rfl, request_same answerStockSpoil_ledgers⟩
  | stockCount => exact ⟨_, rfl, request_same answerStockCount_ledgers⟩
  | loadList => exact ⟨_, rfl, request_same answerLoadList_ledgers⟩
  | startList => exact ⟨_, rfl, request_unchanged answerStartList_meters⟩
  | haltList => exact ⟨_, rfl, request_unchanged answerHaltList_meters⟩
  | abortList => exact ⟨_, rfl, request_unchanged answerAbortList_meters⟩
  | clearList => exact ⟨_, rfl, request_same answerClearList_ledgers⟩
  | closePeriod => exact ⟨_, rfl, request_unchanged answerClosePeriod_meters⟩
  | collectPeriod => exact ⟨_, rfl, request_unchanged answerCollectPeriod_meters⟩
  | setNotices => exact ⟨_, rfl, request_unchanged answerSetNotices_meters⟩
  | commission => exact ⟨_, rfl, request_same answerCommission_ledgers⟩
  | refund => exact ⟨_, rfl, request_unchanged answerRefund_meters⟩
  | setPoolLimits => exact ⟨_, rfl, request_unchanged answerSetPoolLimits_meters⟩
  | setFaultPolicy => exact ⟨_, rfl, request_unchanged answerSetFaultPolicy_meters⟩
  | setTolerance => exact ⟨_, rfl, request_unchanged answerSetTolerance_meters⟩
  | resumeMeter => exact ⟨_, rfl, request_kept answerResumeMeter_kept⟩
  | release => exact ⟨_, rfl, request_unchanged answerRelease_meters⟩
  | clearFaults => exact ⟨_, rfl, request_unchanged answerClearFaults_meters⟩
  | queryPool => exact ⟨_, rfl, request_unchanged fun _ _ => rfl⟩
  | queryMeter => exact ⟨_, rfl, request_unchanged answerQueryMeter_meters⟩
  | queryBranch => exact ⟨_, rfl, request_unchanged answerQueryBranch_meters⟩
  | queryStock => exact ⟨_, rfl, request_unchanged answerQueryStock_meters⟩
  | queryList => exact ⟨_, rfl, request_unchanged answerQueryList_meters⟩
  | queryPeriod => exact ⟨_, rfl, request_unchanged answerQueryPeriod_meters⟩
  | queryFaults => exact ⟨_, rfl, request_unchanged fun _ _ => rfl⟩
  | queryLine => exact ⟨_, rfl, request_unchanged answerQueryLine_meters⟩
  | queryNotices => exact ⟨_, rfl, request_unchanged fun _ _ => rfl⟩
  | unknownKind p tag kind body =>
    refine ⟨_, rfl, .same (congrArg ledgers ?_)⟩
    have ht := takeFrame_meters p kind tag body s
    split
    · rfl
    · split
      · next e => rw [e] at ht; exact ht
      · next e =>
        rw [e] at ht
        rw [reply, enqueue_meters, ← ht]
        split <;> rfl
  | discardedByte => exact ⟨_, rfl, whenPowered_unchanged (receive_meters ..)⟩
  | shortLength => exact ⟨_, rfl, whenPowered_unchanged (receive_meters ..)⟩
  | frameCheck => exact ⟨_, rfl, whenPowered_unchanged (receive_meters ..)⟩
  | overrun => exact ⟨_, rfl, whenPowered_unchanged (receive_meters ..)⟩
  | startMarkerReceived => exact ⟨_, rfl, whenPowered_unchanged (receive_meters ..)⟩
  | frameByteReceived => exact ⟨_, rfl, whenPowered_unchanged (receive_meters ..)⟩
  | silence =>
    refine ⟨_, rfl, whenPowered_unchanged ?_⟩
    split <;> simp
  | lineBreak =>
    refine ⟨_, rfl, whenPowered_unchanged ?_⟩
    split <;> simp [settleLine, unqueueNotices]
  | breakEnd => exact ⟨_, rfl, whenPowered_unchanged (modLineIf_meters ..)⟩
  | frameTransmissionStart => exact ⟨_, rfl, whenPowered_unchanged (modLineIf_meters ..)⟩
  | fullyTransmitted =>
    refine ⟨_, rfl, whenPowered_unchanged ?_⟩
    split <;> simp [noticeSent_meters]
  | queuingOpportunity =>
    refine ⟨_, rfl, whenPowered_unchanged ?_⟩
    split <;> simp [queueNotice_meters]
  | selection =>
    refine ⟨_, rfl, whenPowered_after (.same ?_)⟩
    split <;> simp [select_ledgers]
  | supervisionExpiry m =>
    refine ⟨_, rfl, whenPowered_after (.same ?_)⟩
    split
    · next expiry h =>
      have hr : (reachTime expiry s).meter m = s.meter m := meter_congr (reachTime_meters s expiry) m
      rw [becomeSilent_ledgers (by rw [hr]; exact enrolled_of_supervised hs h), reachTime_meters]
    · rfl
  | holdOffExpiry m =>
    refine ⟨_, rfl, whenPowered_after (.same ?_)⟩
    split
    · rw [modMeter_ledgers_same rfl, reachTime_meters]
    · rfl
  | grantExpiry k =>
    refine ⟨_, rfl, whenPowered_after (.same ?_)⟩
    split
    · rw [expireSlot_ledgers, reachTime_meters]
    · rfl
  | powerOn straps => exact ⟨_, rfl, .same (powerOn_ledgers straps s)⟩
  | powerOnRetentionLost => exact ⟨_, rfl, .lost rfl⟩
  | powerLoss => exact ⟨_, rfl, whenPowered_after (.same rfl)⟩

theorem step_after {s t : State} (hs : RecordLaw s) (h : step s = .next t) : MetersAfter s.meters t.meters := by
  unfold step at h
  split at h
  · cases h
    unfold tick
    split <;> exact .same rfl
  · next c rest _ =>
    obtain ⟨u, hu, ha⟩ := exec_after c (s := { s with pending := rest }) hs
    cases hu.symm.trans h
    exact ha

/-! ## The two laws -/

theorem seatedAt_iff (b : BranchId) (v : Vector Meter 192) (m : MeterId) :
    seatedAt b (v.get m) = true ↔ (ledgers v m).branch = b ∧ (ledgers v m).standing = .enrolled := by
  simp [seatedAt, ledgers, ledgerOf, standingOf_eq_enrolled_iff, and_assoc]

/-- No meter joins a branch where every ledger is kept. -/
theorem LedgersKept.countP_le {v w : Vector Meter 192} (h : LedgersKept v w) (b : BranchId) :
    w.toList.countP (seatedAt b) ≤ v.toList.countP (seatedAt b) := by
  rw [toList_eq_map_get v, toList_eq_map_get w, List.countP_map, List.countP_map]
  refine List.countP_mono_left fun m _ hm => ?_
  obtain ⟨hb, he⟩ := (seatedAt_iff b w m).mp hm
  refine (seatedAt_iff b v m).mpr ⟨(h m).branch ▸ hb, ?_⟩
  obtain hs | ⟨hs, -⟩ := (h m).standing
  · exact hs ▸ he
  · exact hs

/-- An enrolment adds at most one meter to the branch it names, and none to another. -/
theorem enrolled_countP_le (v : Vector Meter 192) (m : MeterId) (b b' : BranchId) (ar : Nat) (labels : Word32)
    (supervision : Option Word32) :
    (modifyAt v m (fun _ => Meter.enrolled b' ar labels supervision)).toList.countP (seatedAt b) ≤
      v.toList.countP (seatedAt b) + if b' = b then 1 else 0 := by
  have hs : seatedAt b (Meter.enrolled b' ar labels supervision) = decide (b' = b) := by
    change (b' == b && true && true) = _
    rw [Bool.and_true, Bool.and_true, beq_eq_decide]
  rw [modifyAt_toList, List.countP_set (by simp), hs]
  simp only [decide_eq_true_eq]
  omega

theorem reset_countP (b : BranchId) : State.reset.meters.toList.countP (seatedAt b) = 0 := by
  simp [State.reset, Meter.lost, seatedAt]

/-- A branch at which no more than 8 are enrolled stays so (R26). -/
theorem MetersAfter.countP_le {v w : Vector Meter 192} (h : MetersAfter v w)
    (hv : ∀ b, v.toList.countP (seatedAt b) ≤ 8) (b : BranchId) : w.toList.countP (seatedAt b) ≤ 8 := by
  cases h with
  | kept h => exact (h.countP_le b).trans (hv b)
  | enrolled m b' ar labels supervision room h =>
    have hle := enrolled_countP_le v m b b' ar labels supervision
    rw [← h] at hle
    have hb := hv b
    split at hle
    · next e =>
      subst e
      omega
    · omega
  | lost h =>
    rw [h, reset_countP]
    exact Nat.zero_le 8

theorem enrolled_balanced (b : BranchId) (ar : Nat) (labels : Word32) (supervision : Option Word32) :
    (ledgerOf (Meter.enrolled b ar labels supervision)).Balanced := by
  simp [Ledger.Balanced, ledgerOf, Meter.enrolled]

theorem reset_standing (m : MeterId) : (ledgers State.reset.meters m).standing = .vacant := by
  simp [ledgers, ledgerOf, State.reset, get_eq_getElem, Meter.lost, standingOf]

theorem reset_mirrorLaw : MirrorLaw State.reset :=
  (mirrorLaw_iff _).mpr fun m hm => absurd (reset_standing m) hm

/-- Balanced ledgers stay balanced (R18, R41). -/
theorem MetersAfter.mirrorLaw {s t : State} (h : MetersAfter s.meters t.meters) (hs : MirrorLaw s) : MirrorLaw t := by
  rw [mirrorLaw_iff] at hs ⊢
  intro m hm
  cases h with
  | kept h =>
    refine (h m).balanced (hs m fun hv => ?_)
    obtain he | ⟨he, -⟩ := (h m).standing
    · exact hm (he.trans hv)
    · rw [hv] at he
      cases he
  | enrolled n b ar labels supervision _ h =>
    rw [h, ledgers_modifyAt] at hm ⊢
    by_cases hmn : m = n
    · subst hmn
      rw [Function.update_self]
      exact enrolled_balanced b ar labels supervision
    · rw [Function.update_of_ne hmn] at hm ⊢
      exact hs m hm
  | lost h =>
    rw [h] at hm
    exact absurd (reset_standing m) hm

/-- Settles O51: only an enrolment adds a meter to a branch, and it needs room there. -/
theorem branchesHoldEightMeters : Obligations.BranchesHoldEightMeters := by
  unfold Obligations.BranchesHoldEightMeters
  refine ⟨fun b => ?_, fun s t hs hcap hstep b => (step_after hs hstep).countP_le hcap b⟩
  exact (reset_countP b).le.trans (Nat.zero_le 8)

/-- Settles O52: each change of CT or of the mirrors posts one credit to both. -/
theorem mirrorsMatchTheControlTotal : Obligations.MirrorsMatchTheControlTotal := by
  unfold Obligations.MirrorsMatchTheControlTotal
  refine ⟨⟨reset_mirrorLaw, fun s t hs hm hstep => (step_after hs hstep).mirrorLaw hm⟩, fun s hs m hm => ?_⟩
  obtain ⟨hsum, -⟩ := hs m hm
  omega

end Sys2Proof.Proofs.MeterTable

/-!
The Branch Table's two laws: A and pace stay in range (R50, R52), and the pending orders hold exactly the meters with a
pending request (R58). Both are laws of what one change does to the branch records and to the requests of the meters, so
each operation is looked at once for both.
-/

namespace Sys2Proof.Proofs.BranchTable

open Sys2Proof.Machine Sys2Proof.Proofs.MeterTable

/-! ## What a change may do to one record -/

/-- A is within its period allowance and the pace within 0 to 15 (R50, R52). -/
def InRange (b : Branch) : Prop :=
  (∀ a, b.allowance = some a → a.remaining ≤ a.period) ∧ b.pace ≤ Config.fullPace

theorem branchLaw_iff (s : State) : BranchLaw s ↔ ∀ b, InRange (s.branch b) :=
  Iff.rfl

/-- A branch keeps its pending order, and A and pace stay in range. -/
structure SameOrder (b b' : Branch) : Prop where
  order : b'.order = b.order
  range : InRange b → InRange b'

theorem SameOrder.refl (b : Branch) : SameOrder b b :=
  ⟨rfl, id⟩

/-- A change of the allowance that leaves A within it. -/
theorem SameOrder.of_allowance (b : Branch) {f : Allowance → Allowance}
    (h : ∀ a, a.remaining ≤ a.period → (f a).remaining ≤ (f a).period) :
    SameOrder b { b with allowance := b.allowance.map f } := by
  refine ⟨rfl, fun ⟨hA, hpace⟩ => ⟨fun a ha => ?_, hpace⟩⟩
  obtain ⟨a', ha', rfl⟩ := Option.map_eq_some_iff.mp ha
  exact h a' (hA a' ha')

/-- A change of the pace within 0 to 15. -/
theorem SameOrder.of_pace (b : Branch) {n : Nat} (h : b.pace ≤ Config.fullPace → n ≤ Config.fullPace) :
    SameOrder b { b with pace := n } :=
  ⟨rfl, fun ⟨hA, hpace⟩ => ⟨hA, h hpace⟩⟩

/-- A new period allowance holds A at most to itself (R48). -/
theorem SameOrder.of_configure (b : Branch) (k : BranchConfig) : SameOrder b (b.configure k) := by
  refine ⟨rfl, fun ⟨_, hpace⟩ => ⟨fun a ha => ?_, hpace⟩⟩
  simp only [Branch.configure, allowanceAfter] at ha
  split at ha
  · cases ha
  · split at ha
    · cases ha; exact le_rfl
    · cases ha; exact min_le_right _ _

/-- A meter neither gains nor loses a pending request, and one that has a request stays as R58 asks: in its branch,
ACTIVE and with no grant. -/
structure Undisturbed (r r' : Meter) : Prop where
  pending : r'.pendingReq.isSome = r.pendingReq.isSome
  held : r.pendingReq.isSome = true →
    r'.branch = r.branch ∧ (r.state = .active → r'.state = .active) ∧ (r.grant = none → r'.grant = none)

theorem Undisturbed.of_fields {r r' : Meter} (hp : r'.pendingReq = r.pendingReq) (hb : r'.branch = r.branch)
    (hs : r.state = .active → r'.state = .active) (hg : r.grant = none → r'.grant = none) : Undisturbed r r' :=
  ⟨by rw [hp], fun _ => ⟨hb, hs, hg⟩⟩

theorem Undisturbed.refl (r : Meter) : Undisturbed r r :=
  .of_fields rfl rfl id id

/-- R58 asks nothing of a meter without a request. -/
theorem Undisturbed.of_none {r r' : Meter} (h : r.pendingReq = none) (h' : r'.pendingReq = none) : Undisturbed r r' :=
  ⟨by rw [h, h'], fun hp => by rw [h] at hp; cases hp⟩

/-! ## What a change may do to the state -/

/-- Both laws are kept. -/
structure LawsKept (s t : State) : Prop where
  ranges : BranchLaw s → BranchLaw t
  orders : OrderLaw s → OrderLaw t

/-- Both laws are kept and no meter comes to a request. -/
structure Orderly (s t : State) : Prop extends LawsKept s t where
  resting : OrderLaw s → ∀ m, (s.meter m).pendingReq = none → (t.meter m).pendingReq = none

theorem LawsKept.trans {s t u : State} (h : LawsKept s t) (h' : LawsKept t u) : LawsKept s u :=
  ⟨h'.ranges ∘ h.ranges, h'.orders ∘ h.orders⟩

theorem Orderly.refl (s : State) : Orderly s s :=
  ⟨⟨id, id⟩, fun _ _ => id⟩

theorem Orderly.trans {s t u : State} (h : Orderly s t) (h' : Orderly t u) : Orderly s u :=
  ⟨h.toLawsKept.trans h'.toLawsKept, fun hs m => h'.resting (h.orders hs) m ∘ h.resting hs m⟩

theorem orderLaw_of_undisturbed {s t : State} (hs : OrderLaw s) (hm : ∀ m, Undisturbed (s.meter m) (t.meter m))
    (hb : ∀ b, SameOrder (s.branch b) (t.branch b)) : OrderLaw t := by
  obtain ⟨hfit, hcount⟩ := hs
  refine ⟨fun m hp => ?_, fun b m => ?_⟩
  · rw [(hm m).pending] at hp
    obtain ⟨-, hstate, hgrant⟩ := (hm m).held hp
    obtain ⟨ha, hn⟩ := hfit m hp
    exact ⟨hstate ha, hgrant hn⟩
  · rw [(hb b).order, hcount, (hm m).pending]
    by_cases hp : (s.meter m).pendingReq.isSome = true
    · obtain ⟨hbranch, -, -⟩ := (hm m).held hp
      rw [hbranch]
    · simp [hp]

/-- An orderly change followed by one that disturbs no request and no order. -/
theorem Orderly.then_records {s t u : State} (h : Orderly s t)
    (hm : OrderLaw s → ∀ m, Undisturbed (t.meter m) (u.meter m))
    (hb : ∀ b, SameOrder (t.branch b) (u.branch b)) : Orderly s u where
  ranges hs := (branchLaw_iff u).mpr fun b => (hb b).range ((branchLaw_iff t).mp (h.ranges hs) b)
  orders hs := orderLaw_of_undisturbed (h.orders hs) (hm hs) hb
  resting hs m hn := by
    have hp := (hm hs m).pending
    rw [h.resting hs m hn] at hp
    simpa using hp

theorem Orderly.of_records {s t : State} (hm : OrderLaw s → ∀ m, Undisturbed (s.meter m) (t.meter m))
    (hb : ∀ b, SameOrder (s.branch b) (t.branch b)) : Orderly s t :=
  (Orderly.refl s).then_records hm hb

/-- A change of one meter's record. -/
theorem Orderly.then_meter {s t u : State} {m : MeterId} {r : Meter} (h : Orderly s t)
    (hu : ∀ n, u.meter n = if n = m then r else t.meter n) (hb : u.branches = t.branches)
    (hr : OrderLaw s → Undisturbed (t.meter m) r) : Orderly s u := by
  refine h.then_records (fun hs n => ?_) (fun b => branch_congr hb b ▸ .refl _)
  rw [hu]
  split
  · next e => subst e; exact hr hs
  · exact .refl _

/-- The meter and branch records stay as they are. -/
theorem Orderly.frame {s t : State} (hm : t.meters = s.meters) (hb : t.branches = s.branches) : Orderly s t :=
  .of_records (fun _ m => meter_congr hm m ▸ .refl _) (fun b => branch_congr hb b ▸ .refl _)

/-- Every request is dropped and every pending order emptied. -/
theorem Orderly.of_cleared {s t : State} (hm : ∀ m, (t.meter m).pendingReq = none) (ho : ∀ b, (t.branch b).order = [])
    (hb : BranchLaw s → BranchLaw t) : Orderly s t where
  ranges := hb
  orders _ := ⟨fun m hp => by simp [hm] at hp, fun b m => by simp [hm, ho]⟩
  resting _ m _ := hm m

theorem noRequest_of_state {s : State} {m : MeterId} (hs : OrderLaw s) (h : (s.meter m).state ≠ .active) :
    (s.meter m).pendingReq = none := by
  by_contra hp
  exact h (hs.1 m (Option.isSome_iff_ne_none.mpr hp)).1

theorem noRequest_of_grant {s : State} {m : MeterId} {g : Grant} (hs : OrderLaw s) (h : (s.meter m).grant = some g) :
    (s.meter m).pendingReq = none := by
  by_contra hp
  have hn := (hs.1 m (Option.isSome_iff_ne_none.mpr hp)).2
  rw [h] at hn
  cases hn

/-! ## Updates of one record -/

theorem modMeter_orderly {m : MeterId} {f : Meter → Meter} {s : State}
    (h : OrderLaw s → Undisturbed (s.meter m) (f (s.meter m))) : Orderly s (modMeter m f s) :=
  (Orderly.refl s).then_meter (fun n => modMeter_meter s m n f) rfl h

theorem modBranch_orderly {b : BranchId} {f : Branch → Branch} {s : State}
    (h : SameOrder (s.branch b) (f (s.branch b))) : Orderly s (modBranch b f s) := by
  refine .of_records (fun _ m => .refl _) (fun c => ?_)
  rw [modBranch_branch]
  split
  · next e => subst e; exact h
  · exact .refl _

theorem setCondition_orderly (s : State) (c : NoticeClass) : Orderly s (setCondition c s) :=
  .frame rfl rfl

theorem enqueue_orderly (s : State) (p : Port) (f : OutFrame) : Orderly s (enqueue p f s) :=
  .frame (by simp) (by simp)

/-! ## Dropping requests -/

section Dropping

variable (s : State)

/-- The other meters keep their places in the orders. -/
theorem removeRequest_count_ne {m n : MeterId} (b : BranchId) (h : n ≠ m) :
    ((removeRequest m s).branch b).order.count n = (s.branch b).order.count n := by
  rw [removeRequest_branch]
  split
  · exact List.count_filter (by simp [h])
  · rfl

/-- A request and its meter's place in its branch's order go together (R57). -/
theorem removeRequest_orderly (m : MeterId) : Orderly s (removeRequest m s) where
  ranges hs b := by
    rw [removeRequest_branch]
    split <;> exact hs b
  orders := by
    rintro ⟨hfit, hcount⟩
    refine ⟨fun n hp => ?_, fun b n => ?_⟩
    · rw [removeRequest_meter] at hp ⊢
      split at hp
      · cases hp
      · next h => rw [if_neg h]; exact hfit n hp
    · by_cases hn : n = m
      · subst hn
        rw [removeRequest_meter, if_pos rfl]
        by_cases hb : b = (s.meter n).branch
        · simp [hb, removeRequest_branch, List.count_eq_zero]
        · simp [hb, Ne.symm hb, removeRequest_branch, hcount]
      · rw [removeRequest_count_ne s b hn, hcount, removeRequest_meter, if_neg hn]
  resting _ n hn := by
    rw [removeRequest_meter]
    split
    · rfl
    · exact hn

theorem dropRequest_orderly (m : MeterId) : Orderly s (dropRequest m s) := by
  unfold dropRequest
  split
  · exact removeRequest_orderly s m
  · exact .refl s

/-- A meter that loses its request may go over into any state (R23). -/
theorem dropped_orderly (m : MeterId) {f : Meter → Meter} (hf : ∀ r, (f r).pendingReq = r.pendingReq) :
    Orderly s (modMeter m f (dropRequest m s)) := by
  have hn : ((dropRequest m s).meter m).pendingReq = none := by simp [dropRequest_meter]
  exact (dropRequest_orderly s m).trans (modMeter_orderly fun _ => .of_none hn ((hf _).trans hn))

theorem enterSuspended_orderly (m : MeterId) : Orderly s (enterSuspended m s) :=
  dropped_orderly s m fun _ => rfl

theorem beginRetirement_orderly (m : MeterId) : Orderly s (beginRetirement m s) :=
  dropped_orderly s m fun _ => rfl

theorem becomeSilent_orderly (m : MeterId) : Orderly s (becomeSilent m s) := by
  have hjoin (t : State) : Orderly t (joinSilentList m t) := by
    unfold joinSilentList
    split
    · exact .refl t
    · exact .frame rfl rfl
  refine Orderly.trans (.trans ?_ (hjoin _)) (setCondition_orderly _ .silent)
  exact dropped_orderly s m fun _ => rfl

theorem suspendByFault_orderly (m : MeterId) : Orderly s (suspendByFault m s) := by
  unfold suspendByFault
  split
  · exact enterSuspended_orderly s m
  · exact .refl s

theorem enterLockdown_orderly : Orderly s (enterLockdown s) :=
  .of_cleared (fun m => by rw [enterLockdown_meter]) (fun b => by rw [enterLockdown_branch])
    (fun hs b => by rw [enterLockdown_branch]; exact hs b)

theorem lockdownIf_orderly {t : State} {c : Prop} [Decidable c] (h : Orderly s t) :
    Orderly s (if c then enterLockdown t else t) := by
  split
  · exact h.trans (enterLockdown_orderly t)
  · exact h

theorem raiseFault_orderly (f : FaultRecord) : Orderly s (raiseFault f s) := by
  have hlog : Orderly s (setCondition .fault (s.setMonitor { s.monitor with log := s.monitor.log.raised f })) :=
    .frame (by simp) (by simp)
  refine lockdownIf_orderly s ?_
  split
  · split
    · exact hlog
    · exact hlog.trans (suspendByFault_orderly _ _)
  · exact hlog

theorem handFault_orderly (f : FaultRecord) : Orderly s (handFault f s) := by
  unfold handFault
  split
  · exact .frame rfl rfl
  · exact raiseFault_orderly s f

/-- A pace of 0 is in range. -/
theorem restartTakesEffect_orderly : Orderly s (restartTakesEffect s) :=
  .of_cleared (fun m => by rw [restartTakesEffect_meter]) (fun b => by rw [restartTakesEffect_branch])
    (fun hs b => by rw [restartTakesEffect_branch]; exact ⟨(hs b).1, Nat.zero_le _⟩)

theorem clearPaceAndHoldOff_orderly : Orderly s (clearPaceAndHoldOff s) := by
  refine .of_records (fun _ m => ?_) (fun b => ?_)
  · rw [clearPaceAndHoldOff_meter]
    exact .of_fields rfl rfl id id
  · rw [clearPaceAndHoldOff_branch]
    exact .of_pace _ fun _ => Nat.zero_le _

theorem settleRestart_orderly : Orderly s (settleRestart s) := by
  unfold settleRestart
  split
  · exact restartTakesEffect_orderly s
  · exact .refl s

theorem afterSlotFreed_orderly (g : Grant) : Orderly s (afterSlotFreed g s) := by
  unfold afterSlotFreed
  split
  · exact settleRestart_orderly s
  · exact .refl s

end Dropping

/-! ## Grants and readings -/

section Grants

variable (s : State) (m : MeterId)

theorem leaveDraining_orderly : Orderly s (leaveDraining m s) :=
  modMeter_orderly fun _ => .of_fields rfl rfl (fun h => by simp [h]) id

theorem freeGrantSlot_orderly (g : Grant) : Orderly s (freeGrantSlot g s) :=
  .frame (by simp) (by simp)

theorem clearGrant_orderly (g : Grant) : Orderly s (clearGrant m g s) :=
  (modMeter_orderly fun _ => .of_fields rfl rfl id fun _ => rfl).trans (freeGrantSlot_orderly _ g)

theorem writeOutcome_orderly (g : Grant) (result : GrantResult) (claim : Claim) :
    Orderly s (writeOutcome m g result claim s) :=
  modMeter_orderly fun _ => .of_fields rfl rfl id id

theorem entryResolved_orderly (source : GrantSource) (result : GrantResult) :
    Orderly s (entryResolved source result s) :=
  .frame (by simp) (by simp)

theorem creditMeter_orderly (x : Nat) : Orderly s (creditMeter m x s) :=
  modMeter_orderly fun _ => .of_fields rfl rfl id id

theorem rejectReading_orderly (rd : Report) : Orderly s (rejectReading m rd s) :=
  modMeter_orderly fun _ => .of_fields rfl rfl id id

theorem startSupervision_orderly : Orderly s (startSupervision m s) :=
  modMeter_orderly fun _ => .of_fields rfl rfl id id

/-- A meter that holds a grant has no request (R58). -/
theorem makeDoubtful_orderly {g : Grant} (h : (s.meter m).grant = some g) : Orderly s (makeDoubtful m g s) :=
  (modMeter_orderly fun hs => .of_none (noRequest_of_grant hs h) (noRequest_of_grant hs h)).trans
    (freeGrantSlot_orderly _ g)

/-- An accepted reading makes a meter ACTIVE if it changes its state at all (R38). -/
theorem acceptReading_orderly (rd : Report) : Orderly s (acceptReading m rd s) :=
  (Orderly.refl s).then_meter (fun n => acceptReading_meter s m n rd) (acceptReading_branches s m rd)
    fun _ => .of_fields rfl rfl (fun h => by simp [Meter.accepted, h]) id

/-- A pace that wears down stays in range (R98). -/
theorem startHoldOff_orderly : Orderly s (startHoldOff m s) :=
  (modMeter_orderly fun _ => .of_fields rfl rfl id id).trans
    (modBranch_orderly (.of_pace _ fun h => (Nat.sub_le _ _).trans h))

/-- A restored A is held at the period allowance (R49). -/
theorem restoreAllowance_orderly (b : BranchId) (g : Grant) : Orderly s (restoreAllowance b g s) := by
  unfold restoreAllowance
  split
  · exact modBranch_orderly (.of_allowance _ fun _ _ => min_le_right _ _)
  · exact .refl s

theorem acceptOptional_orderly (rd : Option Report) : Orderly s (acceptOptional m rd s) := by
  cases rd with
  | some rd => exact acceptReading_orderly s m rd
  | none => exact .refl s

theorem confirmGrant_orderly (g : Grant) (claim : Claim) (rd : Report) : Orderly s (confirmGrant m g claim rd s) := by
  have hpaid : Orderly s (creditMeter m g.amount (poolConfirm g.amount s)) :=
    (Orderly.frame (by simp) (by simp)).trans (creditMeter_orderly _ m g.amount)
  have hbanked (t : State) : Orderly t (bankApplied (s.meter m).branch g.amount t) := .frame (by simp) (by simp)
  exact hpaid.trans <| (acceptReading_orderly _ m rd).trans <| (clearGrant_orderly _ m g).trans <|
    (writeOutcome_orderly _ m g .applied claim).trans <| (startHoldOff_orderly _ m).trans <| (hbanked _).trans <|
    (entryResolved_orderly _ g.source .applied).trans <| (leaveDraining_orderly _ m).trans (afterSlotFreed_orderly _ g)

theorem releaseGrant_orderly (g : Grant) (claim : Claim) (rd : Option Report) :
    Orderly s (releaseGrant m g claim rd s) := by
  have hreturned : Orderly s (restoreAllowance (s.meter m).branch g (poolRelease g.amount s)) :=
    (Orderly.frame (by simp) (by simp)).trans (restoreAllowance_orderly _ _ g)
  have hbanked (t : State) : Orderly t (bankReversed (s.meter m).branch t) := .frame (by simp) (by simp)
  exact hreturned.trans <| (acceptOptional_orderly _ m rd).trans <| (clearGrant_orderly _ m g).trans <|
    (writeOutcome_orderly _ m g .reversed claim).trans <| (hbanked _).trans <|
    (entryResolved_orderly _ g.source .reversed).trans <| (leaveDraining_orderly _ m).trans (afterSlotFreed_orderly _ g)

theorem releaseByAudit_orderly : Orderly s (releaseByAudit m s) := by
  unfold releaseByAudit
  split
  · exact releaseGrant_orderly ..
  · exact .refl s

theorem adjustMeter_orderly (delta : Int) (total : Nat) : Orderly s (adjustMeter m delta total s) := by
  unfold adjustMeter
  split
  · exact .refl s
  · exact (Orderly.frame (by simp) (by simp)).trans (modMeter_orderly fun _ => .of_fields rfl rfl id id)

theorem reactivate_orderly : Orderly s (reactivate m s) :=
  (modMeter_orderly fun _ => .of_fields rfl rfl (fun _ => rfl) id).trans (startSupervision_orderly _ m)

theorem rebaseline_orderly (x : Reading) (delta : Int) : Orderly s (rebaseline m x delta s) := by
  have hused (b : BranchId) (used : Nat) (t : State) : Orderly t (recordUsage b used t) := .frame (by simp) (by simp)
  exact (releaseByAudit_orderly s m).trans <| (adjustMeter_orderly _ m delta (x.ar + x.dr)).trans <|
    (hused _ _ _).trans <| Orderly.trans (modMeter_orderly fun _ => .of_fields rfl rfl id id) (reactivate_orderly _ m)

theorem expireSlot_orderly (k : SlotId) (slot : Slot) : Orderly s (expireSlot k slot s) := by
  have hdoubtful : Orderly s
      (modMeter slot.meter (fun r => { r with grant := r.grant.map fun g => { g with phase := .doubtful } }) s) :=
    modMeter_orderly fun _ => .of_fields rfl rfl id fun h => by simp [h]
  have hfreed (t : State) : Orderly t (modLineIf .operations (withdrawOffer slot.serial) (freeSlot k t)) :=
    .frame (by simp) (by simp)
  exact hdoubtful.trans <| (hfreed _).trans <| (leaveDraining_orderly _ _).trans (settleRestart_orderly _)

theorem inconsistentReading_orderly (kind : FaultKind) (rd : Report) :
    Orderly s (inconsistentReading kind m rd s).state :=
  (rejectReading_orderly s m rd).trans (handFault_orderly _ _)

/-- A status report is judged by the meter's grant (R36, R103, R104). -/
theorem statusReport_orderly (rd : Report) : Orderly s (statusReport m rd s).state := by
  unfold statusReport
  split
  · unfold judgeWithoutGrant
    split_ifs
    · exact inconsistentReading_orderly ..
    · exact acceptReading_orderly ..
    · exact inconsistentReading_orderly ..
  · split_ifs
    · unfold statusWhileOffered
      split
      · exact inconsistentReading_orderly ..
      · exact confirmGrant_orderly ..
      · exact acceptReading_orderly ..
      · exact inconsistentReading_orderly ..
    · unfold statusWhileDoubtful
      split
      · exact inconsistentReading_orderly ..
      · exact confirmGrant_orderly ..
      · exact releaseGrant_orderly ..
      · exact inconsistentReading_orderly ..

theorem compareClaim_orderly (g : Grant) (claim : Claim) (result : GrantResult) (rd : Report) (ct : Nat) :
    Orderly s (compareClaim m g claim result rd ct s).state := by
  unfold compareClaim
  split
  · exact handFault_orderly ..
  · exact .refl s

theorem outcomeInconsistent_orderly (kind : FaultKind) {g : Grant} (rd : Report) (h : (s.meter m).grant = some g) :
    Orderly s (outcomeInconsistent kind m g rd s).state :=
  (makeDoubtful_orderly s m h).trans <| (rejectReading_orderly _ m rd).trans <| (leaveDraining_orderly _ m).trans <|
    (afterSlotFreed_orderly _ g).trans (handFault_orderly _ _)

theorem outcomeNamed_orderly {g : Grant} (claim : Claim) (rd : Report) (h : (s.meter m).grant = some g) :
    Orderly s (outcomeNamed m g claim rd s).state := by
  unfold outcomeNamed
  dsimp only
  split
  · exact outcomeInconsistent_orderly s m _ rd h
  · exact (releaseGrant_orderly s m g claim _).trans (compareClaim_orderly ..)
  · exact (confirmGrant_orderly s m g claim rd).trans (compareClaim_orderly ..)
  · exact outcomeInconsistent_orderly s m _ rd h

theorem grant_of_namesGrant {r : Meter} {serial : Word16} {g : Grant} (h : namesGrant r serial = some g) :
    r.grant = some g :=
  (Option.filter_eq_some_iff.mp h).1

theorem outcomeInService_orderly (serial : Word16) (claim : Claim) (rd : Report) :
    Orderly s (outcomeInService m serial claim rd s).state := by
  unfold outcomeInService
  dsimp only [answerOk]
  split
  · next h => exact outcomeNamed_orderly s m claim rd (grant_of_namesGrant h)
  · exact (statusReport_orderly s m rd).trans (handFault_orderly _ _)

end Grants

/-! ## Retirement

A meter in AWAITING-READING has no request (R58), and none of the operations that settle it brings one, so it may go
over into RETIRED. -/

section Retirement

variable {s : State} {m : MeterId} (hrest : OrderLaw s → (s.meter m).pendingReq = none)
include hrest

theorem completeRetirement_orderly {t : State} (h : Orderly s t) (delta : Int) :
    Orderly s (completeRetirement m delta t) := by
  refine h.then_meter (m := m) (r := { t.meter m with state := .retired }) (fun n => ?_) ?_ fun hs => ?_
  · simp [completeRetirement, reportRetirement, State.meter, modifyAt_get]
  · simp [completeRetirement, reportRetirement]
  · exact .of_none (h.resting hs m (hrest hs)) (h.resting hs m (hrest hs))

theorem finalReading_orderly (claim : Claim) (rd : Report) : Orderly s (finalReading m claim rd s).state := by
  unfold finalReading
  split
  · unfold finalWithoutGrant
    split_ifs
    · exact inconsistentReading_orderly ..
    · exact completeRetirement_orderly hrest (acceptReading_orderly s m rd) 0
    · exact inconsistentReading_orderly ..
  · unfold finalWithGrant
    split
    · exact inconsistentReading_orderly ..
    · exact completeRetirement_orderly hrest (releaseGrant_orderly ..) 0
    · exact completeRetirement_orderly hrest (confirmGrant_orderly ..) 0
    · exact inconsistentReading_orderly ..

theorem adjustOn_orderly (rd : Report) : Orderly s (adjustOn m rd s).state := by
  unfold adjustOn
  dsimp only
  split_ifs
  · exact .refl s
  · exact .refl s
  · exact completeRetirement_orderly hrest
      ((releaseByAudit_orderly s m).trans <| (adjustMeter_orderly _ m _ _).trans (acceptReading_orderly _ m rd)) _

theorem outcomeFinalNamed_orderly (g : Grant) (claim : Claim) (rd : Report) :
    Orderly s (outcomeFinalNamed m g claim rd s).state := by
  unfold outcomeFinalNamed
  dsimp only
  split
  · exact (finalReading_orderly hrest claim rd).trans (handFault_orderly _ _)
  · exact finalReading_orderly hrest claim rd

theorem outcomeFinalUnknown_orderly (serial : Word16) (rd : Report) :
    Orderly s (outcomeFinalUnknown m serial rd s).state :=
  (finalReading_orderly hrest .none rd).trans (handFault_orderly _ _)

end Retirement

/-! ## The selection -/

section Selection

variable (s : State)

theorem consumeAllowance_orderly (b : BranchId) (x : Nat) : Orderly s (consumeAllowance b x s) :=
  modBranch_orderly (.of_allowance _ fun _ h => (Nat.sub_le _ _).trans h)

/-- A grant goes to a meter that has no request (R81, R120). -/
theorem offerGrant_orderly {s : State} {m : MeterId} (x : Nat) (source : GrantSource)
    (h : (s.meter m).pendingReq = none) : Orderly s (offerGrant m x source s) := by
  unfold offerGrant
  split
  · exact .refl s
  · have hslot (e : Engine) : Orderly s (s.setEngine e) := .frame rfl rfl
    refine Orderly.trans ((hslot _).trans (modMeter_orderly fun _ => ?_)) (enqueue_orderly _ .operations _)
    exact .of_none h h

theorem removeRequest_pendingReq (m : MeterId) : ((removeRequest m s).meter m).pendingReq = none := by
  rw [removeRequest_meter, if_pos rfl]

theorem reserveForRequest_orderly (m : MeterId) (x : Nat) : Orderly s (reserveForRequest m x s) := by
  unfold reserveForRequest
  refine Orderly.trans (.frame (by simp) (by simp)) <| (consumeAllowance_orderly (poolReserve x s) _ x).trans <|
    (removeRequest_orderly _ m).trans <| offerGrant_orderly _ _ (removeRequest_pendingReq _ m)

/-- A refusal sets the pace to 15 (R83). -/
theorem refuseShort_orderly (m : MeterId) (cause : Cause) : Orderly s (refuseShort m cause s) := by
  have hpace (b : BranchId) (t : State) : Orderly t (modBranch b (fun k => { k with pace := Config.fullPace }) t) :=
    modBranch_orderly (.of_pace _ fun _ => le_rfl)
  have hbanked (b : BranchId) (t : State) : Orderly t (bankShort b t) := .frame (by simp) (by simp)
  exact (removeRequest_orderly s m).trans <| (hpace _ _).trans <| (hbanked _ _).trans (enqueue_orderly _ .operations _)

theorem serveRequest_orderly (m : MeterId) : Orderly s (serveRequest m s) := by
  unfold serveRequest
  split
  · exact .refl s
  · dsimp only
    split
    · exact refuseShort_orderly ..
    · exact reserveForRequest_orderly ..

theorem supersede_orderly (m : MeterId) : Orderly s (supersede m s) := by
  unfold supersede
  split
  · exact (removeRequest_orderly s m).trans (enqueue_orderly _ .operations _)
  · exact .refl s

theorem supersede_pendingReq (m : MeterId) : ((supersede m s).meter m).pendingReq = none := by
  unfold supersede
  split
  · rw [meter_congr (enqueue_meters ..), removeRequest_pendingReq]
  · next h => simpa using h

theorem reserveForEntry_orderly {s : State} {m : MeterId} (n x : Nat) (h : (s.meter m).pendingReq = none) :
    Orderly s (reserveForEntry n m x s) := by
  have hreserved : Orderly s (poolReserve x s) := .frame (by simp) (by simp)
  have hentry (f : Entry → Entry) (t : State) : Orderly t (modEntry n f t) := .frame rfl rfl
  have hnone : ((poolReserve x s).meter m).pendingReq = none := by rwa [meter_congr (poolReserve_meters s x)]
  exact hreserved.trans <| (offerGrant_orderly x _ hnone).trans (hentry _ _)

theorem computeEntry_orderly {s : State} (n : Nat) {e : Entry} (h : (s.meter e.meter).pendingReq = none) :
    Orderly s (computeEntry n e s) := by
  unfold computeEntry
  dsimp only
  split
  · unfold entryShort
    dsimp only
    split <;> exact .frame (by simp) (by simp)
  · exact reserveForEntry_orderly n _ h

theorem processEntry_orderly (n : Nat) (e : Entry) : Orderly s (processEntry n e s) := by
  unfold processEntry
  split_ifs
  · exact .frame (by simp) (by simp)
  · exact .frame (by simp) (by simp)
  · exact (supersede_orderly s e.meter).trans (computeEntry_orderly n (supersede_pendingReq s e.meter))

theorem serve_orderly (r : Requester) (ring : Ring) : Orderly s (serve r ring s) := by
  unfold serve
  split
  · split
    · exact serveRequest_orderly ..
    · exact .refl s
  · unfold serveList
    split
    · exact .refl s
    · next e _ =>
      exact (processEntry_orderly s s.list.next e).trans (.frame (by simp [advanceEntry]) (by simp [advanceEntry]))

theorem giveUpBatch_orderly : Orderly s (giveUpBatch s) := by
  unfold giveUpBatch
  dsimp only
  split <;> exact .frame (by simp) (by simp)

/-- The arbiter's own fields are no part of either law. -/
theorem servedAfter_orderly (a : Arbiter) (r : Requester) (ring : Ring) : Orderly s (serve r ring (s.setArbiter a)) :=
  have harbiter : Orderly s (s.setArbiter a) := .frame rfl rfl
  harbiter.trans (serve_orderly _ r ring)

theorem select_orderly : Orderly s (select s) := by
  unfold select
  split
  · exact servedAfter_orderly ..
  · dsimp only
    split
    · exact (giveUpBatch_orderly s).trans (servedAfter_orderly ..)
    · exact giveUpBatch_orderly s

end Selection

/-! ## Messages -/

theorem setLine_orderly (s : State) (p : Port) (l : LineIf) : Orderly s (s.setLine p l) :=
  .frame (by simp) (by simp)

theorem modLineIf_orderly (s : State) (p : Port) (f : LineIf → LineIf) : Orderly s (modLineIf p f s) :=
  setLine_orderly s p _

/-- The arrival and the taking of a frame change its port's line alone. -/
theorem takeFrame_line (p : Port) (kind tag : Byte) (body : List Byte) (s : State) :
    ∃ l, stateOf (takeFrame p kind tag body s) = s.setLine p l := by
  have hsame : ∃ l, stateOf (.waits s) = s.setLine p l := ⟨s.line p, (setLine_same s p).symm⟩
  unfold takeFrame
  dsimp only
  split
  · exact hsame
  · split
    · split
      · exact ⟨_, rfl⟩
      · exact hsame
    · split
      · split
        · exact ⟨_, rfl⟩
        · exact ⟨_, rfl⟩
      · exact hsame

theorem takeFrame_orderly (p : Port) (kind tag : Byte) (body : List Byte) (s : State) :
    Orderly s (stateOf (takeFrame p kind tag body s)) := by
  obtain ⟨l, hl⟩ := takeFrame_line p kind tag body s
  exact hl ▸ setLine_orderly s p l

section Requests

variable {α : Type} {owner : α → State → Answer} {p : Port} {k : Kind} {tag : Byte} {b : Body α} {enc : α → List Byte}
  {s : State}

/-- A message keeps the laws that every answer of its owner keeps. -/
theorem request_laws (h : ∀ f t, LawsKept t (owner f t).state) : LawsKept s (request p k tag b enc owner s) := by
  have ht := takeFrame_orderly p k.code tag (bodyBytes enc b) s
  unfold request
  split
  · next e => rw [e] at ht; exact ht.toLawsKept
  · next o t e =>
    rw [e] at ht
    refine ht.toLawsKept.trans (.trans ?_ (enqueue_orderly _ p _).toLawsKept)
    obtain ha | ⟨f, ha⟩ := answerTo_cases p k b owner o t
    · rw [ha]
      exact (Orderly.refl t).toLawsKept
    · rw [ha]
      exact h f t

theorem request_orderly (h : ∀ f t, Orderly t (owner f t).state) : LawsKept s (request p k tag b enc owner s) :=
  request_laws fun f t => (h f t).toLawsKept

/-- An owner that leaves the meter and branch records as they are. -/
theorem request_frame (hm : ∀ f t, (owner f t).state.meters = t.meters)
    (hb : ∀ f t, (owner f t).state.branches = t.branches) : LawsKept s (request p k tag b enc owner s) :=
  request_orderly fun f t => .frame (hm f t) (hb f t)

end Requests

/-! ### The owners' answers that change a meter or a branch -/

/-- An ACTIVE meter with no grant and no request joins the end of its branch's order (R54, R55). -/
theorem joinOrder_laws {s : State} {m : MeterId} {r : PendingRequest} (hactive : (s.meter m).state = .active)
    (hgrant : (s.meter m).grant = none) (hnone : (s.meter m).pendingReq = none) : LawsKept s (joinOrder m r s) := by
  have hmeter (n : MeterId) : (joinOrder m r s).meter n =
      if n = m then { s.meter m with pendingReq := some r } else s.meter n := modMeter_meter s m n _
  have hbranch (b : BranchId) : (joinOrder m r s).branch b =
      if b = (s.meter m).branch then { s.branch b with order := (s.branch b).order ++ [m] } else s.branch b := by
    rw [joinOrder, modBranch_branch]
    split
    · next e => rw [e]; rfl
    · rfl
  refine ⟨fun hs b => ?_, ?_⟩
  · rw [hbranch]
    split <;> exact hs b
  · rintro ⟨hfit, hcount⟩
    refine ⟨fun n hp => ?_, fun b n => ?_⟩
    · rw [hmeter] at hp ⊢
      split
      · exact ⟨hactive, hgrant⟩
      · next h => rw [if_neg h] at hp; exact hfit n hp
    · have hc := hcount b n
      rw [hmeter, hbranch]
      by_cases hn : n = m
      · subst hn
        by_cases hb : b = (s.meter n).branch
        · subst hb
          simpa [hnone] using hc
        · simpa [hb, Ne.symm hb] using hc
      · have hone : [m].count n = 0 := by simp [Ne.symm hn]
        rw [if_neg hn, ← hc]
        split
        · rw [List.count_append, hone, Nat.add_zero]
        · rfl

theorem acceptRequest_laws {s : State} {m : MeterId} (r : PendingRequest) (hactive : (s.meter m).state = .active)
    (hgrant : (s.meter m).grant = none) : LawsKept s (acceptRequest m r s).state := by
  unfold acceptRequest
  split
  · next h =>
    have hr : Orderly s (replaceRequest m r s) := modMeter_orderly fun _ => ⟨h.symm, fun _ => ⟨rfl, id, id⟩⟩
    exact hr.toLawsKept
  · next h => exact joinOrder_laws hactive hgrant (by simpa using h)

theorem answerRefillRequest_laws (f : RefillMsg) (s : State) : LawsKept s (answerRefillRequest f s).state := by
  have hsame (status : Status) : LawsKept s (refuse status s).state := (Orderly.refl s).toLawsKept
  have hrefill (m : MeterId) (r : PendingRequest) : LawsKept s (refillOn m r s).state := by
    unfold refillOn
    split
    case h_7 hactive =>
      split
      · exact hsame _
      · next hgrant => exact acceptRequest_laws r hactive (by simpa using hgrant)
    all_goals exact hsame _
  unfold answerRefillRequest
  split
  · exact hsame _
  · split
    · exact hsame _
    · split
      · exact hsame _
      · split
        · exact hsame _
        · exact hrefill _ _

/-- A record that is not enrolled has no request to lose (R24, R58). -/
theorem answerEnrolMeter_orderly (f : EnrolMsg) (s : State) : Orderly s (answerEnrolMeter f s).state := by
  unfold answerEnrolMeter
  split
  · split_ifs with _ _ henrolled _
    · exact .refl s
    · exact .refl s
    · exact .refl s
    · exact .refl s
    · refine modMeter_orderly fun hs => .of_none (noRequest_of_state hs fun ha => henrolled ?_) rfl
      rw [ha]
      rfl
  · exact .refl s

theorem answerConfigureMeter_orderly (f : ConfigureMeterMsg) (s : State) :
    Orderly s (answerConfigureMeter f s).state := by
  have hset (m : MeterId) (k : Settings) : Orderly s (configureMeter m k s) := by
    have hk : Orderly s (modMeter m (fun r => { r with settings := k }) s) :=
      modMeter_orderly fun _ => .of_fields rfl rfl id id
    unfold configureMeter
    dsimp only
    split
    · exact hk.trans (startSupervision_orderly _ m)
    · exact hk
  unfold answerConfigureMeter
  split
  · exact .refl s
  · split
    · exact .refl s
    · split
      · exact .refl s
      · split
        · exact .refl s
        · exact hset _ _

theorem answerSuspendMeter_orderly (f : MeterMsg) (s : State) : Orderly s (answerSuspendMeter f s).state := by
  unfold answerSuspendMeter
  split
  · exact .refl s
  · unfold suspendOn
    split
    case h_3 => exact enterSuspended_orderly s _
    case h_4 => exact enterSuspended_orderly s _
    all_goals exact .refl s

theorem answerRetireMeter_orderly (f : MeterMsg) (s : State) : Orderly s (answerRetireMeter f s).state := by
  unfold answerRetireMeter
  split
  · exact .refl s
  · unfold retireOn
    split
    case h_3 => exact beginRetirement_orderly s _
    case h_4 => exact beginRetirement_orderly s _
    case h_5 => exact beginRetirement_orderly s _
    all_goals exact .refl s

theorem answerResumeMeter_orderly (f : MeterMsg) (s : State) : Orderly s (answerResumeMeter f s).state := by
  have hsuspended (m : MeterId) : Orderly s (resumeSuspended m s).state := by
    unfold resumeSuspended
    dsimp only
    split
    · exact reactivate_orderly s m
    · split_ifs
      · exact .refl s
      · exact .refl s
      · exact .refl s
      · exact rebaseline_orderly s m _ _
  unfold answerResumeMeter
  split
  · exact .refl s
  · unfold resumeOn
    split
    case h_3 => exact hsuspended _
    all_goals exact .refl s

theorem noRequest_of_awaiting {s : State} {m : MeterId} (h : (s.meter m).state = .awaitingReading) (hs : OrderLaw s) :
    (s.meter m).pendingReq = none :=
  noRequest_of_state hs (by simp [h])

theorem answerMeterStatus_orderly (f : ReadingMsg) (s : State) : Orderly s (answerMeterStatus f s).state := by
  unfold answerMeterStatus
  split
  · exact .refl s
  · unfold statusOn
    split
    · exact .refl s
    · exact .refl s
    · next h => exact finalReading_orderly (noRequest_of_awaiting h) _ _
    all_goals exact statusReport_orderly s _ _

theorem answerFinalReading_orderly (f : ReadingMsg) (s : State) : Orderly s (answerFinalReading f s).state := by
  unfold answerFinalReading
  split
  · exact .refl s
  · unfold plainFinalOn
    split
    case h_3 h => exact finalReading_orderly (noRequest_of_awaiting h) _ _
    all_goals exact .refl s

theorem answerAdjustingFinalReading_orderly (f : ReadingMsg) (s : State) :
    Orderly s (answerAdjustingFinalReading f s).state := by
  unfold answerAdjustingFinalReading
  split
  · exact .refl s
  · unfold adjustingFinalOn
    split
    case h_3 h => exact adjustOn_orderly (noRequest_of_awaiting h) _
    all_goals exact .refl s

theorem outcomeOn_orderly (m : MeterId) (serial : Word16) (claim : Claim) (rd : Report) (s : State) :
    Orderly s (outcomeOn m serial claim rd s).state := by
  unfold outcomeOn
  split
  · exact .refl s
  · exact .refl s
  · next h =>
    split
    · exact outcomeFinalNamed_orderly (noRequest_of_awaiting h) _ claim rd
    · exact outcomeFinalUnknown_orderly (noRequest_of_awaiting h) serial rd
  all_goals exact outcomeInService_orderly s m serial claim rd

theorem answerGrantApplied_orderly (f : AppliedMsg) (s : State) : Orderly s (answerGrantApplied f s).state := by
  unfold answerGrantApplied
  split
  · exact .refl s
  · exact outcomeOn_orderly ..

theorem answerGrantRejected_orderly (f : RejectedMsg) (s : State) : Orderly s (answerGrantRejected f s).state := by
  unfold answerGrantRejected
  split
  · exact .refl s
  · exact outcomeOn_orderly ..

theorem answerConfigureBranch_orderly (f : ConfigureBranchMsg) (s : State) :
    Orderly s (answerConfigureBranch f s).state := by
  unfold answerConfigureBranch
  split
  · exact modBranch_orderly (.of_configure _ _)
  · exact .refl s

theorem answerEngineRestart_orderly (f : Unit) (s : State) : Orderly s (answerEngineRestart f s).state := by
  unfold answerEngineRestart
  split
  · dsimp only
    split
    · exact restartTakesEffect_orderly s
    · exact .frame rfl rfl
  · exact .refl s
  · exact .refl s

/-- The grants that lose their entry numbers stay held (R126). -/
theorem emptyList_orderly (s : State) : Orderly s (emptyList s) := by
  refine .of_records (fun _ m => ?_) (fun b => .refl _)
  have hm : (emptyList s).meter m = { s.meter m with grant := (s.meter m).grant.map Grant.detached } := mapAll_get ..
  rw [hm]
  exact .of_fields rfl rfl id fun h => by simp [h]

theorem answerLoadList_orderly (f : LoadListMsg) (s : State) : Orderly s (answerLoadList f s).state := by
  have happend (new : List Entry) (t : State) : Orderly t (appendEntries new t) := .frame rfl rfl
  unfold answerLoadList
  extract_lets load
  have hload {base : State} (h : Orderly s base) : Orderly s (load base).state := by
    dsimp only [load]
    split
    · exact .refl s
    · split
      · exact .refl s
      · split
        · exact .refl s
        · exact h.trans (happend _ base)
  split
  case h_5 => exact hload (.refl s)
  case h_6 => exact hload (.refl s)
  case h_7 => exact hload (emptyList_orderly s)
  case h_8 => exact hload (emptyList_orderly s)
  all_goals exact .refl s

theorem answerClearList_orderly (f : Unit) (s : State) : Orderly s (answerClearList f s).state := by
  unfold answerClearList
  split
  · exact emptyList_orderly s
  · exact emptyList_orderly s
  · exact .refl s

/-- The close of a period sets every A to its period allowance (R49, R168). -/
theorem answerClosePeriod_orderly (f : StampMsg) (s : State) : Orderly s (answerClosePeriod f s).state := by
  unfold answerClosePeriod
  split
  · exact .refl s
  · refine .of_records (fun _ m => .refl _) (fun b => ?_)
    have hb : (closePeriod f.stamp s).branch b = (s.branch b).allowanceReset := mapAll_get ..
    exact hb ▸ .of_allowance _ fun _ _ => le_rfl

theorem answerCommission_orderly (f : Unit) (s : State) : Orderly s (answerCommission f s).state := by
  unfold answerCommission
  split
  · refine .of_records (fun _ m => ?_) (fun b => .refl _)
    have hm : (commissionPart s).meter m = Meter.commissioned s (s.meter m) := mapAll_get ..
    dsimp only [answerOk]
    rw [hm, Meter.commissioned]
    split
    · exact .of_fields rfl rfl id id
    · exact .refl _
  · exact .refl s
  · exact .refl s

/-! ### The owners' answers that leave the meter and branch records as they are -/

@[simp] theorem refuse_branches (status : Status) (s : State) : (refuse status s).state.branches = s.branches := rfl

@[simp] theorem answerOk_branches (body : List WireField) (s : State) :
    (answerOk body s).state.branches = s.branches := rfl

/-- The line checks of R144 change nothing. -/
theorem withStockLine_orderly {k : BranchId → LineNo → State → Answer} {s : State}
    (h : ∀ b l, Orderly s (k b l s).state) (branch line : Byte) : Orderly s (withStockLine branch line k s).state := by
  unfold withStockLine
  split
  · split
    · exact h _ _
    · exact .refl s
  · exact .refl s

theorem answerStockReceipt_orderly (f : ReceiptMsg) (s : State) : Orderly s (answerStockReceipt f s).state := by
  refine withStockLine_orderly (fun b l => ?_) _ _
  have hreceive (n : Nat) (t : State) : Orderly t (receivePieces b l n t) :=
    .frame (by simp [receivePieces]) (by simp [receivePieces])
  have hpay (cost : Nat) : Orderly s (payFor cost s) := .frame (by simp [payFor]) (by simp [payFor])
  unfold receiptOn
  dsimp only
  split
  · exact .refl s
  · split_ifs
    · exact .refl s
    · exact .refl s
    · exact .refl s
    · exact (hpay _).trans (hreceive _ _)
    · exact hreceive _ s

theorem answerStockSale_orderly (f : PiecesMsg) (s : State) : Orderly s (answerStockSale f s).state := by
  refine withStockLine_orderly (fun b l => ?_) _ _
  unfold saleOn
  split
  · exact .refl s
  · exact .frame (by simp [sellPieces]) (by simp [sellPieces])

theorem answerStockSpoil_orderly (f : PiecesMsg) (s : State) : Orderly s (answerStockSpoil f s).state := by
  refine withStockLine_orderly (fun b l => ?_) _ _
  unfold spoilOn
  split
  · exact .refl s
  · exact .frame (by simp [spoilPieces]) (by simp [spoilPieces])

/-- A count out of tolerance is a fault on no meter, but may take the part into lockdown (R153, R184). -/
theorem answerStockCount_orderly (f : PiecesMsg) (s : State) : Orderly s (answerStockCount f s).state := by
  refine withStockLine_orderly (fun b l => ?_) _ _
  have hcount (c : Nat) (value : Int) : Orderly s (countPieces b l c value s) :=
    .frame (by simp [countPieces]) (by simp [countPieces])
  unfold countOn
  dsimp only
  split
  · exact .refl s
  · dsimp only [answerOk]
    split
    · exact (hcount _ _).trans (handFault_orderly _ _)
    · exact hcount _ _

theorem answerDeposit_branches (f : DepositMsg) (s : State) : (answerDeposit f s).state.branches = s.branches := by
  unfold answerDeposit
  dsimp only
  split_ifs <;> simp

theorem answerRefund_branches (f : RefundMsg) (s : State) : (answerRefund f s).state.branches = s.branches := by
  unfold answerRefund
  dsimp only
  split_ifs <;> simp

theorem answerSetPoolLimits_branches (f : PoolLimitsMsg) (s : State) :
    (answerSetPoolLimits f s).state.branches = s.branches := by
  unfold answerSetPoolLimits
  dsimp only
  split_ifs <;> simp [setLimits]

theorem answerConfigureStockLine_branches (f : StockLineMsg) (s : State) :
    (answerConfigureStockLine f s).state.branches = s.branches := by
  unfold answerConfigureStockLine
  (repeat' split) <;> simp

theorem answerStartList_branches (f : StartListMsg) (s : State) : (answerStartList f s).state.branches = s.branches := by
  have hs (cls : Priority) (batch : Bool) : (startList cls batch s).branches = s.branches := by
    unfold startList
    dsimp only
    split <;> simp
  unfold answerStartList
  (repeat' split) <;> simp [hs]

theorem answerHaltList_branches (f : Unit) (s : State) : (answerHaltList f s).state.branches = s.branches := by
  unfold answerHaltList
  (repeat' split) <;> simp

theorem answerAbortList_branches (f : Unit) (s : State) : (answerAbortList f s).state.branches = s.branches := by
  unfold answerAbortList
  split <;> simp [abortList]

theorem answerCollectPeriod_branches (f : StampMsg) (s : State) :
    (answerCollectPeriod f s).state.branches = s.branches := by
  unfold answerCollectPeriod
  split_ifs <;> rfl

theorem answerSetUrgencyMap_branches (f : UrgencyMapMsg) (s : State) :
    (answerSetUrgencyMap f s).state.branches = s.branches := by
  unfold answerSetUrgencyMap
  split <;> rfl

theorem answerSetEngine_branches (f : SetEngineMsg) (s : State) : (answerSetEngine f s).state.branches = s.branches := by
  unfold answerSetEngine
  dsimp only
  split <;> rfl

theorem answerSetNotices_branches (f : SetNoticesMsg) (s : State) :
    (answerSetNotices f s).state.branches = s.branches := by
  unfold answerSetNotices
  split <;> rfl

theorem answerSetFaultPolicy_branches (f : PolicyMsg) (s : State) :
    (answerSetFaultPolicy f s).state.branches = s.branches := by
  unfold answerSetFaultPolicy
  split <;> rfl

theorem answerSetTolerance_branches (f : ToleranceMsg) (s : State) :
    (answerSetTolerance f s).state.branches = s.branches := by
  unfold answerSetTolerance
  split <;> rfl

theorem answerRelease_branches (f : Unit) (s : State) : (answerRelease f s).state.branches = s.branches := by
  unfold answerRelease
  split <;> rfl

theorem answerClearFaults_branches (f : Unit) (s : State) : (answerClearFaults f s).state.branches = s.branches := by
  unfold answerClearFaults
  split <;> rfl

theorem answerQueryMeter_branches (f : MeterMsg) (s : State) : (answerQueryMeter f s).state.branches = s.branches := by
  unfold answerQueryMeter
  split <;> rfl

theorem answerQueryBranch_branches (f : BranchMsg) (s : State) : (answerQueryBranch f s).state.branches = s.branches := by
  unfold answerQueryBranch
  split <;> rfl

theorem answerQueryStock_branches (f : QueryStockMsg) (s : State) :
    (answerQueryStock f s).state.branches = s.branches := by
  unfold answerQueryStock
  (repeat' split) <;> rfl

theorem answerQueryList_branches (f : QueryListMsg) (s : State) : (answerQueryList f s).state.branches = s.branches := by
  unfold answerQueryList
  split <;> rfl

theorem answerQueryPeriod_branches (f : QueryPeriodMsg) (s : State) :
    (answerQueryPeriod f s).state.branches = s.branches := by
  unfold answerQueryPeriod
  (repeat' split) <;> rfl

theorem answerQueryLine_branches (f : QueryLineMsg) (s : State) : (answerQueryLine f s).state.branches = s.branches := by
  unfold answerQueryLine
  split
  · rfl
  · simp [readPin, settleLine]

/-! ### Events at the lines, timers and power -/

theorem whenPowered_laws {f : State → State} {s : State} (h : Orderly s (f s)) : LawsKept s (whenPowered f s) := by
  unfold whenPowered
  split
  · exact h.toLawsKept
  · exact (Orderly.refl s).toLawsKept

theorem reachTime_orderly (s : State) (expiry : Word32) : Orderly s (reachTime expiry s) :=
  .frame (by simp) (by simp)

theorem receive_orderly (p : Port) (cond : LineIf → Bool) (f : LineIf → LineIf) (s : State) :
    Orderly s (receive p cond f s) := by
  unfold receive
  dsimp only
  split
  · exact setLine_orderly s p _
  · exact .refl s

theorem noticeSent_branches (f : OutFrame) (s : State) : (noticeSent f s).branches = s.branches := by
  have hp (c : NoticeClass) (carried : Carried) (t : State) : (pageReported c carried t).branches = t.branches := by
    unfold pageReported
    dsimp only
    (repeat' split) <;> simp
  unfold noticeSent
  split
  · rw [hp, modNotice_branches]
  · rfl

theorem queueNotice_branches (c : NoticeClass) (p : Port) (s : State) : (queueNotice c p s).branches = s.branches := by
  unfold queueNotice
  dsimp only
  rw [enqueue_branches, modNotice_branches]
  split <;> simp [markSampled]

/-- A power-on with retained memory intact drops every request and empties every pending order (R43, R69). -/
theorem restoreBlocks_orderly (s : State) : Orderly s (restoreBlocks s) := by
  have hm (m : MeterId) : (restoreBlocks s).meter m = (s.meter m).poweredOn := mapAll_get ..
  have hb (b : BranchId) : (restoreBlocks s).branch b = { s.branch b with order := [] } := mapAll_get ..
  exact .of_cleared (fun m => by rw [hm]; rfl) (fun b => by rw [hb]) (fun hs b => by rw [hb]; exact hs b)

theorem announce_orderly (completed : Bool) (s : State) : Orderly s (announce completed s) := by
  unfold announce
  dsimp only
  split_ifs <;> exact .frame (by simp) (by simp)

theorem powerOn_orderly (straps : Straps) (s : State) : Orderly s (powerOn straps s) := by
  have hup : Orderly s
      { clearReports (startLines straps.operations.rate straps.audit.rate s) with powered := true } := .frame rfl rfl
  have hrestored := hup.trans (restoreBlocks_orderly _)
  unfold powerOn
  refine Orderly.trans ?_ (announce_orderly _ _)
  split
  · exact hrestored.trans (clearPaceAndHoldOff_orderly _)
  · exact hrestored

theorem reset_branch (b : BranchId) : State.reset.branch b = Branch.lost := by
  simp [State.branch, State.reset, get_eq_getElem]

theorem reset_meter (m : MeterId) : State.reset.meter m = Meter.lost := by
  simp [State.meter, State.reset, get_eq_getElem]

theorem reset_branchLaw : BranchLaw State.reset := fun b => by
  simp [reset_branch, Branch.lost]

/-- A loss of retention leaves no request and no pending order (R176). -/
theorem orderly_of_reset (s : State) {t : State} (hm : t.meters = State.reset.meters)
    (hb : t.branches = State.reset.branches) : Orderly s t := by
  have hreset : Orderly s State.reset :=
    .of_cleared (fun m => by rw [reset_meter]; rfl) (fun b => by rw [reset_branch]; rfl) (fun _ => reset_branchLaw)
  exact hreset.trans (.frame hm hb)

theorem reset_orderLaw : OrderLaw State.reset :=
  ⟨fun m hp => by simp [reset_meter, Meter.lost] at hp,
    fun b m => by simp [reset_meter, reset_branch, Meter.lost, Branch.lost]⟩

/-! ### Every command -/

/-- Every command keeps both laws, and all but REFILL-REQUEST bring no request. -/
theorem exec_laws (c : Instr) (s : State) : ∃ t, exec c s = .next t ∧ LawsKept s t := by
  cases c with
  | meterStatus => exact ⟨_, rfl, request_orderly answerMeterStatus_orderly⟩
  | refillRequest => exact ⟨_, rfl, request_laws answerRefillRequest_laws⟩
  | grantApplied => exact ⟨_, rfl, request_orderly answerGrantApplied_orderly⟩
  | grantRejected => exact ⟨_, rfl, request_orderly answerGrantRejected_orderly⟩
  | deposit => exact ⟨_, rfl, request_frame answerDeposit_meters answerDeposit_branches⟩
  | enrolMeter => exact ⟨_, rfl, request_orderly answerEnrolMeter_orderly⟩
  | configureMeter => exact ⟨_, rfl, request_orderly answerConfigureMeter_orderly⟩
  | suspendMeter => exact ⟨_, rfl, request_orderly answerSuspendMeter_orderly⟩
  | retireMeter => exact ⟨_, rfl, request_orderly answerRetireMeter_orderly⟩
  | finalReading => exact ⟨_, rfl, request_orderly answerFinalReading_orderly⟩
  | adjustingFinalReading => exact ⟨_, rfl, request_orderly answerAdjustingFinalReading_orderly⟩
  | configureBranch => exact ⟨_, rfl, request_orderly answerConfigureBranch_orderly⟩
  | setUrgencyMap => exact ⟨_, rfl, request_frame answerSetUrgencyMap_meters answerSetUrgencyMap_branches⟩
  | setEngine => exact ⟨_, rfl, request_frame answerSetEngine_meters answerSetEngine_branches⟩
  | engineRestart => exact ⟨_, rfl, request_orderly answerEngineRestart_orderly⟩
  | configureStockLine =>
    exact ⟨_, rfl, request_frame answerConfigureStockLine_meters answerConfigureStockLine_branches⟩
  | stockReceipt => exact ⟨_, rfl, request_orderly answerStockReceipt_orderly⟩
  | stockSale => exact ⟨_, rfl, request_orderly answerStockSale_orderly⟩
  | stockSpoil => exact ⟨_, rfl, request_orderly answerStockSpoil_orderly⟩
  | stockCount => exact ⟨_, rfl, request_orderly answerStockCount_orderly⟩
  | loadList => exact ⟨_, rfl, request_orderly answerLoadList_orderly⟩
  | startList => exact ⟨_, rfl, request_frame answerStartList_meters answerStartList_branches⟩
  | haltList => exact ⟨_, rfl, request_frame answerHaltList_meters answerHaltList_branches⟩
  | abortList => exact ⟨_, rfl, request_frame answerAbortList_meters answerAbortList_branches⟩
  | clearList => exact ⟨_, rfl, request_orderly answerClearList_orderly⟩
  | closePeriod => exact ⟨_, rfl, request_orderly answerClosePeriod_orderly⟩
  | collectPeriod => exact ⟨_, rfl, request_frame answerCollectPeriod_meters answerCollectPeriod_branches⟩
  | setNotices => exact ⟨_, rfl, request_frame answerSetNotices_meters answerSetNotices_branches⟩
  | commission => exact ⟨_, rfl, request_orderly answerCommission_orderly⟩
  | refund => exact ⟨_, rfl, request_frame answerRefund_meters answerRefund_branches⟩
  | setPoolLimits => exact ⟨_, rfl, request_frame answerSetPoolLimits_meters answerSetPoolLimits_branches⟩
  | setFaultPolicy => exact ⟨_, rfl, request_frame answerSetFaultPolicy_meters answerSetFaultPolicy_branches⟩
  | setTolerance => exact ⟨_, rfl, request_frame answerSetTolerance_meters answerSetTolerance_branches⟩
  | resumeMeter => exact ⟨_, rfl, request_orderly answerResumeMeter_orderly⟩
  | release => exact ⟨_, rfl, request_frame answerRelease_meters answerRelease_branches⟩
  | clearFaults => exact ⟨_, rfl, request_frame answerClearFaults_meters answerClearFaults_branches⟩
  | queryPool => exact ⟨_, rfl, request_orderly fun _ t => .refl t⟩
  | queryMeter => exact ⟨_, rfl, request_frame answerQueryMeter_meters answerQueryMeter_branches⟩
  | queryBranch => exact ⟨_, rfl, request_frame answerQueryBranch_meters answerQueryBranch_branches⟩
  | queryStock => exact ⟨_, rfl, request_frame answerQueryStock_meters answerQueryStock_branches⟩
  | queryList => exact ⟨_, rfl, request_frame answerQueryList_meters answerQueryList_branches⟩
  | queryPeriod => exact ⟨_, rfl, request_frame answerQueryPeriod_meters answerQueryPeriod_branches⟩
  | queryFaults => exact ⟨_, rfl, request_orderly fun _ t => .refl t⟩
  | queryLine => exact ⟨_, rfl, request_frame answerQueryLine_meters answerQueryLine_branches⟩
  | queryNotices => exact ⟨_, rfl, request_orderly fun _ t => .refl t⟩
  | unknownKind p tag kind body =>
    refine ⟨_, rfl, Orderly.toLawsKept ?_⟩
    have ht := takeFrame_orderly p kind tag body s
    split
    · exact .refl s
    · split
      · next e => rw [e] at ht; exact ht
      · next e =>
        rw [e] at ht
        refine ht.trans (.trans ?_ (enqueue_orderly _ p _))
        split <;> exact .refl _
  | discardedByte => exact ⟨_, rfl, whenPowered_laws (receive_orderly ..)⟩
  | shortLength => exact ⟨_, rfl, whenPowered_laws (receive_orderly ..)⟩
  | frameCheck => exact ⟨_, rfl, whenPowered_laws (receive_orderly ..)⟩
  | overrun => exact ⟨_, rfl, whenPowered_laws (receive_orderly ..)⟩
  | startMarkerReceived => exact ⟨_, rfl, whenPowered_laws (receive_orderly ..)⟩
  | frameByteReceived => exact ⟨_, rfl, whenPowered_laws (receive_orderly ..)⟩
  | silence =>
    refine ⟨_, rfl, whenPowered_laws ?_⟩
    split
    · exact (reachTime_orderly s _).trans (modLineIf_orderly ..)
    · exact .refl s
  | lineBreak =>
    refine ⟨_, rfl, whenPowered_laws ?_⟩
    split
    · exact .refl s
    · exact .frame (by simp [settleLine, unqueueNotices]) (by simp [settleLine, unqueueNotices])
  | breakEnd => exact ⟨_, rfl, whenPowered_laws (modLineIf_orderly ..)⟩
  | frameTransmissionStart => exact ⟨_, rfl, whenPowered_laws (modLineIf_orderly ..)⟩
  | fullyTransmitted =>
    refine ⟨_, rfl, whenPowered_laws ?_⟩
    split
    · exact .frame (by simp [noticeSent_meters]) (by simp [noticeSent_branches])
    · exact .refl s
  | queuingOpportunity =>
    refine ⟨_, rfl, whenPowered_laws ?_⟩
    split
    · exact .frame (queueNotice_meters ..) (queueNotice_branches ..)
    · exact .refl s
  | selection =>
    refine ⟨_, rfl, whenPowered_laws ?_⟩
    split
    · exact select_orderly s
    · exact .refl s
  | supervisionExpiry m =>
    refine ⟨_, rfl, whenPowered_laws ?_⟩
    split
    · exact (reachTime_orderly s _).trans (becomeSilent_orderly _ m)
    · exact .refl s
  | holdOffExpiry m =>
    refine ⟨_, rfl, whenPowered_laws ?_⟩
    split
    · exact (reachTime_orderly s _).trans (modMeter_orderly fun _ => .of_fields rfl rfl id id)
    · exact .refl s
  | grantExpiry k =>
    refine ⟨_, rfl, whenPowered_laws ?_⟩
    split
    · exact (reachTime_orderly s _).trans (expireSlot_orderly _ k _)
    · exact .refl s
  | powerOn straps => exact ⟨_, rfl, (powerOn_orderly straps s).toLawsKept⟩
  | powerOnRetentionLost =>
    refine ⟨_, rfl, Orderly.toLawsKept ?_⟩
    exact orderly_of_reset s rfl rfl
  | powerLoss => exact ⟨_, rfl, whenPowered_laws (.frame rfl rfl)⟩

theorem step_laws {s t : State} (h : step s = .next t) : LawsKept s t := by
  unfold step at h
  split at h
  · cases h
    have htick : Orderly s (tick s) := by
      unfold tick
      split
      · exact .frame rfl rfl
      · exact .refl s
    exact htick.toLawsKept
  · next c rest _ =>
    have hqueue : Orderly s { s with pending := rest } := .frame rfl rfl
    obtain ⟨u, hu, hlaws⟩ := exec_laws c { s with pending := rest }
    cases hu.symm.trans h
    exact hqueue.toLawsKept.trans hlaws

/-- Settles O53: A rises only up to its period allowance, and the pace is set to 0 or 15 or wears down. -/
theorem allowanceAndPaceStayInRange : Obligations.AllowanceAndPaceStayInRange := by
  unfold Obligations.AllowanceAndPaceStayInRange
  exact ⟨reset_branchLaw, fun _ _ hs hstep => (step_laws hstep).ranges hs⟩

/-- Settles O54: a request and its place in the order come and go together, and no meter with a request changes its
branch, leaves ACTIVE or takes a grant. -/
theorem pendingOrdersMatchRequests : Obligations.PendingOrdersMatchRequests := by
  unfold Obligations.PendingOrdersMatchRequests
  exact ⟨reset_orderLaw, fun _ _ hs hstep => (step_laws hstep).orders hs⟩

end Sys2Proof.Proofs.BranchTable

/-!
What one step can do to the state, for the laws that every step keeps: the core of the state is what the laws read, a
change is one complete alteration of it, and every command is a chain of changes.
-/

namespace Sys2Proof.Proofs.Steps

open Sys2Proof.Machine Sys2Proof.Proofs.MeterTable

/-! ## What the laws read -/

/-- A class with its phase brought down to the port that holds its frame. -/
def coreClass (e : NoticeEntry) : NoticeEntry :=
  { enabled := true, route := .operations, phase := e.phase.holder.elim .idle .queued }

/-- The classes of a state by their holders alone. -/
def heldBy (s : State) : Vector NoticeEntry 8 :=
  mapAll coreClass s.notices.classes

/-- A line's queue, transmission and counters. -/
def coreLine (l : LineIf) : LineIf :=
  { LineIf.started .r9600 false with queue := l.queue, sending := l.sending, counters := l.counters }

/-- The state with every field blanked that no law reads. -/
def core (s : State) : State :=
  { State.reset with
    powered := s.powered
    pool := s.pool
    meters := s.meters
    engine := { Engine.lost with
      state := s.engine.state, slots := s.engine.slots, nextSerial := s.engine.nextSerial }
    list := { ListUnit.lost with entries := s.list.entries, next := s.list.next }
    stock := { s.stock with tolerance := 0 }
    periods := { Periods.lost with
      current := { Bank.opened 0 with saturated := s.periods.current.saturated } }
    monitor := { s.monitor with policy := .strict }
    notices := { Notices.lost with classes := heldBy s }
    operations := coreLine s.operations
    audit := coreLine s.audit }

theorem coreClass_holder (e : NoticeEntry) : (coreClass e).phase.holder = e.phase.holder := by
  unfold coreClass
  cases e.phase <;> rfl

theorem core_line (s : State) (p : Port) : (core s).line p = coreLine (s.line p) := by
  cases p <;> rfl

theorem core_holder (s : State) (c : NoticeClass) :
    ((core s).noticeClass c).phase.holder = (s.noticeClass c).phase.holder := by
  change ((mapAll coreClass s.notices.classes).get c.idx).phase.holder = _
  rw [mapAll_get, coreClass_holder]
  rfl

/-! ## What a change may do to one block -/

/-- A pool change: the figures stay in range, the condition is worked out anew, and while no figure is held at a limit the
money is conserved (R1, R4, R15, R16). -/
structure PoolMove (k : Pool) (sat : Bool) (k' : Pool) (sat' : Bool) : Prop where
  range : (∀ x ∈ k.figures, x ≤ Config.maxFigure) → ∀ x ∈ k'.figures, x ≤ Config.maxFigure
  recorded : k.recorded = k.condition → k'.recorded = k'.condition
  saturated : sat' = false → sat = false
  conserved : sat' = false → k.p + k.g + k.i + k.rf + k.k = k.dep + k.r →
    k'.p + k'.g + k'.i + k'.rf + k'.k = k'.dep + k'.r

/-- What R58 says of one record: with a pending request it is ACTIVE and holds no grant. -/
def Fit (r : Meter) : Prop :=
  r.pendingReq.isSome = true → r.state = .active ∧ r.grant = none

/-- What R20, R131, R132 and R142 say of one record. -/
def InForm (r : Meter) : Prop :=
  (r.state = .vacant ∨ r.state = .retired →
    r.pendingReq = none ∧ r.grant = none ∧ r.rejected = none ∧ r.holdOff = none ∧ r.supervision = none) ∧
  (r.state = .draining ∨ r.state = .awaitingReading → r.holdOff = none ∧ r.supervision = none) ∧
  (r.state = .draining → r.grant.any Grant.isOffered = true) ∧
  (r.state = .awaitingReading → r.grant.any Grant.isOffered = false)

/-- What R31 says of one record of a part that has been commissioned or has not. -/
def Supervised (commissioned : Prop) (r : Meter) : Prop :=
  (r.supervision.isSome = true → r.state = .active) ∧
    (commissioned → r.state = .active → r.supervision.isSome = true)

/-- What R54 says of the amount that one record asks for. -/
def AsksInRange (r : Meter) : Prop :=
  ∀ q, r.pendingReq = some q → q.q ≤ Config.maxGrant

/-- A record keeps its form (R20, R31, R54, R58, R131, R132, R142). -/
structure RecordKept (commissioned : Prop) (r r' : Meter) : Prop where
  fit : Fit r → Fit r'
  form : Fit r → InForm r → InForm r'
  supervised : Supervised commissioned r → Supervised commissioned r'
  asks : AsksInRange r → AsksInRange r'

/-- The part has been commissioned (R173). -/
def Commissioned (s : State) : Prop :=
  s.monitor.state ≠ .uncommissioned

/-- On hand, the reorder marks and the reorder list keep their laws (R155 to R157). -/
structure StockKept (k k' : Stock) : Prop where
  lines : ∀ s : State, StockLaw (s.setStock k) → StockLaw (s.setStock k')
  reorder : ∀ s : State, StockLaw (s.setStock k) → ReorderLaw (s.setStock k) → ReorderLaw (s.setStock k')

/-- The entries from the next one on are the WAITING ones (R113, R118). -/
def InOrder (es : List Entry) (n : Nat) : Prop :=
  es.length ≤ Config.listEntries ∧ n ≤ es.length ∧
    ∀ (i : Nat) (e : Entry), es[i]? = some e → (e.outcome = .waiting ↔ n ≤ i)

/-- A change of the list that leaves every OFFERED entry where it stands. -/
structure ListKept (es : List Entry) (n : Nat) (es' : List Entry) (n' : Nat) : Prop where
  order : InOrder es n → InOrder es' n'
  offered : ∀ (i : Nat) (e : Entry), es[i]? = some e → e.outcome = .offered →
    ∃ e', es'[i]? = some e' ∧ e'.meter = e.meter ∧ e'.outcome = .offered
  amounts : (∀ e ∈ es, e.q ≤ Config.maxGrant) → ∀ e ∈ es', e.q ≤ Config.maxGrant

/-! ## Changes -/

/-- The pool and the current bank's saturated mark replaced. -/
def withPool (k : Pool) (sat : Bool) (s : State) : State :=
  { s with
    pool := k
    periods := { s.periods with current := { s.periods.current with saturated := sat } } }

/-- The entries and the next entry replaced. -/
def withEntries (es : List Entry) (n : Nat) (s : State) : State :=
  { s with list := { s.list with entries := es, next := n } }

/-- What a restart that takes effect does to one record (R110). -/
def Meter.restarted (r : Meter) : Meter :=
  { r with pendingReq := none, holdOff := none }

/-- In QUIESCING with no slot occupied a restart takes effect (R105). -/
def settled (s : State) : State :=
  if s.engine.state = .quiescing ∧ occupiedSlots s = 0 then
    (s.setMeters (mapAll Meter.restarted s.meters)).setEngine { s.engine with state := .active }
  else s

/-- What the freeing of a slot completes; a DOUBTFUL grant held none. -/
def settledAfter (g : Grant) (s : State) : State :=
  if g.isOffered then settled s else s

/-- The grant of a record goes DOUBTFUL, and with it a DRAINING meter into AWAITING-READING (R101, R132). -/
def Meter.doubted (r : Meter) : Meter :=
  { r with
    grant := r.grant.map Grant.doubtful
    state := if r.state = .draining then .awaitingReading else r.state }

/-- The slots once a grant has given up its own. -/
def slotsWithout (g : Grant) (slots : Vector (Option Slot) 8) : Vector (Option Slot) 8 :=
  match g.phase with
  | .offered k => modifyAt slots k (fun _ => none)
  | .doubtful => slots

/-- The entries once the grant of one is resolved (R123). -/
def entriesAfter (source : GrantSource) (result : GrantResult) (es : List Entry) : List Entry :=
  match source with
  | .list (some n) => es.modify n (fun e => { e with outcome := result.asOutcome })
  | _ => es

/-- Who is offered a grant, and what becomes of the list: the meter's own request is served, or an entry of the list whose
meter is ACTIVE with no grant (R81, R82). -/
inductive Served (u : State) (m : MeterId) (x : Nat) : GrantSource → List Entry → Nat → Prop where
  | request (q : PendingRequest) (h : (u.meter m).pendingReq = some q) (hx : x ≤ q.q) :
      Served u m x .request u.list.entries u.list.next
  | entry (e : Entry) (serial : Option Word16) (hactive : (u.meter m).state = .active)
      (hgrant : (u.meter m).grant = none) (he : u.list.entries[u.list.next]? = some e) (hw : e.outcome = .waiting)
      (hm : e.meter = m) (hx : x ≤ e.q) :
      Served u m x (.list (some u.list.next))
        (u.list.entries.modify u.list.next (fun e => { e with outcome := .offered, serial := serial })) (u.list.next + 1)

/-- A serial that the next reservation may take, and the one that follows it (R87). -/
def FreshSerial (u : State) (serial next : Word16) : Prop :=
  u.engine.nextSerial ≠ 0 → serial ≠ 0 ∧ next ≠ 0 ∧
    ∀ (n : MeterId) (h : Grant), (u.meter n).grant = some h → h.serial ≠ serial

/-- One complete change of the blocks behind the lines. -/
inductive Inner : State → State → Prop where
  /-- Money moves, of unresolved grants none. -/
  | money (u : State) (k : Pool) (sat : Bool) (h : PoolMove u.pool u.periods.current.saturated k sat)
      (hg : k.g = u.pool.g) : Inner u (withPool k sat u)
  /-- Records change, the grants stay. -/
  | records (u : State) (ms : Vector Meter 192)
      (h : ∀ m, RecordKept (Commissioned u) (u.meter m) (ms.get m) ∧ (ms.get m).grant = (u.meter m).grant) :
      Inner u (u.setMeters ms)
  /-- A record that is not enrolled is set up afresh. -/
  | enrolled (u : State) (m : MeterId) (b : BranchId) (ar : Nat) (labels : Word32) (supervision : Option Word32)
      (h : (u.meter m).state = .vacant ∨ (u.meter m).state = .retired)
      (hs : Commissioned u → supervision.isSome = true) :
      Inner u (modMeter m (fun _ => Meter.enrolled b ar labels supervision) u)
  /-- A grant is reserved and offered. -/
  | offered (u : State) (m : MeterId) (g : Grant) (k : SlotId) (slot : Slot) (next : Word16) (pool : Pool) (sat : Bool)
      (es : List Entry) (n : Nat) (served : Served u m g.amount g.source es n)
      (hfree : u.engine.slots.get k = none) (hphase : g.phase = .offered k)
      (hslot : slot.meter = m ∧ slot.serial = g.serial ∧ slot.amount = g.amount)
      (hserial : FreshSerial u g.serial next)
      (hpool : PoolMove u.pool u.periods.current.saturated pool sat)
      (hg : pool.g = raiseFigure u.pool.g g.amount) :
      Inner u (withPool pool sat (withEntries es n
        (modMeter m (fun r => { r with pendingReq := none, grant := some g })
          (u.setEngine
            { u.engine with slots := modifyAt u.engine.slots k (fun _ => some slot), nextSerial := next }))))
  /-- A grant is confirmed or released. -/
  | resolved (u : State) (m : MeterId) (g : Grant) (result : GrantResult) (pool : Pool) (sat : Bool)
      (ms : Vector Meter 192) (stock : Stock) (hheld : (u.meter m).grant = some g)
      (hpool : PoolMove u.pool u.periods.current.saturated pool sat) (hg : pool.g = lowerFigure u.pool.g g.amount)
      (hothers : ∀ n, n ≠ m → ms.get n = u.meter n) (hgrant : (ms.get m).grant = none)
      (hrecord : RecordKept (Commissioned u) (u.meter m) (ms.get m)) (hstock : StockKept u.stock stock) :
      Inner u (settledAfter g (withPool pool sat (withEntries (entriesAfter g.source result u.list.entries) u.list.next
        (((u.setMeters ms).setStock stock).setEngine { u.engine with slots := slotsWithout g u.engine.slots }))))
  /-- A slot is freed and its grant goes DOUBTFUL. -/
  | doubted (u : State) (m : MeterId) (k : SlotId)
      (h : (∃ g, (u.meter m).grant = some g ∧ g.phase = .offered k) ∨
        ∃ e, u.engine.slots.get k = some e ∧ e.meter = m) :
      Inner u (settled (modMeter m Meter.doubted (freeSlot k u)))
  /-- Entries take their outcomes, are abandoned or join the list. -/
  | entries (u : State) (es : List Entry) (n : Nat) (h : ListKept u.list.entries u.list.next es n) :
      Inner u (withEntries es n u)
  /-- The list is emptied, and no grant names an entry. -/
  | emptied (u : State) :
      Inner u (withEntries [] 0
        (u.setMeters (mapAll (fun r => { r with grant := r.grant.map Grant.detached }) u.meters)))
  /-- The fault log, the part state or the engine's state changes. -/
  | monitor (u : State) (k : Monitor) (x : EngineState)
      (hlog : u.monitor.log.later ≤ Config.maxTally ∧ u.monitor.log.suppressed ≤ Config.maxTally →
        k.log.later ≤ Config.maxTally ∧ k.log.suppressed ≤ Config.maxTally)
      (hpart : k.state ≠ .uncommissioned →
        Commissioned u ∨ ∀ m, (u.meter m).state = .active → (u.meter m).supervision.isSome = true)
      (hfits : (u.monitor.state = .inService ↔ u.engine.state ≠ .stopped) → (k.state = .inService ↔ x ≠ .stopped))
      (hquiet : x = .quiescing → u.engine.state = .quiescing ∨ 0 < occupiedSlots u) :
      Inner u ((u.setMonitor k).setEngine { u.engine with state := x })
  /-- Stock lines or the reorder list change. -/
  | stock (u : State) (k : Stock) (h : StockKept u.stock k) : Inner u (u.setStock k)
  /-- A line receives, or starts to send the frame at the head of its queue. -/
  | line (u : State) (p : Port) (l : LineIf) (hqueue : l.queue = (u.line p).queue)
      (hsending : ∀ bytes, l.sending = some bytes → (u.line p).sending = some bytes ∨
        ∃ f rest, l.queue = f :: rest ∧ bytes = f.bytes)
      (hcounters : (u.line p).counters.inRange → l.counters.inRange) : Inner u (u.setLine p l)

/-- A notice frame of class `c`. -/
def isNoticeOf (c : NoticeClass) : OutFrame → Bool
  | .notice d _ _ => d == c
  | _ => false

/-- The holders once a frame of class `c` is queued on a port, or is no more. -/
def withHolder (c : NoticeClass) (ph : NoticePhase) (s : State) : State :=
  { s with notices := { s.notices with classes := modifyAt s.notices.classes c.idx (fun e => { e with phase := ph }) } }

/-- The holders once a frame has been sent. -/
def unheldBy (f : OutFrame) (s : State) : State :=
  match f with
  | .notice c _ _ => withHolder c .idle s
  | _ => s

/-- The holders once every frame on a port is lost (R201). -/
def unheldOn (p : Port) (s : State) : State :=
  { s with notices := { s.notices with
      classes := mapAll (fun e => { e with phase := if e.phase.holder = some p then .idle else e.phase })
        s.notices.classes } }

/-- One complete change. -/
inductive Change : State → State → Prop where
  | inner {u v : State} (h : Inner u v) : Change u v
  /-- A frame that is no notice joins a queue that has room. -/
  | queued (u : State) (p : Port) (f : OutFrame) (hroom : (u.line p).queue.length < Config.queuePlaces)
      (hf : ∀ c, isNoticeOf c f = false) :
      Change u (u.setLine p { u.line p with queue := (u.line p).queue ++ [f] })
  /-- A notice of a class that stands in no queue joins one that has room. -/
  | noticed (u : State) (p : Port) (c : NoticeClass) (f : OutFrame)
      (hroom : (u.line p).queue.length < Config.queuePlaces) (hf : ∀ d, isNoticeOf d f = (c == d))
      (hidle : (u.noticeClass c).phase.holder = none) :
      Change u (withHolder c (.queued p) (u.setLine p { u.line p with queue := (u.line p).queue ++ [f] }))
  /-- The frame at the head of a queue has been sent. -/
  | sent (u : State) (p : Port) (f : OutFrame) (rest : List OutFrame) (h : (u.line p).queue = f :: rest) :
      Change u (unheldBy f (u.setLine p { u.line p with queue := rest, sending := none }))
  /-- Offers leave the queue of a port, but for the frame being sent. -/
  | withdrawn (u : State) (p : Port) (serial : Word16) :
      Change u (u.setLine p (withdrawOffer serial (u.line p)))
  /-- A line break. -/
  | broken (u : State) (p : Port) (l : LineIf) (hqueue : l.queue = []) (hsending : l.sending = none)
      (hcounters : (u.line p).counters.inRange → l.counters.inRange) :
      Change u ((unheldOn p u).setLine p l)

/-- A chain of changes. -/
abbrev Changes : State → State → Prop :=
  Relation.ReflTransGen Change

theorem Inner.changes {u v : State} (h : Inner u v) : Changes u v :=
  .single (.inner h)

/-- The core at the close of a period: an unsaturated bank, and the counts of the stock lines cleared (R168). -/
def periodClosed (s : State) : State :=
  { s with
    periods := { s.periods with current := { s.periods.current with saturated := false } }
    stock := { s.stock with lines := mapAll (mapAll StockLine.periodCleared) s.stock.lines } }

/-- The lines and the notice phases cleared, with the power on or off (R17, R175). -/
def darkened (powered : Bool) (s : State) : State :=
  { s with
    powered := powered
    notices := { s.notices with classes := mapAll (fun e => { e with phase := .idle }) s.notices.classes }
    operations := LineIf.started .r9600 false
    audit := LineIf.started .r9600 false }

/-- The grants and the engine at a power-on (R112). -/
def rebooted (s : State) : State :=
  { s with
    meters := mapAll Meter.poweredOn s.meters
    engine := s.engine.poweredOn s.monitor.state }

/-- What a step does to the core of the state. -/
inductive StepOf (s t : State) : Prop where
  /-- A message, an event at a line, a timer or the arbiter. -/
  | changed (h : Changes (core s) (core t))
  /-- CLOSE-PERIOD. -/
  | closed {u : State} (h : Changes (core s) u) (h' : Changes (periodClosed u) (core t))
      (hpool : t.pool = s.pool)
  | unpowered (h : core t = darkened false (core s)) (hdark : UnpoweredLaw t)
  | poweredOn (h : Changes (rebooted (darkened true (core s))) (core t))
  | lost (h : core t = core State.reset)

/-! ## The blocks of a settled restart -/

section Settled

variable (s : State) (g : Grant)

/-- A restart that takes effect touches the records' requests and hold-offs and the engine's state, and nothing else. -/
theorem settled_cases : settled s = s ∨ s.engine.state = .quiescing ∧
    settled s = (s.setMeters (mapAll Meter.restarted s.meters)).setEngine { s.engine with state := .active } := by
  unfold settled
  split
  · next h => exact .inr ⟨h.1, rfl⟩
  · exact .inl rfl

theorem settledAfter_cases : settledAfter g s = s ∨ settledAfter g s = settled s := by
  unfold settledAfter
  split
  · exact .inr rfl
  · exact .inl rfl

/-- What a law reads of no record and not of the engine's state is the same after a restart. -/
theorem settled_keeps {L : State → Prop}
    (h : ∀ (ms : Vector Meter 192) (x : EngineState), L s → L ((s.setMeters ms).setEngine { s.engine with state := x }))
    (hs : L s) : L (settled s) := by
  obtain e | ⟨-, e⟩ := settled_cases s <;> rw [e]
  · exact hs
  · exact h _ _ hs

theorem settledAfter_keeps {L : State → Prop}
    (h : ∀ (ms : Vector Meter 192) (x : EngineState), L s → L ((s.setMeters ms).setEngine { s.engine with state := x }))
    (hs : L s) : L (settledAfter g s) := by
  obtain e | e := settledAfter_cases s g <;> rw [e]
  · exact hs
  · exact settled_keeps s h hs

/-- The record of a meter after a restart. -/
theorem settled_meter (m : MeterId) :
    (settled s).meter m = s.meter m ∨ (settled s).meter m = Meter.restarted (s.meter m) := by
  obtain e | ⟨-, e⟩ := settled_cases s <;> rw [e]
  · exact .inl rfl
  · exact .inr (mapAll_get ..)

theorem settledAfter_meter (m : MeterId) :
    (settledAfter g s).meter m = s.meter m ∨ (settledAfter g s).meter m = Meter.restarted (s.meter m) := by
  obtain e | e := settledAfter_cases s g <;> rw [e]
  · exact .inl rfl
  · exact settled_meter s m

/-- A restart leaves every grant. -/
@[simp] theorem settled_grant (m : MeterId) : ((settled s).meter m).grant = (s.meter m).grant := by
  obtain e | e := settled_meter s m
  · rw [e]
  · rw [e]; rfl

@[simp] theorem settledAfter_grant (m : MeterId) : ((settledAfter g s).meter m).grant = (s.meter m).grant := by
  obtain e | e := settledAfter_meter s g m
  · rw [e]
  · rw [e]; rfl

@[simp] theorem settled_slots : (settled s).engine.slots = s.engine.slots :=
  settled_keeps s (L := fun t => t.engine.slots = s.engine.slots) (fun _ _ h => h) rfl

@[simp] theorem settledAfter_slots : (settledAfter g s).engine.slots = s.engine.slots :=
  settledAfter_keeps s g (L := fun t => t.engine.slots = s.engine.slots) (fun _ _ h => h) rfl

@[simp] theorem settled_nextSerial : (settled s).engine.nextSerial = s.engine.nextSerial :=
  settled_keeps s (L := fun t => t.engine.nextSerial = s.engine.nextSerial) (fun _ _ h => h) rfl

@[simp] theorem settledAfter_nextSerial : (settledAfter g s).engine.nextSerial = s.engine.nextSerial :=
  settledAfter_keeps s g (L := fun t => t.engine.nextSerial = s.engine.nextSerial) (fun _ _ h => h) rfl

@[simp] theorem settled_pool : (settled s).pool = s.pool :=
  settled_keeps s (L := fun t => t.pool = s.pool) (fun _ _ h => h) rfl

@[simp] theorem settledAfter_pool : (settledAfter g s).pool = s.pool :=
  settledAfter_keeps s g (L := fun t => t.pool = s.pool) (fun _ _ h => h) rfl

@[simp] theorem settled_list : (settled s).list = s.list :=
  settled_keeps s (L := fun t => t.list = s.list) (fun _ _ h => h) rfl

@[simp] theorem settledAfter_list : (settledAfter g s).list = s.list :=
  settledAfter_keeps s g (L := fun t => t.list = s.list) (fun _ _ h => h) rfl

@[simp] theorem settled_monitor : (settled s).monitor = s.monitor :=
  settled_keeps s (L := fun t => t.monitor = s.monitor) (fun _ _ h => h) rfl

@[simp] theorem settledAfter_monitor : (settledAfter g s).monitor = s.monitor :=
  settledAfter_keeps s g (L := fun t => t.monitor = s.monitor) (fun _ _ h => h) rfl

end Settled

/-! ## From changes to steps -/

/-- A law that reads neither the lines nor the notice classes is kept by every change if the inner ones keep it. -/
theorem Change.keeps {L : State → Prop} (inner : ∀ {u v : State}, Inner u v → L u → L v)
    (lines : ∀ (u : State) (p : Port) (l : LineIf), L u → L (u.setLine p l))
    (classes : ∀ (u : State) (c : Vector NoticeEntry 8), L u → L { u with notices := { u.notices with classes := c } })
    {u v : State} (h : Change u v) (hu : L u) : L v := by
  cases h with
  | inner h => exact inner h hu
  | queued p f => exact lines u p _ hu
  | noticed p c f => exact classes _ _ (lines u p _ hu)
  | sent p f rest =>
    unfold unheldBy
    split
    · exact classes _ _ (lines u p _ hu)
    · exact lines u p _ hu
  | withdrawn p serial => exact lines u p _ hu
  | broken p l => exact lines _ p l (classes u _ hu)

theorem Changes.keeps {L : State → Prop} (change : ∀ {u v : State}, Change u v → L u → L v) {u v : State}
    (h : Changes u v) (hu : L u) : L v := by
  induction h with
  | refl => exact hu
  | tail _ h ih => exact change h ih

/-- A law that reads the core alone is kept by every step if every kind of change keeps it. -/
theorem StepOf.keeps {L : State → Prop} {s t : State} (h : StepOf s t) (hcore : ∀ s, L (core s) ↔ L s)
    (change : ∀ {u v : State}, Change u v → L u → L v) (close : ∀ u, L u → L (periodClosed u))
    (dark : ∀ b u, L u → L (darkened b u)) (reboot : ∀ u, L u → L (rebooted u)) (reset : L State.reset)
    (hs : L s) : L t := by
  rw [← hcore] at hs ⊢
  cases h with
  | changed h => exact h.keeps change hs
  | closed h h' => exact h'.keeps change (close _ (h.keeps change hs))
  | unpowered h _ => rw [h]; exact dark _ _ hs
  | poweredOn h => exact h.keeps change (reboot _ (dark _ _ hs))
  | lost h => rw [h, hcore]; exact reset

/-! ## The pool (R1, R4, R16) -/

theorem PoolMove.refl (k : Pool) (sat : Bool) : PoolMove k sat k sat :=
  ⟨id, id, id, fun _ => id⟩

theorem PoolMove.trans {k k' k'' : Pool} {a b c : Bool} (h : PoolMove k a k' b) (h' : PoolMove k' b k'' c) :
    PoolMove k a k'' c :=
  ⟨h'.range ∘ h.range, h'.recorded ∘ h.recorded, h.saturated ∘ h'.saturated,
    fun hc => h'.conserved hc ∘ h.conserved (h'.saturated hc)⟩

/-- The pool moves with every inner change. -/
theorem Inner.poolMove {u v : State} (h : Inner u v) :
    PoolMove u.pool u.periods.current.saturated v.pool v.periods.current.saturated := by
  cases h with
  | money k sat h => exact h
  | offered m g k slot next pool sat es n _ _ _ _ _ hpool => exact hpool
  | resolved m g result pool sat ms stock _ hpool =>
    exact settledAfter_keeps _ g (L := fun t => PoolMove u.pool u.periods.current.saturated t.pool
      t.periods.current.saturated) (fun _ _ h => h) hpool
  | doubted m k =>
    exact settled_keeps _ (L := fun t => PoolMove u.pool u.periods.current.saturated t.pool
      t.periods.current.saturated) (fun _ _ h => h) (.refl ..)
  | line p l => cases p <;> exact .refl ..
  | _ => exact .refl ..

/-- P and the totals in range, the condition recorded (R1, R4). -/
def PoolLaw (s : State) : Prop :=
  PoolRange s ∧ ConditionRecorded s

theorem Change.poolLaw {u v : State} (h : Change u v) : PoolLaw u → PoolLaw v :=
  h.keeps (fun h hu => ⟨h.poolMove.range hu.1, h.poolMove.recorded hu.2⟩)
    (fun u p l hu => by cases p <;> exact hu) (fun _ _ hu => hu)

/-- The money is conserved unless a figure was held at a limit (R16). -/
def ConservedUnlessHeld (s : State) : Prop :=
  s.periods.current.saturated = false → Conserved s

theorem Change.conserved {u v : State} (h : Change u v) : ConservedUnlessHeld u → ConservedUnlessHeld v :=
  h.keeps (fun h hu hv => h.poolMove.conserved hv (hu (h.poolMove.saturated hv)))
    (fun u p l hu => by cases p <;> exact hu) (fun _ _ hu => hu)

theorem reset_poolLaw : PoolLaw State.reset := by
  refine ⟨fun x hx => ?_, rfl⟩
  simp [State.reset, Pool.lost, Pool.figures] at hx
  omega

theorem StepOf.poolLaw {s t : State} (h : StepOf s t) : PoolLaw s → PoolLaw t :=
  h.keeps (fun _ => Iff.rfl) Change.poolLaw (fun _ => id) (fun _ _ => id) (fun _ => id) reset_poolLaw

theorem StepOf.conserved {s t : State} (h : StepOf s t) (hs : Conserved s)
    (ht : t.periods.current.saturated = false) : Conserved t := by
  have hs' : ConservedUnlessHeld (core s) := fun _ => hs
  cases h with
  | changed h => exact h.keeps Change.conserved hs' ht
  | closed _ _ hpool => unfold Conserved; rw [hpool]; exact hs
  | unpowered h _ =>
    have hp : t.pool = s.pool := (congrArg State.pool h :)
    unfold Conserved; rw [hp]; exact hs
  | poweredOn h => exact h.keeps Change.conserved (fun _ => hs) ht
  | lost h =>
    have hp : t.pool = Pool.lost := (congrArg State.pool h :)
    unfold Conserved; rw [hp]; rfl

/-! ## The records (R20, R31, R58, R131, R132, R142) -/

theorem RecordKept.refl (c : Prop) (r : Meter) : RecordKept c r r :=
  ⟨id, fun _ => id, id, id⟩

theorem RecordKept.trans {c : Prop} {r r' r'' : Meter} (h : RecordKept c r r') (h' : RecordKept c r' r'') :
    RecordKept c r r'' :=
  ⟨h'.fit ∘ h.fit, fun hf => h'.form (h.fit hf) ∘ h.form hf, h'.supervised ∘ h.supervised, h'.asks ∘ h.asks⟩

theorem restarted_kept (c : Prop) (r : Meter) : RecordKept c r (Meter.restarted r) where
  fit _ hp := by cases hp
  form _ := by
    rintro ⟨hout, hretiring, hdraining, hawaiting⟩
    refine ⟨fun hs => ?_, fun hs => ?_, hdraining, hawaiting⟩
    · obtain ⟨-, hg, hr, -, hsup⟩ := hout hs
      exact ⟨rfl, hg, hr, rfl, hsup⟩
    · exact ⟨rfl, (hretiring hs).2⟩
  supervised h := h
  asks _ _ hq := by cases hq

theorem doubted_kept (c : Prop) (r : Meter) : RecordKept c r (Meter.doubted r) where
  fit hf hp := by
    obtain ⟨hs, hg⟩ := hf hp
    simp [Meter.doubted, hs, hg]
  form _ := by
    rintro ⟨hout, hretiring, -, -⟩
    have hd (g : Option Grant) : (g.map Grant.doubtful).any Grant.isOffered = false := by cases g <;> rfl
    have hs : (Meter.doubted r).state ≠ .draining := by
      simp only [Meter.doubted]; split <;> simp_all
    have hkept (x : MeterState) (hx : x ≠ .awaitingReading) (h : (Meter.doubted r).state = x) : r.state = x := by
      simp only [Meter.doubted] at h; split at h
      · exact absurd h.symm hx
      · exact h
    refine ⟨fun h => ?_, fun h => ?_, fun h => absurd h hs, fun _ => hd _⟩
    · obtain ⟨hq, hg, hrest⟩ := hout (h.imp (hkept _ (by decide)) (hkept _ (by decide)))
      exact ⟨hq, by simp [Meter.doubted, hg], hrest⟩
    · refine hretiring ?_
      by_cases hd : r.state = .draining
      · exact .inl hd
      · simpa [Meter.doubted, hd] using h
  supervised := by
    rintro ⟨hrun, hactive⟩
    refine ⟨fun hs => ?_, fun hc ha => hactive hc ?_⟩
    · have ha := hrun hs
      simp [Meter.doubted, ha]
    · simp only [Meter.doubted] at ha
      split at ha
      · cases ha
      · exact ha
  asks h := h

theorem detached_kept (c : Prop) (r : Meter) :
    RecordKept c r { r with grant := r.grant.map Grant.detached } where
  fit hf hp := by
    obtain ⟨hs, hg⟩ := hf hp
    exact ⟨hs, by simp [hg]⟩
  form _ := by
    have ho : (r.grant.map Grant.detached).any Grant.isOffered = r.grant.any Grant.isOffered := by
      cases hg : r.grant with
      | none => rfl
      | some g => simp only [Option.map_some, Option.any_some, Grant.detached]; split <;> rfl
    rintro ⟨hout, hretiring, hdraining, hawaiting⟩
    refine ⟨fun hs => ?_, hretiring, fun hs => ho.trans (hdraining hs), fun hs => ho.trans (hawaiting hs)⟩
    obtain ⟨hq, hg, hrest⟩ := hout hs
    exact ⟨hq, by simp [hg], hrest⟩
  supervised h := h
  asks h := h

theorem enrolled_kept {c : Prop} (r : Meter) (b : BranchId) (ar : Nat) (labels : Word32) {supervision : Option Word32}
    (hs : c → supervision.isSome = true) : RecordKept c r (Meter.enrolled b ar labels supervision) where
  fit _ hp := by cases hp
  form _ _ := by simp [InForm, Meter.enrolled]
  supervised _ := ⟨fun _ => rfl, fun hc _ => hs hc⟩
  asks _ _ hq := by cases hq

/-- A meter that is offered a grant is ACTIVE and holds none: it has a pending request (R58), or the list found it so. -/
theorem Served.active {u : State} {m : MeterId} {x n : Nat} {source : GrantSource} {es : List Entry}
    (h : Served u m x source es n) (hf : Fit (u.meter m)) :
    (u.meter m).state = .active ∧ (u.meter m).grant = none := by
  cases h with
  | request q h => exact hf (by rw [h]; rfl)
  | entry e serial hactive hgrant => exact ⟨hactive, hgrant⟩

/-- Every record keeps its form in an inner change. -/
theorem Inner.recordKept {u v : State} (h : Inner u v) (m : MeterId) :
    RecordKept (Commissioned u) (u.meter m) (v.meter m) := by
  cases h with
  | records ms h => exact (h m).1
  | enrolled n b ar labels supervision _ hs =>
    change RecordKept _ _ ((modifyAt u.meters n _).get m)
    rw [modifyAt_get]
    split
    · exact enrolled_kept _ b ar labels hs
    · exact .refl ..
  | offered n g k slot next pool sat es i served =>
    change RecordKept _ _ ((modifyAt u.meters n _).get m)
    rw [modifyAt_get]
    split
    · next e =>
      subst e
      refine ⟨fun _ hp => ?_, fun hf _ => ?_, id, fun _ q hq => ?_⟩
      · cases hp
      · have ha : (u.meters.get m).state = .active := (served.active hf).1
        simp [InForm, ha]
      · cases hq
    · exact .refl ..
  | resolved n g result pool sat ms stock _ _ _ hothers _ hrecord =>
    have hk : RecordKept (Commissioned u) (u.meter m) (ms.get m) := by
      by_cases e : m = n
      · subst e; exact hrecord
      · rw [hothers m e]; exact .refl ..
    obtain e | e := settledAfter_meter _ g m <;> rw [e]
    · exact hk
    · exact hk.trans (restarted_kept ..)
  | doubted n k =>
    have hk : RecordKept (Commissioned u) (u.meter m) ((modifyAt u.meters n Meter.doubted).get m) := by
      rw [modifyAt_get]
      split
      · next e => subst e; exact doubted_kept ..
      · exact .refl ..
    obtain e | e := settled_meter _ m <;> rw [e]
    · exact hk
    · exact hk.trans (restarted_kept ..)
  | emptied =>
    change RecordKept _ _ ((mapAll _ u.meters).get m)
    rw [mapAll_get]
    exact detached_kept ..
  | line p l => cases p <;> exact .refl ..
  | _ => exact .refl ..

/-- R58 of every record. -/
def Fits (s : State) : Prop :=
  ∀ m, Fit (s.meter m)

/-- The records fit their requests and are in form (R20, R58, R131, R132, R142). -/
def FormLaw (s : State) : Prop :=
  Fits s ∧ RecordLaw s

theorem Change.formLaw {u v : State} (h : Change u v) : FormLaw u → FormLaw v :=
  h.keeps (fun h hu => ⟨fun m => (h.recordKept m).fit (hu.1 m), fun m => (h.recordKept m).form (hu.1 m) (hu.2 m)⟩)
    (fun u p l hu => by cases p <;> exact hu) (fun _ _ hu => hu)

/-- Whether the part has been commissioned changes with the part state alone (R173). -/
theorem Inner.supervisionLaw {u v : State} (h : Inner u v) (hu : SupervisionLaw u) : SupervisionLaw v := by
  intro m
  have hk := (h.recordKept m).supervised (hu m)
  cases h with
  | monitor k x _ hpart =>
    refine ⟨hk.1, fun hc ha => ?_⟩
    obtain hc' | hall := hpart hc
    · exact hk.2 hc' ha
    · exact hall m ha
  | resolved => rw [settledAfter_monitor]; exact hk
  | doubted => rw [settled_monitor]; exact hk
  | line p l => cases p <;> exact hk
  | _ => exact hk

theorem Change.supervisionLaw {u v : State} (h : Change u v) : SupervisionLaw u → SupervisionLaw v :=
  h.keeps Inner.supervisionLaw (fun u p l hu => by cases p <;> exact hu) (fun _ _ hu => hu)

theorem poweredOn_kept (c : Prop) (r : Meter) : RecordKept c r r.poweredOn where
  fit _ hp := by cases hp
  form hf hr := by
    obtain ⟨hout, hretiring, hdraining, hawaiting⟩ := (doubted_kept c r).form hf hr
    refine ⟨fun hs => ?_, hretiring, hdraining, hawaiting⟩
    obtain ⟨-, hrest⟩ := hout hs
    exact ⟨rfl, hrest⟩
  supervised := (doubted_kept c r).supervised
  asks _ _ hq := by cases hq

theorem rebooted_meter (u : State) (m : MeterId) : (rebooted u).meter m = (u.meter m).poweredOn :=
  mapAll_get ..

theorem reset_meter (m : MeterId) : State.reset.meter m = Meter.lost :=
  BranchTable.reset_meter m

theorem StepOf.recordLaw {s t : State} (h : StepOf s t) (hs : FormLaw s) : RecordLaw t :=
  (h.keeps (L := FormLaw) (fun _ => Iff.rfl) Change.formLaw (fun _ => id) (fun _ _ => id)
    (fun u hu => by
      refine ⟨fun m => ?_, fun m => ?_⟩ <;> rw [rebooted_meter]
      · exact (poweredOn_kept True _).fit (hu.1 m)
      · exact (poweredOn_kept True _).form (hu.1 m) (hu.2 m))
    ⟨fun m hp => by simp [reset_meter, Meter.lost] at hp, fun m => by simp [reset_meter, Meter.lost]⟩ hs).2

theorem StepOf.supervisionLaw {s t : State} (h : StepOf s t) : SupervisionLaw s → SupervisionLaw t :=
  h.keeps (fun _ => Iff.rfl) Change.supervisionLaw (fun _ => id) (fun _ _ => id)
    (fun u hu m => by rw [rebooted_meter]; exact (poweredOn_kept _ _).supervised (hu m))
    (fun m => by simp [reset_meter, Meter.lost])

theorem fits_of_orderLaw {s : State} (h : OrderLaw s) : Fits s :=
  fun m => h.1 m

/-! ## The grants (R87, R106, R107) -/

/-- A grant as it stood, or DOUBTFUL since, or its entry number taken from it. -/
structure GrantKept (g h : Grant) : Prop where
  serial : h.serial = g.serial
  amount : h.amount = g.amount
  source : h.source = g.source ∨ h.source = .list none

theorem GrantKept.refl (g : Grant) : GrantKept g g :=
  ⟨rfl, rfl, .inl rfl⟩

theorem grantKept_detached (g : Grant) : GrantKept g g.detached := by
  unfold Grant.detached
  split
  · exact ⟨rfl, rfl, .inr rfl⟩
  · exact .refl g

theorem grantKept_doubtful (g : Grant) : GrantKept g g.doubtful :=
  ⟨rfl, rfl, .inl rfl⟩

/-- Every grant of a record stood there before. -/
def GrantFrom (r r' : Meter) : Prop :=
  ∀ h, r'.grant = some h → ∃ g, r.grant = some g ∧ GrantKept g h

theorem GrantFrom.of_eq {r r' : Meter} (e : r'.grant = r.grant) : GrantFrom r r' :=
  fun h hh => ⟨h, e ▸ hh, .refl h⟩

theorem GrantFrom.of_none {r r' : Meter} (e : r'.grant = none) : GrantFrom r r' :=
  fun h hh => by rw [e] at hh; cases hh

theorem GrantFrom.of_map {r r' : Meter} {f : Grant → Grant} (e : r'.grant = r.grant.map f)
    (hf : ∀ g, GrantKept g (f g)) : GrantFrom r r' := by
  intro h hh
  rw [e] at hh
  obtain ⟨g, hg, rfl⟩ := Option.map_eq_some_iff.mp hh
  exact ⟨g, hg, hf g⟩

/-- The one change that brings a grant: what it offers, to whom, and what else the laws read of it. -/
structure Offer (u v : State) (m : MeterId) (g : Grant) (k : SlotId) (slot : Slot) : Prop where
  free : u.engine.slots.get k = none
  phase : g.phase = .offered k
  names : slot.meter = m ∧ slot.serial = g.serial ∧ slot.amount = g.amount
  slots : v.engine.slots = modifyAt u.engine.slots k (fun _ => some slot)
  serial : FreshSerial u g.serial v.engine.nextSerial
  grant : (v.meter m).grant = some g
  others : ∀ n, n ≠ m → v.meter n = u.meter n
  served : Served u m g.amount g.source v.list.entries v.list.next
  held : v.pool.g = raiseFigure u.pool.g g.amount

theorem Offer.of_offered {u : State} {m : MeterId} {g : Grant} {k : SlotId} {slot : Slot} {next : Word16}
    {pool : Pool} {sat : Bool} {es : List Entry} {n : Nat} (served : Served u m g.amount g.source es n)
    (hfree : u.engine.slots.get k = none) (hphase : g.phase = .offered k)
    (hslot : slot.meter = m ∧ slot.serial = g.serial ∧ slot.amount = g.amount)
    (hserial : FreshSerial u g.serial next) (hg : pool.g = raiseFigure u.pool.g g.amount) :
    Offer u (withPool pool sat (withEntries es n (modMeter m (fun r => { r with pendingReq := none, grant := some g })
      (u.setEngine { u.engine with slots := modifyAt u.engine.slots k (fun _ => some slot), nextSerial := next }))))
      m g k slot where
  free := hfree
  phase := hphase
  names := hslot
  slots := rfl
  serial := hserial
  grant := congrArg Meter.grant (modifyAt_get_self ..)
  others _ hn := modifyAt_get_ne _ _ hn
  served := served
  held := hg

theorem enrolled_grantFrom (u : State) (n m : MeterId) (b : BranchId) (ar : Nat) (labels : Word32)
    (supervision : Option Word32) :
    GrantFrom (u.meter m) ((modMeter n (fun _ => Meter.enrolled b ar labels supervision) u).meter m) := by
  rw [modMeter_meter]
  split
  · exact .of_none rfl
  · exact .of_eq rfl

theorem doubted_grantFrom (u : State) (n m : MeterId) (k : SlotId) :
    GrantFrom (u.meter m) ((settled (modMeter n Meter.doubted (freeSlot k u))).meter m) := by
  have hm : ((settled (modMeter n Meter.doubted (freeSlot k u))).meter m).grant =
      (if m = n then Meter.doubted (u.meter n) else u.meter m).grant := by
    rw [settled_grant, modMeter_meter]
    rfl
  split at hm
  · next e => subst e; exact .of_map hm grantKept_doubtful
  · exact .of_eq hm

/-- An inner change offers a grant, or every grant after it stood before it and the next serial stays. -/
theorem Inner.grants {u v : State} (h : Inner u v) :
    (∃ m g k slot, Offer u v m g k slot) ∨
      v.engine.nextSerial = u.engine.nextSerial ∧ ∀ m, GrantFrom (u.meter m) (v.meter m) := by
  cases h with
  | offered m g k slot next pool sat es n served hfree hphase hslot hserial _ hg =>
    exact .inl ⟨m, g, k, slot, .of_offered served hfree hphase hslot hserial hg⟩
  | records ms h => exact .inr ⟨rfl, fun m => .of_eq (h m).2⟩
  | enrolled n b ar labels supervision => exact .inr ⟨rfl, fun m => enrolled_grantFrom u n m b ar labels supervision⟩
  | resolved n g result pool sat ms stock _ _ _ hothers hgrant =>
    refine .inr ⟨settledAfter_nextSerial .., fun m => ?_⟩
    by_cases e : m = n
    · subst e
      exact .of_none ((settledAfter_grant ..).trans hgrant)
    · exact .of_eq ((settledAfter_grant ..).trans (congrArg Meter.grant (hothers m e)))
  | doubted n k => exact .inr ⟨settled_nextSerial _, fun m => doubted_grantFrom u n m k⟩
  | emptied =>
    exact .inr ⟨rfl, fun m => .of_map (congrArg Meter.grant (mapAll_get ..)) grantKept_detached⟩
  | line p l => cases p <;> exact .inr ⟨rfl, fun m => .of_eq rfl⟩
  | _ => exact .inr ⟨rfl, fun m => .of_eq rfl⟩

theorem serialLaw_of_grantFrom {u v : State} (hn : v.engine.nextSerial = u.engine.nextSerial)
    (hg : ∀ m, GrantFrom (u.meter m) (v.meter m)) : SerialLaw u → SerialLaw v := by
  rintro ⟨hnext, hzero, huniq⟩
  refine ⟨hn ▸ hnext, fun m h hh => ?_, fun m n g h hg' hh e => ?_⟩
  · obtain ⟨g, hg, hk⟩ := hg m h hh
    rw [hk.serial]
    exact hzero m g hg
  · obtain ⟨g₀, hg₀, hk⟩ := hg m g hg'
    obtain ⟨h₀, hh₀, hk'⟩ := hg n h hh
    exact huniq m n g₀ h₀ hg₀ hh₀ (by rw [← hk.serial, e, hk'.serial])

theorem Offer.serialLaw {u v : State} {m : MeterId} {g : Grant} {k : SlotId} {slot : Slot} (h : Offer u v m g k slot) :
    SerialLaw u → SerialLaw v := by
  rintro ⟨hnext, hzero, huniq⟩
  obtain ⟨hserial, hnext', hfresh⟩ := h.serial hnext
  have hcases (n : MeterId) (g' : Grant) (hn : (v.meter n).grant = some g') :
      (n = m ∧ g' = g) ∨ n ≠ m ∧ (u.meter n).grant = some g' := by
    by_cases e : n = m
    · subst e
      rw [h.grant] at hn
      cases hn
      exact .inl ⟨rfl, rfl⟩
    · rw [h.others n e] at hn
      exact .inr ⟨e, hn⟩
  refine ⟨hnext', fun n g' hn => ?_, fun n n' g₁ g₂ h₁ h₂ e => ?_⟩
  · obtain ⟨-, rfl⟩ | ⟨-, hn⟩ := hcases n g' hn
    · exact hserial
    · exact hzero n g' hn
  · obtain ⟨rfl, rfl⟩ | ⟨-, hn₁⟩ := hcases n g₁ h₁
    · obtain ⟨rfl, rfl⟩ | ⟨-, hn₂⟩ := hcases n' g₂ h₂
      · rfl
      · exact absurd e.symm (hfresh n' g₂ hn₂)
    · obtain ⟨rfl, rfl⟩ | ⟨-, hn₂⟩ := hcases n' g₂ h₂
      · exact absurd e (hfresh n g₁ hn₁)
      · exact huniq n n' g₁ g₂ hn₁ hn₂ e

theorem Change.serialLaw {u v : State} (h : Change u v) : SerialLaw u → SerialLaw v := by
  refine h.keeps (fun h hu => ?_) (fun u p l hu => by cases p <;> exact hu) (fun _ _ hu => hu)
  obtain ⟨m, g, k, slot, ho⟩ | ⟨hn, hg⟩ := h.grants
  · exact ho.serialLaw hu
  · exact serialLaw_of_grantFrom hn hg hu

theorem rebooted_grantFrom (u : State) (m : MeterId) : GrantFrom (u.meter m) ((rebooted u).meter m) :=
  .of_map (by rw [rebooted_meter]; rfl) grantKept_doubtful

theorem reset_grant (m : MeterId) : (State.reset.meter m).grant = none := by
  rw [reset_meter]; rfl

theorem reset_serialLaw : SerialLaw State.reset :=
  ⟨by decide, fun _ _ hg => absurd hg (by simp [reset_grant]), fun _ _ _ _ hg => absurd hg (by simp [reset_grant])⟩

theorem StepOf.serialLaw {s t : State} (h : StepOf s t) : SerialLaw s → SerialLaw t :=
  h.keeps (fun _ => Iff.rfl) Change.serialLaw (fun _ => id) (fun _ _ => id)
    (fun u => serialLaw_of_grantFrom rfl (rebooted_grantFrom u)) reset_serialLaw

/-! ## The amounts (R54, R80, R114) -/

theorem heldInG_of_grantFrom {r r' : Meter} (h : GrantFrom r r') : heldInG r' ≤ heldInG r := by
  unfold heldInG
  cases hg : r'.grant with
  | none => exact Nat.zero_le _
  | some g' =>
    obtain ⟨g, hr, hk⟩ := h g' hg
    rw [hr]
    exact hk.amount.le

/-- A grant takes no more than the request or the entry it serves asked for (R75, R79). -/
theorem Served.amount_le {u : State} {m : MeterId} {x n : Nat} {source : GrantSource} {es : List Entry}
    (h : Served u m x source es n) (hu : AmountLaw u) : x ≤ Config.maxGrant := by
  cases h with
  | request q hq hx => exact hx.trans ((hu.1 m).2 q hq)
  | entry e serial _ _ he _ _ hx => exact hx.trans (hu.2 e (List.mem_of_getElem? he))

theorem amounts_modify {es : List Entry} (i : Nat) {f : Entry → Entry} (hf : ∀ e, (f e).q = e.q)
    (h : ∀ e ∈ es, e.q ≤ Config.maxGrant) : ∀ e ∈ es.modify i f, e.q ≤ Config.maxGrant := by
  intro e he
  obtain ⟨j, hj⟩ := List.mem_iff_getElem?.mp he
  rw [List.getElem?_modify] at hj
  obtain ⟨e₀, he₀, rfl⟩ := Option.map_eq_some_iff.mp hj
  have hle := h e₀ (List.mem_of_getElem? he₀)
  split
  · rw [hf]; exact hle
  · exact hle

theorem Served.entries_amounts {u : State} {m : MeterId} {x n : Nat} {source : GrantSource} {es : List Entry}
    (h : Served u m x source es n) (hu : ∀ e ∈ u.list.entries, e.q ≤ Config.maxGrant) :
    ∀ e ∈ es, e.q ≤ Config.maxGrant := by
  cases h with
  | request => exact hu
  | entry => exact amounts_modify _ (fun _ => rfl) hu

theorem entriesAfter_amounts (source : GrantSource) (result : GrantResult) {es : List Entry}
    (h : ∀ e ∈ es, e.q ≤ Config.maxGrant) : ∀ e ∈ entriesAfter source result es, e.q ≤ Config.maxGrant := by
  unfold entriesAfter
  split
  · exact amounts_modify _ (fun _ => rfl) h
  · exact h

theorem Inner.entries_amounts {u v : State} (h : Inner u v) (hu : ∀ e ∈ u.list.entries, e.q ≤ Config.maxGrant) :
    ∀ e ∈ v.list.entries, e.q ≤ Config.maxGrant := by
  cases h with
  | offered m g k slot next pool sat es n served => exact served.entries_amounts hu
  | resolved m g result => rw [settledAfter_list]; exact entriesAfter_amounts _ _ hu
  | doubted => rw [settled_list]; exact hu
  | entries es n h => exact h.amounts hu
  | emptied => exact fun e he => absurd he List.not_mem_nil
  | line p l => cases p <;> exact hu
  | _ => exact hu

theorem Inner.amountLaw {u v : State} (h : Inner u v) (hu : AmountLaw u) : AmountLaw v := by
  refine ⟨fun m => ⟨?_, (h.recordKept m).asks (hu.1 m).2⟩, h.entries_amounts hu.2⟩
  obtain ⟨n, g, k, slot, ho⟩ | ⟨-, hg⟩ := h.grants
  · by_cases e : m = n
    · subst e
      rw [heldInG, ho.grant]
      exact ho.served.amount_le hu
    · rw [ho.others m e]
      exact (hu.1 m).1
  · exact (heldInG_of_grantFrom (hg m)).trans (hu.1 m).1

theorem Change.amountLaw {u v : State} (h : Change u v) : AmountLaw u → AmountLaw v :=
  h.keeps Inner.amountLaw (fun u p l hu => by cases p <;> exact hu) (fun _ _ hu => hu)

theorem rebooted_amountLaw {u : State} (hu : AmountLaw u) : AmountLaw (rebooted u) := by
  refine ⟨fun m => ⟨?_, ?_⟩, hu.2⟩
  · exact (heldInG_of_grantFrom (rebooted_grantFrom u m)).trans (hu.1 m).1
  · rw [rebooted_meter]
    exact (poweredOn_kept True _).asks (hu.1 m).2

theorem reset_amountLaw : AmountLaw State.reset :=
  ⟨fun m => by rw [reset_meter]; exact ⟨Nat.zero_le _, fun r hr => by cases hr⟩,
    fun e he => absurd he List.not_mem_nil⟩

theorem StepOf.amountLaw {s t : State} (h : StepOf s t) : AmountLaw s → AmountLaw t :=
  h.keeps (fun _ => Iff.rfl) Change.amountLaw (fun _ => id) (fun _ _ => id) (fun _ => rebooted_amountLaw)
    reset_amountLaw

/-! ## G is the sum of the grants (R106) -/

/-- The sum of the amounts of all unresolved grants. -/
def heldTotal (ms : Vector Meter 192) : Nat :=
  (ms.toList.map heldInG).sum

theorem heldTotal_eq_sum (ms : Vector Meter 192) : heldTotal ms = ∑ m : MeterId, heldInG (ms.get m) := by
  rw [heldTotal, toList_eq_map_get, List.map_map, Fin.sum_univ_def]
  rfl

theorem heldTotal_congr {v w : Vector Meter 192} (h : ∀ m, heldInG (w.get m) = heldInG (v.get m)) :
    heldTotal w = heldTotal v := by
  simp only [heldTotal_eq_sum, h]

/-- A change of one record. -/
theorem heldTotal_update {v w : Vector Meter 192} (m : MeterId) (h : ∀ n, n ≠ m → heldInG (w.get n) = heldInG (v.get n)) :
    heldTotal w + heldInG (v.get m) = heldTotal v + heldInG (w.get m) := by
  simp only [heldTotal_eq_sum]
  rw [← Finset.add_sum_erase _ _ (Finset.mem_univ m), ← Finset.add_sum_erase Finset.univ
    (fun n => heldInG (v.get n)) (Finset.mem_univ m)]
  have he : ∑ n ∈ Finset.univ.erase m, heldInG (w.get n) = ∑ n ∈ Finset.univ.erase m, heldInG (v.get n) :=
    Finset.sum_congr rfl fun n hn => h n (Finset.ne_of_mem_erase hn)
  rw [he]
  ring

/-- 192 grants of at most 99,999,999 stay far below 2^48. -/
theorem heldTotal_le {ms : Vector Meter 192} (h : ∀ m, heldInG (ms.get m) ≤ Config.maxGrant) :
    heldTotal ms ≤ Config.maxFigure := by
  rw [heldTotal_eq_sum]
  have hle := Finset.sum_le_card_nsmul Finset.univ (fun m => heldInG (ms.get m)) _ fun m _ => h m
  simp only [Finset.card_univ, Fintype.card_fin, smul_eq_mul] at hle
  exact hle.trans (by decide)

theorem heldInG_of_map {r r' : Meter} {f : Grant → Grant} (e : r'.grant = r.grant.map f)
    (hf : ∀ g, GrantKept g (f g)) : heldInG r' = heldInG r := by
  unfold heldInG
  rw [e]
  cases r.grant with
  | none => rfl
  | some g => exact (hf g).amount

theorem heldInG_of_grant_eq {r r' : Meter} (e : r'.grant = r.grant) : heldInG r' = heldInG r := by
  rw [heldInG, e, heldInG]

theorem heldInG_of_none {r : Meter} (h : r.grant = none) : heldInG r = 0 := by
  rw [heldInG, h]; rfl

theorem heldInG_of_some {r : Meter} {g : Grant} (h : r.grant = some g) : heldInG r = g.amount := by
  rw [heldInG, h]; rfl

theorem settled_heldTotal (s : State) : heldTotal (settled s).meters = heldTotal s.meters :=
  heldTotal_congr fun m => heldInG_of_grant_eq (settled_grant s m)

theorem settledAfter_heldTotal (g : Grant) (s : State) : heldTotal (settledAfter g s).meters = heldTotal s.meters :=
  heldTotal_congr fun m => heldInG_of_grant_eq (settledAfter_grant s g m)

/-- The laws under which G stays the sum of the grants. -/
def TotalLaw (s : State) : Prop :=
  FormLaw s ∧ AmountLaw s ∧ GrantTotal s

/-- A record that is not enrolled holds no grant (R142). -/
theorem noGrant_of_vacant {s : State} (hs : RecordLaw s) {m : MeterId}
    (h : (s.meter m).state = .vacant ∨ (s.meter m).state = .retired) : (s.meter m).grant = none := by
  obtain ⟨-, hg, -⟩ := (hs m).1 h
  exact hg

theorem Inner.grantTotal {u v : State} (h : Inner u v) (hu : TotalLaw u) : GrantTotal v := by
  obtain ⟨⟨hfits, hform⟩, hamount, htotal⟩ := hu
  have ha : AmountLaw v := h.amountLaw hamount
  have hbound : heldTotal v.meters ≤ Config.maxFigure := heldTotal_le fun m => (ha.1 m).1
  change v.pool.g = heldTotal v.meters
  change u.pool.g = heldTotal u.meters at htotal
  cases h with
  | money k sat h hg => exact hg.trans htotal
  | records ms h =>
    exact htotal.trans (heldTotal_congr fun m => heldInG_of_grant_eq (h m).2).symm
  | enrolled n b ar labels supervision h =>
    refine htotal.trans (heldTotal_congr fun m => ?_).symm
    rw [modMeter_meters, modifyAt_get]
    split
    · next e =>
      subst e
      exact (heldInG_of_none (noGrant_of_vacant hform h)).symm
    · rfl
  | offered n g k slot next pool sat es i served _ _ _ _ _ hg =>
    have hnone : heldInG (u.meters.get n) = 0 := heldInG_of_none (served.active (hfits n)).2
    have hsome : heldInG ((modifyAt u.meters n fun r => { r with pendingReq := none, grant := some g }).get n) =
        g.amount := heldInG_of_some (by rw [modifyAt_get_self])
    have hsum := heldTotal_update (v := u.meters)
      (w := modifyAt u.meters n fun r => { r with pendingReq := none, grant := some g }) n
      fun i hi => by rw [modifyAt_get_ne _ _ hi]
    rw [hnone, hsome, Nat.add_zero] at hsum
    refine Eq.trans ?_ hsum.symm
    change pool.g = _
    rw [hg, raiseFigure, raiseTo_eq_min, htotal]
    exact min_eq_left (hsum.symm.le.trans hbound)
  | resolved n g result pool sat ms stock hheld _ hg hothers hgrant =>
    have hsum := heldTotal_update (v := u.meters) (w := ms) n fun i hi => congrArg heldInG (hothers i hi)
    rw [heldInG_of_none hgrant, show heldInG (u.meters.get n) = _ from heldInG_of_some hheld] at hsum
    rw [settledAfter_heldTotal, settledAfter_pool]
    change pool.g = heldTotal ms
    rw [hg, lowerFigure]
    omega
  | doubted n k =>
    rw [settled_heldTotal, settled_pool]
    refine htotal.trans (heldTotal_congr fun m => ?_).symm
    rw [modMeter_meters, modifyAt_get]
    split
    · next e => subst e; exact heldInG_of_map rfl grantKept_doubtful
    · rfl
  | emptied =>
    refine htotal.trans (heldTotal_congr fun m => ?_).symm
    exact heldInG_of_map (congrArg Meter.grant (mapAll_get ..)) grantKept_detached
  | line p l => cases p <;> exact htotal
  | _ => exact htotal

theorem Change.totalLaw {u v : State} (h : Change u v) (hu : TotalLaw u) : TotalLaw v := by
  refine ⟨h.formLaw hu.1, h.amountLaw hu.2.1, ?_⟩
  cases h with
  | inner h => exact h.grantTotal hu
  | sent p f rest => cases f <;> cases p <;> exact hu.2.2
  | queued p | noticed p | withdrawn p | broken p => cases p <;> exact hu.2.2

theorem rebooted_formLaw {u : State} (hu : FormLaw u) : FormLaw (rebooted u) := by
  refine ⟨fun m => ?_, fun m => ?_⟩ <;> rw [rebooted_meter]
  · exact (poweredOn_kept True _).fit (hu.1 m)
  · exact (poweredOn_kept True _).form (hu.1 m) (hu.2 m)

theorem reset_formLaw : FormLaw State.reset :=
  ⟨fun m hp => by simp [reset_meter, Meter.lost] at hp, fun m => by simp [reset_meter, Meter.lost]⟩

theorem reset_grantTotal : GrantTotal State.reset := by
  change 0 = heldTotal State.reset.meters
  rw [heldTotal_eq_sum]
  exact (Finset.sum_eq_zero fun m _ => heldInG_of_none (reset_grant m)).symm

theorem StepOf.grantTotal {s t : State} (h : StepOf s t) (hs : TotalLaw s) : GrantTotal t :=
  (h.keeps (fun _ => Iff.rfl) Change.totalLaw (fun _ => id) (fun _ _ => id)
    (fun u hu => ⟨rebooted_formLaw hu.1, rebooted_amountLaw hu.2.1,
      hu.2.2.trans (heldTotal_congr (w := (rebooted u).meters) fun m => by
        change heldInG ((rebooted u).meter m) = _
        rw [rebooted_meter]
        exact heldInG_of_map rfl grantKept_doubtful).symm⟩)
    ⟨reset_formLaw, reset_amountLaw, reset_grantTotal⟩ hs).2.2

/-! ## Slots and OFFERED grants (R86, R107) -/

/-- The laws under which the slots stay those of the OFFERED grants. -/
def OccupancyLaw (s : State) : Prop :=
  FormLaw s ∧ SlotLaw s

theorem slotLaw_congr {s t : State} (hm : ∀ m, (t.meter m).grant = (s.meter m).grant)
    (hs : t.engine.slots = s.engine.slots) : SlotLaw t ↔ SlotLaw s := by
  simp only [SlotLaw, hm, hs]

theorem Offer.slotLaw {u v : State} {m : MeterId} {g : Grant} {k : SlotId} {slot : Slot} (h : Offer u v m g k slot)
    (hnone : (u.meter m).grant = none) : SlotLaw u → SlotLaw v := by
  rintro ⟨hheld, hslotted⟩
  obtain ⟨hmeter, hserial, hamount⟩ := h.names
  refine ⟨fun j e he => ?_, fun n g' j hg hj => ?_⟩
  · rw [h.slots, modifyAt_get] at he
    split at he
    · next ej =>
      cases he
      exact ⟨g, hmeter ▸ h.grant, ej ▸ h.phase, hserial.symm, hamount.symm⟩
    · obtain ⟨g', hg', hrest⟩ := hheld j e he
      have hne : e.meter ≠ m := fun em => by rw [em, hnone] at hg'; cases hg'
      exact ⟨g', by rw [h.others _ hne]; exact hg', hrest⟩
  · rw [h.slots, modifyAt_get]
    by_cases en : n = m
    · subst en
      rw [h.grant] at hg
      cases hg
      rw [h.phase] at hj
      cases hj
      exact ⟨slot, if_pos rfl, hmeter⟩
    · rw [h.others n en] at hg
      obtain ⟨e, he, hm⟩ := hslotted n g' j hg hj
      have hne : j ≠ k := fun ej => by rw [ej, h.free] at he; cases he
      exact ⟨e, by rw [if_neg hne]; exact he, hm⟩

/-- A grant loses its slot: the record no longer holds it OFFERED, and where it was, its slot is free. -/
theorem slotLaw_freed {u v : State} {m : MeterId} (hothers : ∀ n, n ≠ m → (v.meter n).grant = (u.meter n).grant)
    (hgrant : ∀ h j, (v.meter m).grant = some h → h.phase ≠ .offered j)
    (hslots : ∀ j, v.engine.slots.get j =
      if ∃ g, (u.meter m).grant = some g ∧ g.phase = .offered j then none else u.engine.slots.get j) :
    SlotLaw u → SlotLaw v := by
  rintro ⟨hheld, hslotted⟩
  refine ⟨fun j e he => ?_, fun n g j hg hj => ?_⟩
  · rw [hslots] at he
    split at he
    · cases he
    · next hj =>
      obtain ⟨g, hg, hphase, hrest⟩ := hheld j e he
      have hne : e.meter ≠ m := fun em => hj ⟨g, em ▸ hg, hphase⟩
      exact ⟨g, by rw [hothers _ hne]; exact hg, hphase, hrest⟩
  · have hne : n ≠ m := fun en => hgrant g j (en ▸ hg) hj
    rw [hothers n hne] at hg
    obtain ⟨e, he, hm⟩ := hslotted n g j hg hj
    refine ⟨e, ?_, hm⟩
    rw [hslots, if_neg]
    · exact he
    · rintro ⟨g', hg', hj'⟩
      obtain ⟨e', he', hm'⟩ := hslotted m g' j hg' hj'
      rw [he] at he'
      cases he'
      exact hne (hm.symm.trans hm')

theorem Inner.slotLaw {u v : State} (h : Inner u v) (hu : OccupancyLaw u) : SlotLaw v := by
  obtain ⟨⟨hfits, hform⟩, hslot⟩ := hu
  cases h with
  | records ms h => exact (slotLaw_congr (s := u) (t := u.setMeters ms) (fun m => (h m).2) rfl).mpr hslot
  | enrolled n b ar labels supervision h =>
    refine (slotLaw_congr (s := u) (t := modMeter n _ u) (fun m => ?_) rfl).mpr hslot
    rw [modMeter_meter]
    split
    · next e => subst e; exact (noGrant_of_vacant hform h).symm
    · rfl
  | offered m g k slot next pool sat es n served hfree hphase hslot' hserial _ hg =>
    exact (Offer.of_offered served hfree hphase hslot' hserial hg).slotLaw (served.active (hfits m)).2 hslot
  | resolved n g result pool sat ms stock hheld _ _ hothers hgrant =>
    refine slotLaw_freed (m := n) (fun i hi => ?_) (fun h j hh => ?_) (fun j => ?_) hslot
    · exact (settledAfter_grant ..).trans (congrArg Meter.grant (hothers i hi))
    · rw [settledAfter_grant] at hh
      cases hgrant.symm.trans hh
    · rw [settledAfter_slots]
      change (slotsWithout g u.engine.slots).get j = _
      simp only [hheld, Option.some.injEq, exists_eq_left', slotsWithout]
      cases hp : g.phase with
      | offered k => simp [modifyAt_get, eq_comm]
      | doubtful => simp
  | doubted n k hk =>
    have hj (j : SlotId) : (∃ g, (u.meter n).grant = some g ∧ g.phase = .offered j) ↔ j = k := by
      obtain ⟨g, hg, hp⟩ | ⟨e, he, rfl⟩ := hk
      · simp [hg, hp, eq_comm]
      · obtain ⟨g, hg, hp, -⟩ := hslot.1 k e he
        simp [hg, hp, eq_comm]
    refine slotLaw_freed (m := n) (fun i hi => ?_) (fun h j hh => ?_) (fun j => ?_) hslot
    · exact (settled_grant ..).trans (congrArg Meter.grant (modifyAt_get_ne _ _ hi))
    · rw [settled_grant] at hh
      change ((modifyAt u.meters n Meter.doubted).get n).grant = _ at hh
      rw [modifyAt_get_self] at hh
      obtain ⟨g, -, rfl⟩ := Option.map_eq_some_iff.mp hh
      exact fun hp => by cases hp
    · rw [settled_slots, if_congr (hj j) rfl rfl]
      exact modifyAt_get ..
  | emptied =>
    have hget (m : MeterId) : (mapAll (fun r : Meter => { r with grant := r.grant.map Grant.detached }) u.meters).get m =
        { u.meter m with grant := (u.meter m).grant.map Grant.detached } := mapAll_get ..
    have hd (g : Grant) : g.detached.phase = g.phase ∧ g.detached.serial = g.serial ∧ g.detached.amount = g.amount := by
      unfold Grant.detached; split <;> exact ⟨rfl, rfl, rfl⟩
    obtain ⟨hheld, hslotted⟩ := hslot
    refine ⟨fun k e he => ?_, fun m g k hg hp => ?_⟩
    · obtain ⟨g, hg, hp, hs, ha⟩ := hheld k e he
      obtain ⟨hp', hs', ha'⟩ := hd g
      refine ⟨g.detached, ?_, hp'.trans hp, hs'.trans hs, ha'.trans ha⟩
      refine (congrArg Meter.grant (hget e.meter)).trans ?_
      simp only [hg, Option.map_some]
    · obtain ⟨g', hg', rfl⟩ := Option.map_eq_some_iff.mp ((congrArg Meter.grant (hget m)).symm.trans hg)
      exact hslotted m g' k hg' ((hd g').1.symm.trans hp)
  | line p l => cases p <;> exact hslot
  | _ => exact hslot

theorem Change.occupancyLaw {u v : State} (h : Change u v) (hu : OccupancyLaw u) : OccupancyLaw v := by
  refine ⟨h.formLaw hu.1, ?_⟩
  cases h with
  | inner h => exact h.slotLaw hu
  | sent p f rest => cases f <;> cases p <;> exact hu.2
  | queued p | noticed p | withdrawn p | broken p => cases p <;> exact hu.2

theorem rebooted_slotLaw (u : State) : SlotLaw (rebooted u) := by
  refine ⟨fun k e he => ?_, fun m g k hg hp => ?_⟩
  · change (Vector.replicate 8 none).get k = some e at he
    simp [get_eq_getElem] at he
  · rw [rebooted_meter] at hg
    obtain ⟨g', -, rfl⟩ := Option.map_eq_some_iff.mp hg
    cases hp

theorem reset_slotLaw : SlotLaw State.reset := by
  refine ⟨fun k e he => ?_, fun m g k hg => by rw [reset_grant] at hg; cases hg⟩
  change (Vector.replicate 8 none).get k = some e at he
  simp [get_eq_getElem] at he

theorem StepOf.slotLaw {s t : State} (h : StepOf s t) (hs : OccupancyLaw s) : SlotLaw t :=
  (h.keeps (fun _ => Iff.rfl) Change.occupancyLaw (fun _ => id) (fun _ _ => id)
    (fun u hu => ⟨rebooted_formLaw hu.1, rebooted_slotLaw u⟩) ⟨reset_formLaw, reset_slotLaw⟩ hs).2

/-! ## The engine (R105, R108, R109) -/

theorem occupied_pos_iff (s : State) : 0 < occupiedSlots s ↔ ∃ k e, s.engine.slots.get k = some e := by
  rw [occupiedSlots, List.countP_pos_iff, toList_eq_map_get]
  simp [Option.isSome_iff_exists]

/-- A restart that has taken effect leaves the engine ACTIVE; otherwise nothing is owed. -/
theorem engineLaw_settled {s : State} (h : s.monitor.state = .inService ↔ s.engine.state ≠ .stopped) :
    EngineLaw (settled s) := by
  unfold settled
  split
  · next hq => exact ⟨iff_of_true (h.mpr (by simp [hq.1])) (by simp), fun hx => by cases hx⟩
  · next hn => exact ⟨h, fun hq => Nat.pos_of_ne_zero fun h0 => hn ⟨hq, h0⟩⟩

theorem Inner.engineLaw {u v : State} (h : Inner u v) (hu : EngineLaw u) : EngineLaw v := by
  obtain ⟨hfits, hquiet⟩ := hu
  cases h with
  | offered m g k slot =>
    exact ⟨hfits, fun _ => (occupied_pos_iff _).mpr ⟨k, slot, modifyAt_get_self ..⟩⟩
  | resolved m g =>
    unfold settledAfter
    split
    · exact engineLaw_settled hfits
    · next ho =>
      have hp : slotsWithout g u.engine.slots = u.engine.slots := by
        unfold slotsWithout
        split
        · next hp => simp [Grant.isOffered, hp] at ho
        · rfl
      rw [hp]
      exact ⟨hfits, hquiet⟩
  | doubted => exact engineLaw_settled hfits
  | monitor k x _ _ hfits' hquiet' =>
    exact ⟨hfits' hfits, fun hx => (hquiet' hx).elim hquiet id⟩
  | line p l => cases p <;> exact ⟨hfits, hquiet⟩
  | _ => exact ⟨hfits, hquiet⟩

theorem Change.engineLaw {u v : State} (h : Change u v) : EngineLaw u → EngineLaw v :=
  h.keeps Inner.engineLaw (fun u p l hu => by cases p <;> exact hu) (fun _ _ hu => hu)

theorem rebooted_engineLaw (u : State) : EngineLaw (rebooted u) := by
  by_cases h : u.monitor.state = .inService <;>
    simp [EngineLaw, rebooted, Engine.poweredOn, h]

theorem StepOf.engineLaw {s t : State} (h : StepOf s t) : EngineLaw s → EngineLaw t :=
  h.keeps (fun _ => Iff.rfl) Change.engineLaw (fun _ => id) (fun _ _ => id) (fun u _ => rebooted_engineLaw u)
    ⟨by decide, fun h => by cases h⟩

/-! ## The lines (R178, R200, R202) -/

/-- An inner change touches at most one line, and of it neither the queue nor a transmission under way. -/
theorem Inner.lines {u v : State} (h : Inner u v) : (∀ q, v.line q = u.line q) ∨
    ∃ p l, (∀ q, v.line q = if q = p then l else u.line q) ∧ v.monitor = u.monitor ∧ l.queue = (u.line p).queue ∧
      (∀ bytes, l.sending = some bytes → (u.line p).sending = some bytes ∨
        ∃ f rest, l.queue = f :: rest ∧ bytes = f.bytes) ∧
      ((u.line p).counters.inRange → l.counters.inRange) := by
  cases h with
  | line p l hqueue hsending hcounters =>
    exact .inr ⟨p, l, fun q => setLine_line u p q l, State.setLine_monitor .., hqueue, hsending, hcounters⟩
  | resolved m g =>
    exact .inl fun q => settledAfter_keeps _ g (L := fun t => t.line q = u.line q) (fun _ _ h => by cases q <;> exact h)
      (by cases q <;> rfl)
  | doubted =>
    exact .inl fun q => settled_keeps _ (L := fun t => t.line q = u.line q) (fun _ _ h => by cases q <;> exact h)
      (by cases q <;> rfl)
  | _ => exact .inl fun q => by cases q <;> rfl

/-- What is so of both lines is so after one of them is replaced by a line of which it is so. -/
theorem lines_setLine {P : LineIf → Prop} {u : State} (hu : ∀ q, P (u.line q)) (p : Port) {l : LineIf} (hl : P l)
    (q : Port) : P ((u.setLine p l).line q) := by
  rw [setLine_line]
  split
  · exact hl
  · exact hu q

theorem zero_inRange : LineCounters.zero.inRange := by
  intro x hx
  simp [LineCounters.zero] at hx
  omega

/-- The counts of a log (R178). -/
def LogInRange (l : FaultLog) : Prop :=
  l.later ≤ Config.maxTally ∧ l.suppressed ≤ Config.maxTally

theorem counterLaw_iff (s : State) : CounterLaw s ↔ (∀ p, (s.line p).counters.inRange) ∧ LogInRange s.monitor.log :=
  Iff.rfl

theorem Inner.logInRange {u v : State} (h : Inner u v) (hu : LogInRange u.monitor.log) : LogInRange v.monitor.log := by
  cases h with
  | monitor k x hlog => exact hlog hu
  | resolved => rw [settledAfter_monitor]; exact hu
  | doubted => rw [settled_monitor]; exact hu
  | line p l => cases p <;> exact hu
  | _ => exact hu

theorem withHolder_line (c : NoticeClass) (ph : NoticePhase) (s : State) (p : Port) :
    (withHolder c ph s).line p = s.line p := by
  cases p <;> rfl

theorem unheldBy_line (f : OutFrame) (s : State) (p : Port) : (unheldBy f s).line p = s.line p := by
  unfold unheldBy
  split
  · exact withHolder_line ..
  · rfl

theorem unheldOn_line (p : Port) (s : State) (q : Port) : (unheldOn p s).line q = s.line q := by
  cases q <;> rfl

/-- The lines after a change beyond the inner ones. -/
theorem Change.counterLaw {u v : State} (h : Change u v) (hu : CounterLaw u) : CounterLaw v := by
  obtain ⟨hlines, hlog⟩ := hu
  cases h with
  | inner h =>
    refine ⟨fun q => ?_, h.logInRange hlog⟩
    obtain e | ⟨p, l, e, -, -, -, hl⟩ := h.lines
    · rw [e]; exact hlines q
    · rw [e]
      split
      · exact hl (hlines p)
      · exact hlines q
  | queued p f =>
    exact ⟨lines_setLine (P := fun l => l.counters.inRange) hlines p (hlines p), by cases p <;> exact hlog⟩
  | noticed p c f =>
    refine ⟨fun q => ?_, by cases p <;> exact hlog⟩
    rw [withHolder_line]
    exact lines_setLine (P := fun l => l.counters.inRange) hlines p
      (l := { u.line p with queue := (u.line p).queue ++ [f] }) (hlines p) q
  | sent p f rest =>
    refine ⟨fun q => ?_, by cases f <;> cases p <;> exact hlog⟩
    rw [unheldBy_line]
    exact lines_setLine (P := fun l => l.counters.inRange) hlines p
      (l := { u.line p with queue := rest, sending := none }) (hlines p) q
  | withdrawn p serial =>
    refine ⟨lines_setLine (P := fun l => l.counters.inRange) hlines p ?_, by cases p <;> exact hlog⟩
    unfold withdrawOffer
    dsimp only
    split <;> exact hlines p
  | broken p l _ _ hcounters =>
    refine ⟨lines_setLine (P := fun l => l.counters.inRange) (fun q => ?_) p (hcounters (hlines p)), by cases p <;> exact hlog⟩
    rw [unheldOn_line]
    exact hlines q

theorem core_counterLaw (s : State) : CounterLaw (core s) ↔ CounterLaw s := by
  simp only [counterLaw_iff, core_line]
  rfl

theorem darkened_line (b : Bool) (u : State) (p : Port) : (darkened b u).line p = LineIf.started .r9600 false := by
  cases p <;> rfl

theorem periodClosed_line (u : State) (p : Port) : (periodClosed u).line p = u.line p := by
  cases p <;> rfl

theorem rebooted_line (u : State) (p : Port) : (rebooted u).line p = u.line p := by
  cases p <;> rfl

theorem reset_line (p : Port) : State.reset.line p = LineIf.started .r9600 false := by
  cases p <;> rfl

theorem StepOf.counterLaw {s t : State} (h : StepOf s t) : CounterLaw s → CounterLaw t :=
  h.keeps core_counterLaw Change.counterLaw (fun _ h => ⟨fun p => by rw [periodClosed_line]; exact h.1 p, h.2⟩)
    (fun b u h => ⟨fun p => by rw [darkened_line]; exact zero_inRange, h.2⟩)
    (fun _ h => ⟨fun p => by rw [rebooted_line]; exact h.1 p, h.2⟩)
    ⟨fun p => by rw [reset_line]; exact zero_inRange, Nat.zero_le _, Nat.zero_le _⟩

/-- What R200 says of one line. -/
def QueueInForm (l : LineIf) : Prop :=
  l.queue.length ≤ Config.queuePlaces ∧
    ∀ bytes, l.sending = some bytes → ∃ f rest, l.queue = f :: rest ∧ bytes = f.bytes

theorem queueLaw_iff (s : State) : QueueLaw s ↔ ∀ p, QueueInForm (s.line p) :=
  Iff.rfl

theorem queueInForm_append {l : LineIf} (h : QueueInForm l) (f : OutFrame) (hroom : l.queue.length < Config.queuePlaces) :
    QueueInForm { l with queue := l.queue ++ [f] } := by
  refine ⟨by simpa using hroom, fun bytes hb => ?_⟩
  obtain ⟨f₀, rest, hq, hbytes⟩ := h.2 bytes hb
  exact ⟨f₀, rest ++ [f], by simp [hq], hbytes⟩

/-- The frame being sent is not withdrawn (R101). -/
theorem queueInForm_withdrawOffer {l : LineIf} (h : QueueInForm l) (serial : Word16) :
    QueueInForm (withdrawOffer serial l) := by
  obtain ⟨hlen, hsend⟩ := h
  unfold withdrawOffer
  dsimp only
  split
  · refine ⟨?_, fun bytes hb => ?_⟩
    · have hf := List.length_filter_le (fun f => !OutFrame.offers serial f) (l.queue.drop 1)
      have hs : l.queue.length = (l.queue.take 1).length + (l.queue.drop 1).length := by
        rw [← List.length_append, List.take_append_drop]
      rw [List.length_append]
      omega
    · obtain ⟨f, rest, hq, hbytes⟩ := hsend bytes hb
      exact ⟨f, rest.filter fun f => !OutFrame.offers serial f, by simp [hq], hbytes⟩
  · next hn =>
    refine ⟨(List.length_filter_le _ _).trans hlen, fun bytes hb => ?_⟩
    have hb' : l.sending = some bytes := hb
    simp [hb'] at hn

theorem Change.queueLaw {u v : State} (h : Change u v) (hu : QueueLaw u) : QueueLaw v := by
  intro q
  cases h with
  | inner h =>
    obtain e | ⟨p, l, e, -, hqueue, hsending, -⟩ := h.lines
    · rw [e]; exact hu q
    · rw [e]
      split
      · refine ⟨hqueue ▸ (hu p).1, fun bytes hb => ?_⟩
        obtain hb' | hhead := hsending bytes hb
        · rw [hqueue]; exact (hu p).2 bytes hb'
        · exact hhead
      · exact hu q
  | queued p f hroom => exact lines_setLine (P := QueueInForm) hu p (queueInForm_append (hu p) f hroom) q
  | noticed p c f hroom =>
    rw [withHolder_line]
    exact lines_setLine (P := QueueInForm) hu p (queueInForm_append (hu p) f hroom) q
  | sent p f rest hq =>
    rw [unheldBy_line]
    refine lines_setLine (P := QueueInForm) hu p ⟨?_, fun bytes hb => by cases hb⟩ q
    have hlen := (hu p).1
    rw [hq, List.length_cons] at hlen
    exact Nat.le_of_succ_le hlen
  | withdrawn p serial => exact lines_setLine (P := QueueInForm) hu p (queueInForm_withdrawOffer (hu p) serial) q
  | broken p l hqueue hsending =>
    refine lines_setLine (P := QueueInForm) (fun q => ?_) p ⟨by simp [hqueue], fun bytes hb => ?_⟩ q
    · rw [unheldOn_line]; exact hu q
    · rw [hsending] at hb; cases hb

theorem core_queueLaw (s : State) : QueueLaw (core s) ↔ QueueLaw s := by
  simp only [queueLaw_iff, core_line]
  rfl

theorem started_queueInForm (rate : LineRate) (readyIn : Bool) : QueueInForm (LineIf.started rate readyIn) :=
  ⟨Nat.zero_le _, fun _ hb => by cases hb⟩

theorem StepOf.queueLaw {s t : State} (h : StepOf s t) : QueueLaw s → QueueLaw t :=
  h.keeps core_queueLaw Change.queueLaw (fun _ h p => by rw [periodClosed_line]; exact h p)
    (fun b u _ p => by rw [darkened_line]; exact started_queueInForm ..)
    (fun _ h p => by rw [rebooted_line]; exact h p) (fun p => by rw [reset_line]; exact started_queueInForm ..)

/-! ## The notice classes (R203) -/

/-- The frames of a class in a queue. -/
def noticesOf (c : NoticeClass) (q : List OutFrame) : Nat :=
  q.countP (isNoticeOf c)

theorem noticeLaw_iff (s : State) : NoticeLaw s ↔ ∀ (c : NoticeClass) (p : Port),
    noticesOf c (s.line p).queue = if (s.noticeClass c).phase.holder = some p then 1 else 0 := by
  refine forall₂_congr fun c p => Eq.congr_left (List.countP_congr fun f _ => ?_)
  cases f <;> exact Iff.rfl

theorem withHolder_noticeClass (c d : NoticeClass) (ph : NoticePhase) (s : State) :
    (withHolder c ph s).noticeClass d = if d = c then { s.noticeClass c with phase := ph } else s.noticeClass d :=
  modNotice_noticeClass s c d _

/-- Nothing that the offer of a serial is, is a notice. -/
theorem isNoticeOf_of_offers {c : NoticeClass} {serial : Word16} {f : OutFrame} (h : isNoticeOf c f = true) :
    OutFrame.offers serial f = false := by
  cases f with
  | notice => rfl
  | _ => cases h

theorem noticesOf_withdrawOffer (c : NoticeClass) (serial : Word16) (l : LineIf) :
    noticesOf c (withdrawOffer serial l).queue = noticesOf c l.queue := by
  have hfilter (q : List OutFrame) : noticesOf c (q.filter fun f => !OutFrame.offers serial f) = noticesOf c q := by
    rw [noticesOf, List.countP_filter]
    refine List.countP_congr fun f _ => ?_
    simp only [Bool.and_eq_true, Bool.not_eq_true', and_iff_left_iff_imp]
    exact isNoticeOf_of_offers
  unfold withdrawOffer
  dsimp only
  split
  · have hsplit := congrArg (noticesOf c) (List.take_append_drop 1 l.queue)
    rw [noticesOf, List.countP_append] at hsplit ⊢
    rw [← hsplit]
    exact congrArg _ (hfilter _)
  · exact hfilter _

theorem Inner.notices {u v : State} (h : Inner u v) : v.notices = u.notices := by
  cases h with
  | resolved m g => exact settledAfter_keeps _ g (L := fun t => t.notices = u.notices) (fun _ _ h => h) rfl
  | doubted => exact settled_keeps _ (L := fun t => t.notices = u.notices) (fun _ _ h => h) rfl
  | line p l => exact State.setLine_notices ..
  | _ => rfl

theorem Change.noticeLaw {u v : State} (h : Change u v) (hu : NoticeLaw u) : NoticeLaw v := by
  rw [noticeLaw_iff] at hu ⊢
  intro d q
  cases h with
  | inner h =>
    rw [noticeClass_congr h.notices d, ← hu d q]
    obtain e | ⟨p, l, e, -, hqueue, -⟩ := h.lines
    · rw [e]
    · rw [e]
      split
      · next eq => rw [hqueue, eq]
      · rfl
  | queued p f _ hf =>
    rw [noticeClass_congr (State.setLine_notices ..) d, ← hu d q, setLine_line]
    split
    · next e => simp [noticesOf, hf, e]
    · rfl
  | noticed p c f _ hf hidle =>
    rw [withHolder_line, withHolder_noticeClass, setLine_line]
    by_cases hd : d = c
    · subst hd
      have h0 (r : Port) : noticesOf d (u.line r).queue = 0 := by rw [hu, hidle]; rfl
      by_cases hq : q = p
      · subst hq
        have hone : noticesOf d ((u.line q).queue ++ [f]) = noticesOf d (u.line q).queue + 1 := by
          simp [noticesOf, hf]
        simp [hone, h0, NoticePhase.holder]
      · simp [hq, h0, NoticePhase.holder, Ne.symm hq]
    · rw [if_neg hd, noticeClass_congr (State.setLine_notices ..) d, ← hu d q]
      split
      · next e =>
        have hcd : (c == d) = false := by simpa using Ne.symm hd
        simp [noticesOf, hf, hcd, e]
      · rfl
  | sent p f rest hq =>
    have hhead (c : NoticeClass) : noticesOf c (u.line p).queue = noticesOf c rest + if isNoticeOf c f then 1 else 0 := by
      rw [hq, noticesOf, List.countP_cons, ← noticesOf]
    rw [unheldBy_line, setLine_line]
    have hother (hn : isNoticeOf d f = false) :
        noticesOf d (if q = p then { u.line p with queue := rest, sending := none } else u.line q).queue =
          if (u.noticeClass d).phase.holder = some q then 1 else 0 := by
      rw [← hu d q]
      split
      · next e => rw [e, hhead, hn]; rfl
      · rfl
    cases f with
    | notice c body carried =>
      change _ = if ((withHolder c .idle _).noticeClass d).phase.holder = some q then 1 else 0
      rw [withHolder_noticeClass]
      by_cases hd : d = c
      · subst hd
        have hone := hu d p
        rw [hhead] at hone
        have hheld : (u.noticeClass d).phase.holder = some p := by
          by_contra hn
          simp [hn, isNoticeOf] at hone
        have hrest : noticesOf d rest = 0 := by simpa [hheld, isNoticeOf] using hone
        rw [if_pos rfl]
        simp only [NoticePhase.holder, reduceCtorEq, if_false]
        split
        · exact hrest
        · next e => rw [hu, hheld, if_neg]; simpa using Ne.symm e
      · rw [if_neg hd, noticeClass_congr (State.setLine_notices ..) d]
        exact hother (by simpa [isNoticeOf] using Ne.symm hd)
    | _ =>
      rw [← noticeClass_congr (State.setLine_notices u p _) d] at hother
      exact hother rfl
  | withdrawn p serial =>
    rw [noticeClass_congr (State.setLine_notices ..) d, ← hu d q, setLine_line]
    split
    · next e => rw [noticesOf_withdrawOffer, e]
    · rfl
  | broken p l hqueue =>
    have hclass : (((unheldOn p u).setLine p l).noticeClass d).phase =
        if (u.noticeClass d).phase.holder = some p then .idle else (u.noticeClass d).phase := by
      rw [noticeClass_congr (State.setLine_notices ..) d]
      exact congrArg NoticeEntry.phase (mapAll_get ..)
    rw [hclass, setLine_line]
    by_cases hq : q = p
    · subst hq
      rw [if_pos rfl, hqueue]
      by_cases hh : (u.noticeClass d).phase.holder = some q
      · rw [if_pos hh]; rfl
      · rw [if_neg hh, if_neg hh]; rfl
    · rw [if_neg hq, unheldOn_line, hu]
      by_cases hh : (u.noticeClass d).phase.holder = some p
      · have hpq : some p ≠ some q := fun e => hq (Option.some.inj e).symm
        rw [if_pos hh, hh, if_neg hpq]; rfl
      · rw [if_neg hh]

theorem core_noticeLaw (s : State) : NoticeLaw (core s) ↔ NoticeLaw s := by
  simp only [noticeLaw_iff, core_line, core_holder]
  rfl

theorem darkened_noticeLaw (b : Bool) (u : State) : NoticeLaw (darkened b u) := by
  rw [noticeLaw_iff]
  intro c p
  have hidle : ((darkened b u).noticeClass c).phase = .idle := congrArg NoticeEntry.phase (mapAll_get ..)
  rw [darkened_line, hidle]
  rfl

theorem reset_noticeLaw : NoticeLaw State.reset := by
  rw [noticeLaw_iff]
  intro c p
  rw [reset_line]
  cases c <;> cases p <;> rfl

theorem StepOf.noticeLaw {s t : State} (h : StepOf s t) : NoticeLaw s → NoticeLaw t :=
  h.keeps core_noticeLaw Change.noticeLaw (fun _ h c p => by rw [periodClosed_line]; exact h c p)
    (fun b u _ => darkened_noticeLaw b u) (fun _ h c p => by rw [rebooted_line]; exact h c p)
    reset_noticeLaw

/-! ## The stock (R155 to R157) -/

theorem StockKept.refl (k : Stock) : StockKept k k :=
  ⟨fun _ => id, fun _ _ => id⟩

theorem StockKept.trans {k k' k'' : Stock} (h : StockKept k k') (h' : StockKept k' k'') : StockKept k k'' :=
  ⟨fun s => h'.lines s ∘ h.lines s, fun s hs hr => h'.reorder s (h.lines s hs) (h.reorder s hs hr)⟩

theorem Inner.stockKept {u v : State} (h : Inner u v) : StockKept u.stock v.stock := by
  cases h with
  | stock k h => exact h
  | resolved m g result pool sat ms stock _ _ _ _ _ _ hstock =>
    exact settledAfter_keeps _ g (L := fun t => StockKept u.stock t.stock) (fun _ _ h => h) hstock
  | doubted => exact settled_keeps _ (L := fun t => StockKept u.stock t.stock) (fun _ _ h => h) (.refl _)
  | line p l => rw [State.setLine_stock]; exact .refl _
  | _ => exact .refl _

/-- The stock lines and the reorder list in form. -/
def ShelfLaw (s : State) : Prop :=
  StockLaw s ∧ ReorderLaw s

theorem Change.stockLaw {u v : State} (h : Change u v) : StockLaw u → StockLaw v :=
  h.keeps (fun h hu => h.stockKept.lines _ hu) (fun u p l hu => by cases p <;> exact hu) (fun _ _ hu => hu)

theorem Change.shelfLaw {u v : State} (h : Change u v) : ShelfLaw u → ShelfLaw v :=
  h.keeps (fun h hu => ⟨h.stockKept.lines _ hu.1, h.stockKept.reorder _ hu.1 hu.2⟩)
    (fun u p l hu => by cases p <;> exact hu) (fun _ _ hu => hu)

/-- The close of a period clears counts that the laws do not read (R168). -/
theorem periodClosed_stockLine (u : State) (b : BranchId) (l : LineNo) :
    (periodClosed u).stockLine b l = (u.stockLine b l).periodCleared := by
  change ((mapAll (mapAll StockLine.periodCleared) u.stock.lines).get b).get l = _
  rw [mapAll_get, mapAll_get]
  rfl

theorem periodClosed_shelf (u : State) : (StockLaw (periodClosed u) ↔ StockLaw u) ∧
    (ReorderLaw (periodClosed u) ↔ ReorderLaw u) := by
  simp only [StockLaw, ReorderLaw, periodClosed_stockLine]
  exact ⟨Iff.rfl, Iff.rfl⟩

theorem reset_stockLine (b : BranchId) (l : LineNo) : State.reset.stockLine b l = StockLine.lost := by
  change ((Vector.replicate 48 (Vector.replicate 12 StockLine.lost)).get b).get l = _
  simp [get_eq_getElem]

theorem reset_stockLaw : StockLaw State.reset := by
  intro b l
  rw [reset_stockLine]
  exact ⟨Nat.zero_le _, by decide⟩

theorem reset_reorderLaw : ReorderLaw State.reset :=
  ⟨List.nodup_nil, fun _ hx => absurd hx List.not_mem_nil⟩

theorem StepOf.stockLaw {s t : State} (h : StepOf s t) : StockLaw s → StockLaw t :=
  h.keeps (fun _ => Iff.rfl) Change.stockLaw (fun u => (periodClosed_shelf u).1.mpr) (fun _ _ => id) (fun _ => id)
    reset_stockLaw

theorem StepOf.shelfLaw {s t : State} (h : StepOf s t) : ShelfLaw s → ShelfLaw t :=
  h.keeps (fun _ => Iff.rfl) Change.shelfLaw
    (fun u hu => ⟨(periodClosed_shelf u).1.mpr hu.1, (periodClosed_shelf u).2.mpr hu.2⟩) (fun _ _ => id)
    (fun _ => id) ⟨reset_stockLaw, reset_reorderLaw⟩

/-! ## The list (R113, R118, R123) -/

/-- A grant that names an entry is held by the entry's meter, the entry OFFERED. -/
def Linked (s : State) : Prop :=
  ∀ (m : MeterId) (g : Grant) (n : Nat), (s.meter m).grant = some g → g.source = .list (some n) →
    ∃ e, s.list.entries[n]? = some e ∧ e.meter = m ∧ e.outcome = .offered

theorem listLaw_iff (s : State) : ListLaw s ↔ InOrder s.list.entries s.list.next ∧ Linked s := by
  unfold ListLaw InOrder Linked
  tauto

theorem Linked.of_grantFrom {u v : State} (hg : ∀ m, GrantFrom (u.meter m) (v.meter m))
    (he : ∀ (n : Nat) (e : Entry), u.list.entries[n]? = some e → e.outcome = .offered →
      ∃ e', v.list.entries[n]? = some e' ∧ e'.meter = e.meter ∧ e'.outcome = .offered)
    (hu : Linked u) : Linked v := by
  intro m g n hgv hs
  obtain ⟨g₀, hg₀, hk⟩ := hg m g hgv
  obtain hsrc | hsrc := hk.source
  · obtain ⟨e, hn, hm, ho⟩ := hu m g₀ n hg₀ (hsrc.symm.trans hs)
    obtain ⟨e', hn', hm', ho'⟩ := he n e hn ho
    exact ⟨e', hn', hm'.trans hm, ho'⟩
  · rw [hs] at hsrc
    cases hsrc

theorem getElem?_modify_ne {es : List Entry} {i j : Nat} (f : Entry → Entry) (h : i ≠ j) :
    (es.modify i f)[j]? = es[j]? := by
  simp [h]

/-- An entry that is no longer WAITING, or was not before, keeps the order if the next entry moves with it. -/
theorem InOrder.modify {es : List Entry} {n i : Nat} {f : Entry → Entry} (h : InOrder es n) {e : Entry}
    (he : es[i]? = some e) (hf : (f e).outcome ≠ .waiting) {n' : Nat}
    (hn : e.outcome = .waiting ∧ i = n ∧ n' = n + 1 ∨ e.outcome ≠ .waiting ∧ n' = n) :
    InOrder (es.modify i f) n' := by
  obtain ⟨hlen, hnext, hw⟩ := h
  have hi : i < es.length := (List.getElem?_eq_some_iff.mp he).1
  refine ⟨by simpa using hlen, ?_, fun j e' he' => ?_⟩
  · rw [List.length_modify]
    omega
  · by_cases hij : i = j
    · subst hij
      have he' : f e = e' := by simpa [he] using he'
      subst he'
      have := hw i e he
      refine iff_of_false hf ?_
      rcases hn with ⟨-, rfl, rfl⟩ | ⟨hne, rfl⟩
      · omega
      · exact fun hle => hne (this.mpr hle)
    · rw [getElem?_modify_ne f hij] at he'
      rw [hw j e' he']
      rcases hn with ⟨-, rfl, rfl⟩ | ⟨-, rfl⟩ <;> omega

/-- The entry of a new grant is OFFERED, and it was the next WAITING one (R82, R118). -/
theorem Offer.listLaw {u v : State} {m : MeterId} {g : Grant} {k : SlotId} {slot : Slot} (h : Offer u v m g k slot)
    (horder : InOrder u.list.entries u.list.next) (hlinked : Linked u) :
    InOrder v.list.entries v.list.next ∧ Linked v := by
  have hother {i : MeterId} {g' : Grant} (hi : i ≠ m) (hg : (v.meter i).grant = some g') :
      (u.meter i).grant = some g' := h.others i hi ▸ hg
  have hserved := h.served
  generalize hes : v.list.entries = es, hn : v.list.next = n, hsrc : g.source = source at hserved
  cases hserved with
  | request =>
    refine ⟨horder, fun i g' j hg hs => ?_⟩
    by_cases hi : i = m
    · subst hi
      cases h.grant.symm.trans hg
      cases hsrc.symm.trans hs
    · exact hes ▸ hlinked i g' j (hother hi hg) hs
  | entry e serial _ _ he hw hm =>
    refine ⟨horder.modify he (by simp) (.inl ⟨hw, rfl, rfl⟩), fun i g' j hg hs => ?_⟩
    rw [hes]
    by_cases hi : i = m
    · subst hi
      cases h.grant.symm.trans hg
      cases hsrc.symm.trans hs
      exact ⟨{ e with outcome := .offered, serial := serial }, by simp [he], hm, rfl⟩
    · obtain ⟨e', he', hm', ho⟩ := hlinked i g' j (hother hi hg) hs
      have hne : u.list.next ≠ j := by
        rintro rfl
        rw [he] at he'
        cases he'
        rw [hw] at ho
        cases ho
      exact ⟨e', (getElem?_modify_ne _ hne).trans he', hm', ho⟩

/-- The entry of a grant that is resolved takes its outcome, and no other grant names it (R123). -/
theorem resolved_listLaw {u v : State} {m : MeterId} {g : Grant} {result : GrantResult}
    (hheld : (u.meter m).grant = some g) (hes : v.list.entries = entriesAfter g.source result u.list.entries)
    (hn : v.list.next = u.list.next) (hothers : ∀ i, i ≠ m → (v.meter i).grant = (u.meter i).grant)
    (hgrant : (v.meter m).grant = none) (horder : InOrder u.list.entries u.list.next) (hlinked : Linked u) :
    InOrder v.list.entries v.list.next ∧ Linked v := by
  have hback {i : MeterId} {g' : Grant} (h : (v.meter i).grant = some g') :
      i ≠ m ∧ (u.meter i).grant = some g' := by
    have hi : i ≠ m := by rintro rfl; cases hgrant.symm.trans h
    exact ⟨hi, hothers i hi ▸ h⟩
  rw [hn, hes]
  by_cases hsrc : ∃ n, g.source = .list (some n)
  · obtain ⟨n, hsrc⟩ := hsrc
    obtain ⟨e, he, hm, ho⟩ := hlinked m g n hheld hsrc
    have hnot : result.asOutcome ≠ .waiting := by cases result <;> simp [GrantResult.asOutcome]
    have hmod : entriesAfter g.source result u.list.entries =
        u.list.entries.modify n (fun e => { e with outcome := result.asOutcome }) := by rw [hsrc]; rfl
    rw [hmod] at hes ⊢
    refine ⟨horder.modify he hnot (.inr ⟨by rw [ho]; decide, rfl⟩), fun i g' j h hs => ?_⟩
    obtain ⟨hi, h⟩ := hback h
    obtain ⟨e', he', hm', ho'⟩ := hlinked i g' j h hs
    have hne : n ≠ j := by
      rintro rfl
      rw [he] at he'
      cases he'
      exact hi (hm'.symm.trans hm)
    exact ⟨e', hes ▸ (getElem?_modify_ne _ hne).trans he', hm', ho'⟩
  · have hsame : entriesAfter g.source result u.list.entries = u.list.entries := by
      unfold entriesAfter
      split
      · next h => exact absurd ⟨_, h⟩ hsrc
      · rfl
    rw [hsame] at hes ⊢
    exact ⟨horder, fun i g' j h hs => hes ▸ hlinked i g' j (hback h).2 hs⟩

theorem Inner.listLaw {u v : State} (h : Inner u v) (hu : ListLaw u) : ListLaw v := by
  rw [listLaw_iff] at hu ⊢
  obtain ⟨horder, hlinked⟩ := hu
  have hsame (n : Nat) (e : Entry) (he : u.list.entries[n]? = some e) (ho : e.outcome = .offered) :
      ∃ e', u.list.entries[n]? = some e' ∧ e'.meter = e.meter ∧ e'.outcome = .offered := ⟨e, he, rfl, ho⟩
  cases h with
  | offered m g k slot next pool sat es n served hfree hphase hslot hserial _ hg =>
    exact (Offer.of_offered served hfree hphase hslot hserial hg).listLaw horder hlinked
  | resolved m g result pool sat ms stock hheld _ _ hothers hgrant =>
    refine resolved_listLaw (m := m) (result := result) hheld ?_ ?_ (fun i hi => ?_) ?_ horder hlinked
    · rw [settledAfter_list]; rfl
    · rw [settledAfter_list]; rfl
    · exact (settledAfter_grant ..).trans (congrArg Meter.grant (hothers i hi))
    · exact (settledAfter_grant ..).trans hgrant
  | records ms h => exact ⟨horder, hlinked.of_grantFrom (fun m => .of_eq (h m).2) hsame⟩
  | enrolled n b ar labels supervision =>
    exact ⟨horder, hlinked.of_grantFrom (fun m => enrolled_grantFrom u n m b ar labels supervision) hsame⟩
  | doubted n k =>
    refine ⟨by rw [settled_list]; exact horder, hlinked.of_grantFrom (fun m => doubted_grantFrom u n m k) ?_⟩
    rw [settled_list]
    exact hsame
  | entries es n h =>
    exact ⟨h.order horder, Linked.of_grantFrom (u := u) (v := withEntries es n u) (fun m => .of_eq rfl) h.offered hlinked⟩
  | emptied =>
    refine ⟨⟨Nat.zero_le _, le_rfl, fun i e he => by cases he⟩, fun m g n hg hs => ?_⟩
    obtain ⟨g₀, -, rfl⟩ := Option.map_eq_some_iff.mp ((congrArg Meter.grant (mapAll_get ..)).symm.trans hg)
    unfold Grant.detached at hs
    split at hs
    · cases hs
    · next h => rw [h] at hs; cases hs
  | line p l => cases p <;> exact ⟨horder, hlinked⟩
  | _ => exact ⟨horder, hlinked⟩

theorem Change.listLaw {u v : State} (h : Change u v) : ListLaw u → ListLaw v :=
  h.keeps Inner.listLaw (fun u p l hu => by cases p <;> exact hu) (fun _ _ hu => hu)

theorem rebooted_listLaw {u : State} (hu : ListLaw u) : ListLaw (rebooted u) := by
  rw [listLaw_iff] at hu ⊢
  exact ⟨hu.1, hu.2.of_grantFrom (rebooted_grantFrom u) fun n e he ho => ⟨e, he, rfl, ho⟩⟩

theorem reset_listLaw : ListLaw State.reset := by
  rw [listLaw_iff]
  exact ⟨⟨Nat.zero_le _, le_rfl, fun i e he => by cases he⟩, fun m g n hg => absurd hg (by simp [reset_grant])⟩

theorem StepOf.listLaw {s t : State} (h : StepOf s t) : ListLaw s → ListLaw t :=
  h.keeps (fun _ => Iff.rfl) Change.listLaw (fun _ => id) (fun _ _ => id) (fun _ => rebooted_listLaw) reset_listLaw

/-! ## The core of each update -/

/-- What the laws read of the engine. -/
def coreEngine (e : Engine) : Engine :=
  { Engine.lost with state := e.state, slots := e.slots, nextSerial := e.nextSerial }

section Updates

variable (s : State)

@[simp] theorem core_setPool (k : Pool) : core (s.setPool k) = (core s).setPool k := rfl

@[simp] theorem core_setMeters (ms : Vector Meter 192) : core (s.setMeters ms) = (core s).setMeters ms := rfl

@[simp] theorem core_modMeter (m : MeterId) (f : Meter → Meter) : core (modMeter m f s) = modMeter m f (core s) := rfl

@[simp] theorem core_setSilentList (x : List SilentEntry) : core (s.setSilentList x) = core s := rfl

@[simp] theorem core_setRetireList (x : List RetireEntry) : core (s.setRetireList x) = core s := rfl

@[simp] theorem core_setBranches (x : Vector Branch 48) : core (s.setBranches x) = core s := rfl

@[simp] theorem core_modBranch (b : BranchId) (f : Branch → Branch) : core (modBranch b f s) = core s := rfl

@[simp] theorem core_setUrgencyMap (x : Vector Priority 8) : core (s.setUrgencyMap x) = core s := rfl

@[simp] theorem core_setArbiter (x : Arbiter) : core (s.setArbiter x) = core s := rfl

@[simp] theorem core_setTime (x : Word32) : core (s.setTime x) = core s := rfl

@[simp] theorem core_setEngine (e : Engine) : core (s.setEngine e) = (core s).setEngine (coreEngine e) := rfl

@[simp] theorem core_freeSlot (k : SlotId) : core (freeSlot k s) = freeSlot k (core s) := rfl

@[simp] theorem core_setList (l : ListUnit) : core (s.setList l) = withEntries l.entries l.next (core s) := rfl

@[simp] theorem core_setListState (x : ListState) : core (setListState x s) = core s := rfl

@[simp] theorem core_modEntry (n : Nat) (f : Entry → Entry) :
    core (modEntry n f s) = withEntries (s.list.entries.modify n f) s.list.next (core s) := rfl

@[simp] theorem core_setStock (k : Stock) : core (s.setStock k) = (core s).setStock { k with tolerance := 0 } := rfl

@[simp] theorem core_modCurrent (f : Bank → Bank) :
    core (modCurrent f s) = withPool s.pool (f s.periods.current).saturated (core s) := rfl

@[simp] theorem core_setMonitor (k : Monitor) :
    core (s.setMonitor k) = (core s).setMonitor { k with policy := .strict } := rfl

@[simp] theorem core_reachTime (expiry : Word32) : core (reachTime expiry s) = core s := by
  unfold reachTime
  split <;> rfl

theorem afterCondition_holder (ph : NoticePhase) : ph.afterCondition.holder = ph.holder := by
  cases ph <;> rfl

theorem coreClass_congr {e e' : NoticeEntry} (h : e'.phase.holder = e.phase.holder) : coreClass e' = coreClass e := by
  unfold coreClass
  rw [h]

/-- The core after the notice unit's classes have changed. -/
theorem core_setNotices (x : Notices) (h : ∀ i, (x.classes.get i).phase.holder = (s.notices.classes.get i).phase.holder) :
    core (s.setNotices x) = core s := by
  have hh : heldBy (s.setNotices x) = heldBy s := vector_ext_get fun i => by
    change (mapAll coreClass x.classes).get i = (mapAll coreClass s.notices.classes).get i
    rw [mapAll_get, mapAll_get]
    exact coreClass_congr (h i)
  change { core s with notices := { Notices.lost with classes := heldBy (s.setNotices x) } } = core s
  rw [hh]
  rfl

/-- Setting a condition leaves every class on the port where its frame stands (R203). -/
@[simp] theorem core_setCondition (c : NoticeClass) : core (setCondition c s) = core s := by
  refine core_setNotices s _ fun i => ?_
  rw [modifyAt_get]
  split
  · next h => rw [h]; exact afterCondition_holder _
  · rfl

@[simp] theorem core_setStarted (cause : StartedCause) (completed : Bool) :
    core (setStarted cause completed s) = core s := by
  unfold setStarted
  rw [core_setCondition]
  rfl

@[simp] theorem core_haltList : core (haltList s) = core s := by
  simp [haltList]
  rfl

@[simp] theorem core_haltRunningList : core (haltRunningList s) = core s := by
  unfold haltRunningList
  split
  · exact core_haltList s
  · rfl

@[simp] theorem core_listDone : core (listDone s) = core s := by
  simp [listDone]

@[simp] theorem core_endRun : core (endRun s) = core s := by
  unfold endRun
  split_ifs <;> simp

@[simp] theorem core_markSampled : core (markSampled s) = core s := rfl

@[simp] theorem core_joinSilentList (m : MeterId) : core (joinSilentList m s) = core s := by
  unfold joinSilentList
  split <;> rfl

@[simp] theorem core_reportRetirement (e : RetireEntry) : core (reportRetirement e s) = core s := rfl

theorem core_setLine (p : Port) (l : LineIf) : core (s.setLine p l) = (core s).setLine p (coreLine l) := by
  cases p <;> rfl

end Updates

/-! ## What an operation of a block does -/

/-- A chain of inner changes. -/
abbrev Inners : State → State → Prop :=
  Relation.ReflTransGen Inner

/-- An operation changes the blocks behind the lines, each change complete. -/
def Does (s t : State) : Prop :=
  Inners (core s) (core t)

theorem Does.refl (s : State) : Does s s :=
  Relation.ReflTransGen.refl

theorem Does.trans {s t u : State} (h : Does s t) (h' : Does t u) : Does s u :=
  Relation.ReflTransGen.trans h h'

/-- An operation on fields that no law reads. -/
theorem Does.frame {s t : State} (h : core t = core s) : Does s t := by
  unfold Does
  rw [h]

theorem Does.single {s t : State} (h : Inner (core s) (core t)) : Does s t :=
  Relation.ReflTransGen.single h

theorem Does.of_core {s t u : State} (h : Does s t) (e : core u = core t) : Does s u :=
  h.trans (.frame e)

/-! ## Money -/

/-- An operation on the pool and the current bank alone. -/
theorem Does.money {s t : State}
    (h : PoolMove s.pool s.periods.current.saturated t.pool t.periods.current.saturated)
    (hg : t.pool.g = s.pool.g) (hc : core t = withPool t.pool t.periods.current.saturated (core s)) : Does s t := by
  refine .single ?_
  rw [hc]
  exact .money (core s) _ _ h hg

/-- The saturated mark may be set besides. -/
theorem PoolMove.marked {k k' : Pool} {a b c : Bool} (h : PoolMove k a k' b) (hc : c = false → b = false) :
    PoolMove k a k' c :=
  ⟨h.range, h.recorded, fun e => h.saturated (hc e), fun e => h.conserved (hc e)⟩

theorem core_recheckPool (s : State) :
    core (recheckPool s) = withPool (recheckPool s).pool s.periods.current.saturated (core s) := by
  unfold recheckPool
  dsimp only
  split
  · simp only [core_setPool, setPoolCondition, core_setCondition]
    rfl
  · rfl

theorem core_changePool (pool : Pool) (hit : Bool) (s : State) :
    core (changePool pool hit s) =
      withPool (changePool pool hit s).pool (changePool pool hit s).periods.current.saturated (core s) := by
  rw [changePool_periods]
  exact (core_recheckPool _).trans rfl

theorem poolMove_changePool {s : State} {pool : Pool} {hit : Bool}
    (hrange : (∀ x ∈ s.pool.figures, x ≤ Config.maxFigure) → ∀ x ∈ pool.figures, x ≤ Config.maxFigure)
    (hconserved : hit = false → s.pool.p + s.pool.g + s.pool.i + s.pool.rf + s.pool.k = s.pool.dep + s.pool.r →
      pool.p + pool.g + pool.i + pool.rf + pool.k = pool.dep + pool.r) :
    PoolMove s.pool s.periods.current.saturated (changePool pool hit s).pool
      (changePool pool hit s).periods.current.saturated := by
  rw [changePool_periods, changePool_pool]
  refine ⟨hrange, fun _ => rfl, fun h => (Bool.or_eq_false_iff.mp h).1, fun h => hconserved (Bool.or_eq_false_iff.mp h).2⟩

theorem figures_le_iff (k : Pool) : (∀ x ∈ k.figures, x ≤ Config.maxFigure) ↔
    k.p ≤ Config.maxFigure ∧ k.dep ≤ Config.maxFigure ∧ k.g ≤ Config.maxFigure ∧ k.i ≤ Config.maxFigure ∧
      k.r ≤ Config.maxFigure ∧ k.rf ≤ Config.maxFigure ∧ k.k ≤ Config.maxFigure := by
  simp [Pool.figures]

theorem lowerFigure_le {x d : Nat} (h : x ≤ Config.maxFigure) : lowerFigure x d ≤ Config.maxFigure :=
  (Nat.sub_le x d).trans h

/-- A figure that is held at no limit rises by `up` and falls by `down` exactly (R15). -/
theorem figureHeld_eq_false {x up down : Nat} (h : figureHeld x up down = false) :
    raiseFigure x up = x + up ∧ lowerFigure x down + down = x := by
  simp only [figureHeld, passes, Bool.or_eq_false_iff, decide_eq_false_iff_not] at h
  refine ⟨if_neg h.1, ?_⟩
  unfold lowerFigure
  omega

section PoolMoves

variable (s : State) (x : Nat)

theorem poolDeposit_move (voucher : Word32) : PoolMove s.pool s.periods.current.saturated (poolDeposit x voucher s).pool
    (poolDeposit x voucher s).periods.current.saturated := by
  refine poolMove_changePool ?_ fun hit hc => ?_
  · rw [figures_le_iff, figures_le_iff]
    rintro ⟨-, -, hrest⟩
    exact ⟨raiseFigure_le .., raiseFigure_le .., hrest⟩
  · obtain ⟨hp, hdep⟩ := Bool.or_eq_false_iff.mp hit
    have := figureHeld_eq_false hp
    have := figureHeld_eq_false hdep
    simp only
    omega

theorem poolRefund_move : PoolMove s.pool s.periods.current.saturated (poolRefund x s).pool
    (poolRefund x s).periods.current.saturated := by
  refine poolMove_changePool ?_ fun hit hc => ?_
  · rw [figures_le_iff, figures_le_iff]
    rintro ⟨hp, hdep, hg, hi, hr, -, hk⟩
    exact ⟨lowerFigure_le hp, hdep, hg, hi, hr, raiseFigure_le .., hk⟩
  · obtain ⟨hp, hrf⟩ := Bool.or_eq_false_iff.mp hit
    have := figureHeld_eq_false hp
    have := figureHeld_eq_false hrf
    simp only
    omega

theorem poolReserve_move : PoolMove s.pool s.periods.current.saturated (poolReserve x s).pool
    (poolReserve x s).periods.current.saturated := by
  refine poolMove_changePool ?_ fun hit hc => ?_
  · rw [figures_le_iff, figures_le_iff]
    rintro ⟨hp, hdep, -, hrest⟩
    exact ⟨lowerFigure_le hp, hdep, raiseFigure_le .., hrest⟩
  · obtain ⟨hp, hg⟩ := Bool.or_eq_false_iff.mp hit
    have := figureHeld_eq_false hp
    have := figureHeld_eq_false hg
    simp only
    omega

theorem poolConfirm_move : PoolMove s.pool s.periods.current.saturated (poolConfirm x s).pool
    (poolConfirm x s).periods.current.saturated := by
  refine poolMove_changePool ?_ fun hit hc => ?_
  · rw [figures_le_iff, figures_le_iff]
    rintro ⟨hp, hdep, hg, -, hrest⟩
    exact ⟨hp, hdep, lowerFigure_le hg, raiseFigure_le .., hrest⟩
  · obtain ⟨hg, hi⟩ := Bool.or_eq_false_iff.mp hit
    have := figureHeld_eq_false hg
    have := figureHeld_eq_false hi
    simp only
    omega

theorem poolRelease_move : PoolMove s.pool s.periods.current.saturated (poolRelease x s).pool
    (poolRelease x s).periods.current.saturated := by
  refine poolMove_changePool ?_ fun hit hc => ?_
  · rw [figures_le_iff, figures_le_iff]
    rintro ⟨-, hdep, hg, hrest⟩
    exact ⟨raiseFigure_le .., hdep, lowerFigure_le hg, hrest⟩
  · obtain ⟨hg, hp⟩ := Bool.or_eq_false_iff.mp hit
    have := figureHeld_eq_false hg
    have := figureHeld_eq_false hp
    simp only
    omega

theorem poolPurchase_move : PoolMove s.pool s.periods.current.saturated (poolPurchase x s).pool
    (poolPurchase x s).periods.current.saturated := by
  refine poolMove_changePool ?_ fun hit hc => ?_
  · rw [figures_le_iff, figures_le_iff]
    rintro ⟨hp, hdep, hg, hi, hr, hrf, -⟩
    exact ⟨lowerFigure_le hp, hdep, hg, hi, hr, hrf, raiseFigure_le ..⟩
  · obtain ⟨hp, hk⟩ := Bool.or_eq_false_iff.mp hit
    have := figureHeld_eq_false hp
    have := figureHeld_eq_false hk
    simp only
    omega

theorem poolSweep_move : PoolMove s.pool s.periods.current.saturated (poolSweep x s).pool
    (poolSweep x s).periods.current.saturated := by
  refine poolMove_changePool ?_ fun hit hc => ?_
  · rw [figures_le_iff, figures_le_iff]
    rintro ⟨-, hdep, hg, hi, -, hrest⟩
    exact ⟨raiseFigure_le .., hdep, hg, hi, raiseFigure_le .., hrest⟩
  · obtain ⟨hp, hr⟩ := Bool.or_eq_false_iff.mp hit
    have := figureHeld_eq_false hp
    have := figureHeld_eq_false hr
    simp only
    omega

/-- An adjustment moves Δ between P and I, one way or the other (R13). -/
theorem poolAdjust_move (delta : Int) : PoolMove s.pool s.periods.current.saturated (poolAdjust delta s).pool
    (poolAdjust delta s).periods.current.saturated := by
  refine poolMove_changePool ?_ fun hit hc => ?_
  · rw [figures_le_iff, figures_le_iff]
    rintro ⟨-, hdep, hg, -, hrest⟩
    exact ⟨raiseFigure_le .., hdep, hg, lowerFigure_le (raiseFigure_le ..), hrest⟩
  · obtain ⟨hp, hi⟩ := Bool.or_eq_false_iff.mp hit
    have hraised := (figureHeld_eq_false hi).1
    simp only [figureHeld, passes, Bool.or_eq_false_iff, decide_eq_false_iff_not] at hp hi
    have hback : raiseFigure (s.pool.p - delta.toNat) (-delta).toNat = s.pool.p - delta.toNat + (-delta).toNat :=
      if_neg (by omega)
    simp only [lowerFigure, hback, hraised]
    omega

end PoolMoves

/-- A pool change that leaves G. -/
theorem does_changePool {s : State} {pool : Pool} {hit : Bool}
    (h : PoolMove s.pool s.periods.current.saturated (changePool pool hit s).pool
      (changePool pool hit s).periods.current.saturated) (hg : pool.g = s.pool.g) : Does s (changePool pool hit s) :=
  .money h (by rw [changePool_pool]; exact hg) (core_changePool ..)

/-- An addition to the current bank sets the saturated mark or leaves it. -/
theorem does_modCurrent {s : State} {f : Bank → Bank} (hf : ∀ k, (f k).saturated = false → k.saturated = false) :
    Does s (modCurrent f s) :=
  .money ((PoolMove.refl s.pool s.periods.current.saturated).marked (hf _)) rfl (core_modCurrent ..)

theorem unsaturated_of_or {a b : Bool} (h : (a || b) = false) : a = false :=
  (Bool.or_eq_false_iff.mp h).1

theorem does_addToBranchBank (b : BranchId) (f : BranchBank → BranchBank) (hit : BranchBank → Bool) (s : State) :
    Does s (addToBranchBank b f hit s) :=
  does_modCurrent fun _ => unsaturated_of_or

/-- F, T and E replaced, and the condition worked out anew (R8). -/
theorem does_setLimits (f t e : Nat) (s : State) : Does s (setLimits f t e s) := by
  have hp := recheckPool_pool (s.setPool { s.pool with floor := f, threshold := t, engagement := e })
  refine .money ?_ (by rw [setLimits, hp]; rfl) ?_
  · rw [setLimits, hp, recheckPool_periods]
    exact ⟨id, fun _ => rfl, id, fun _ => id⟩
  · rw [setLimits, recheckPool_periods, core_recheckPool]
    rfl

/-! ## Records -/

/-- An operation on the records alone that leaves every grant. -/
theorem Does.records {s t : State}
    (h : ∀ m, RecordKept (Commissioned s) (s.meter m) (t.meter m) ∧ (t.meter m).grant = (s.meter m).grant)
    (hc : core t = (core s).setMeters t.meters) : Does s t := by
  refine .single ?_
  rw [hc]
  exact .records (core s) t.meters h

theorem does_modMeter {s : State} {m : MeterId} {f : Meter → Meter}
    (h : RecordKept (Commissioned s) (s.meter m) (f (s.meter m))) (hg : (f (s.meter m)).grant = (s.meter m).grant) :
    Does s (modMeter m f s) := by
  refine .records (fun n => ?_) rfl
  rw [modMeter_meter]
  split
  · next e => subst e; exact ⟨h, hg⟩
  · exact ⟨.refl .., rfl⟩

theorem does_setMeters {s : State} {f : Meter → Meter} (h : ∀ r, RecordKept (Commissioned s) r (f r))
    (hg : ∀ r, (f r).grant = r.grant) : Does s (s.setMeters (mapAll f s.meters)) := by
  refine .records (fun m => ?_) rfl
  change RecordKept _ _ ((mapAll f s.meters).get m) ∧ ((mapAll f s.meters).get m).grant = _
  rw [mapAll_get]
  exact ⟨h _, hg _⟩

section Records

variable {c : Prop} {r r' : Meter}

/-- A meter that is not ACTIVE has no request (R58). -/
theorem Fit.noRequest (hf : Fit r) (h : r.state ≠ .active) : r.pendingReq = none := by
  by_contra hq
  exact h (hf (Option.ne_none_iff_isSome.mp hq)).1

/-- What the laws read of a record is its state, request, grant, rejected reading and timers. -/
theorem RecordKept.of_fields (hstate : r'.state = r.state) (hrequest : r'.pendingReq = r.pendingReq)
    (hgrant : r'.grant = r.grant) (hrejected : r'.rejected = r.rejected ∨ r'.rejected = none)
    (hholdOff : r'.holdOff = r.holdOff ∨ r'.holdOff = none) (hsupervision : r'.supervision = r.supervision) :
    RecordKept c r r' := by
  refine ⟨?_, fun _ => ?_, ?_, ?_⟩
  · simp only [Fit, hstate, hrequest, hgrant, imp_self]
  · simp only [InForm, hstate, hrequest, hgrant, hsupervision]
    rintro ⟨hout, hretiring, hrest⟩
    refine ⟨fun h => ?_, fun h => ?_, hrest⟩
    · obtain ⟨hq, hg, hj, hh, hs⟩ := hout h
      exact ⟨hq, hg, hrejected.elim (·.trans hj) id, hholdOff.elim (·.trans hh) id, hs⟩
    · obtain ⟨hh, hs⟩ := hretiring h
      exact ⟨hholdOff.elim (·.trans hh) id, hs⟩
  · simp only [Supervised, hstate, hsupervision, imp_self]
  · simp only [AsksInRange, hrequest, imp_self]

/-- A request is dropped. -/
theorem dropped_kept (hstate : r'.state = r.state) (hrequest : r'.pendingReq = none) (hgrant : r'.grant = r.grant)
    (hrejected : r'.rejected = r.rejected) (hholdOff : r'.holdOff = r.holdOff)
    (hsupervision : r'.supervision = r.supervision) : RecordKept c r r' := by
  refine ⟨?_, fun _ => ?_, ?_, ?_⟩
  · simp [Fit, hrequest]
  · simp only [InForm, hstate, hrequest, hgrant, hrejected, hholdOff, hsupervision, true_and]
    rintro ⟨hout, hrest⟩
    exact ⟨fun h => (hout h).2, hrest⟩
  · simp only [Supervised, hstate, hsupervision, imp_self]
  · simp [AsksInRange, hrequest]

/-- A meter that is withheld, SUSPENDED or SILENT, has no request and no supervision running (R29, R32). -/
theorem withheld_kept (hstate : r'.state = .suspended ∨ r'.state = .silent) (hrequest : r'.pendingReq = none)
    (hsupervision : r'.supervision = none) : RecordKept c r r' := by
  refine ⟨?_, fun _ _ => ?_, fun _ => ?_, ?_⟩
  · simp [Fit, hrequest]
  · obtain h | h := hstate <;> simp [InForm, h]
  · obtain h | h := hstate <;> simp [Supervised, h, hsupervision]
  · simp [AsksInRange, hrequest]

/-- A meter that begins its retirement (R131). -/
theorem retiring_kept (hstate : r'.state = if r.grant.any Grant.isOffered then .draining else .awaitingReading)
    (hrequest : r'.pendingReq = none) (hgrant : r'.grant = r.grant) (hholdOff : r'.holdOff = none)
    (hsupervision : r'.supervision = none) : RecordKept c r r' := by
  refine ⟨?_, fun _ _ => ?_, fun _ => ?_, ?_⟩
  · simp [Fit, hrequest]
  · cases ho : r.grant.any Grant.isOffered <;>
      simp [InForm, hstate, ho, hgrant, hholdOff, hsupervision]
  · cases ho : r.grant.any Grant.isOffered <;> simp [Supervised, hstate, ho, hsupervision]
  · simp [AsksInRange, hrequest]

/-- A running supervision timer starts afresh (R28). -/
theorem restarted_supervision_kept (h : r.supervision.isSome = true) (expiry : Word32) :
    RecordKept c r { r with supervision := some expiry } := by
  refine ⟨id, fun _ => ?_, ?_, id⟩
  · rintro ⟨hout, hretiring, hrest⟩
    refine ⟨fun hs => ?_, fun hs => ?_, hrest⟩
    · simp [hout hs] at h
    · simp [hretiring hs] at h
  · rintro ⟨hrun, -⟩
    exact ⟨fun _ => hrun h, fun _ _ => rfl⟩

/-- A SUSPENDED meter made ACTIVE with its supervision started (R190, R191). -/
theorem reactivated_kept (h : r.state = .suspended) (expiry : Word32) :
    RecordKept c r { r with state := .active, supervision := some expiry } := by
  refine ⟨fun hf hq => ?_, fun _ _ => by simp [InForm], fun _ => by simp [Supervised], id⟩
  have hnone : r.pendingReq = none := hf.noRequest (by rw [h]; decide)
  simp [hnone] at hq

/-- An inconsistent reading of an enrolled meter is kept (R40). -/
theorem rejected_kept (h : r.state ≠ .vacant ∧ r.state ≠ .retired) (x : Option Reading) :
    RecordKept c r { r with rejected := x } := by
  refine ⟨id, fun _ => ?_, id, id⟩
  rintro ⟨-, hrest⟩
  exact ⟨fun hs => absurd hs (not_or.mpr h), hrest⟩

/-- An accepted reading makes a SILENT meter ACTIVE and starts an ACTIVE meter's supervision (R38). -/
theorem accepted_kept (rd : Report) (expiry : Word32) : RecordKept c r (r.accepted rd expiry) := by
  refine ⟨fun hf hq => ?_, fun _ => ?_, ?_, id⟩
  · obtain ⟨hs, hg⟩ := hf hq
    simp [Meter.accepted, hs, hg]
  · rintro ⟨hout, hretiring, hdraining, hawaiting⟩
    cases hs : r.state <;> simp_all [InForm, Meter.accepted]
  · rintro ⟨hrun, hactive⟩
    cases hs : r.state <;> simp_all [Supervised, Meter.accepted]

/-- A retirement is completed once the grant is settled and the reading accepted (R136). -/
theorem retired_kept (h : r.state = .awaitingReading) (hgrant : r.grant = none) (hrejected : r.rejected = none) :
    RecordKept c r { r with state := .retired } := by
  refine ⟨fun hf hq => ?_, fun hf => ?_, fun hs => ?_, id⟩
  · have hnone : r.pendingReq = none := hf.noRequest (by rw [h]; decide)
    simp [hnone] at hq
  · rintro ⟨-, hretiring, -⟩
    obtain ⟨hh, hs⟩ := hretiring (.inr h)
    have hq : r.pendingReq = none := hf.noRequest (by rw [h]; decide)
    simp [InForm, hq, hgrant, hrejected, hh, hs]
  · obtain ⟨hrun, -⟩ := hs
    refine ⟨fun hsup => ?_, fun _ ha => by cases ha⟩
    cases h.symm.trans (hrun hsup)

/-- A request from an ACTIVE meter with no grant (R55, R56). -/
theorem requested_kept (h : r.state = .active) (hgrant : r.grant = none) {q : PendingRequest}
    (hq : q.q ≤ Config.maxGrant) : RecordKept c r { r with pendingReq := some q } := by
  refine ⟨fun _ _ => ⟨h, hgrant⟩, fun _ _ => by simp [InForm, h], id, fun _ x hx => ?_⟩
  cases hx
  exact hq

/-- The supervision of an ACTIVE meter started at the commissioning (R174). -/
theorem commissioned_kept (s : State) : RecordKept c r (Meter.commissioned s r) := by
  unfold Meter.commissioned
  split
  · next h =>
    refine ⟨id, fun _ => ?_, fun _ => ⟨fun _ => h, fun _ _ => rfl⟩, id⟩
    rintro -
    simp [InForm, h]
  · exact .refl ..

end Records

/-! ## The records' operations -/

/-- A law of one record that every meter but one keeps trivially. -/
theorem Does.meter {s t : State} {m : MeterId} {r : Meter}
    (hm : ∀ n, t.meter n = if n = m then r else s.meter n)
    (h : RecordKept (Commissioned s) (s.meter m) r) (hg : r.grant = (s.meter m).grant)
    (hc : core t = (core s).setMeters t.meters) : Does s t := by
  refine .records (fun n => ?_) hc
  rw [hm]
  split
  · next e => subst e; exact ⟨h, hg⟩
  · exact ⟨.refl .., rfl⟩

section Records

variable (s : State) (m : MeterId)

theorem core_removeRequest : core (removeRequest m s) = (core s).setMeters (removeRequest m s).meters := rfl

theorem does_removeRequest : Does s (removeRequest m s) :=
  .meter (removeRequest_meter s m) (dropped_kept rfl rfl rfl rfl rfl rfl) rfl (core_removeRequest s m)

theorem core_dropRequest : core (dropRequest m s) = (core s).setMeters (dropRequest m s).meters := by
  unfold dropRequest
  split <;> rfl

theorem core_enterSuspended : core (enterSuspended m s) = (core s).setMeters (enterSuspended m s).meters := by
  rw [enterSuspended, core_modMeter, core_dropRequest]
  rfl

theorem does_enterSuspended : Does s (enterSuspended m s) :=
  .meter (enterSuspended_meter s m) (withheld_kept (.inl rfl) rfl rfl) rfl (core_enterSuspended s m)

theorem does_suspendByFault : Does s (suspendByFault m s) := by
  unfold suspendByFault
  split
  · exact does_enterSuspended s m
  · exact .refl s

/-- The record of a meter that goes SILENT (R32). -/
theorem becomeSilent_meter (n : MeterId) : (becomeSilent m s).meter n =
    if n = m then { s.meter m with state := .silent, pendingReq := none, supervision := none } else s.meter n := by
  have hm : (becomeSilent m s).meters =
      (modMeter m (fun r => { r with state := .silent, supervision := none }) (dropRequest m s)).meters := by
    simp only [becomeSilent, setCondition_meters, joinSilentList]
    split <;> rfl
  rw [meter_congr hm n, modMeter_meter]
  simp only [dropRequest_meter]
  split <;> simp_all

theorem core_becomeSilent : core (becomeSilent m s) = (core s).setMeters (becomeSilent m s).meters := by
  have hm : (becomeSilent m s).meters =
      (modMeter m (fun r => { r with state := .silent, supervision := none }) (dropRequest m s)).meters := by
    simp only [becomeSilent, setCondition_meters, joinSilentList]
    split <;> rfl
  rw [hm]
  simp only [becomeSilent, core_setCondition, core_joinSilentList, core_modMeter, core_dropRequest]
  rfl

theorem does_becomeSilent : Does s (becomeSilent m s) :=
  .meter (becomeSilent_meter s m) (withheld_kept (.inr rfl) rfl rfl) rfl (core_becomeSilent s m)

/-- The record of a meter that begins its retirement (R130, R131). -/
theorem beginRetirement_meter (n : MeterId) : (beginRetirement m s).meter n =
    if n = m then { s.meter m with
      state := if (s.meter m).grant.any Grant.isOffered then .draining else .awaitingReading
      pendingReq := none, holdOff := none, supervision := none } else s.meter n := by
  simp only [beginRetirement, modMeter_meter, dropRequest_meter]
  split <;> simp_all

theorem core_beginRetirement : core (beginRetirement m s) = (core s).setMeters (beginRetirement m s).meters := by
  rw [beginRetirement, core_modMeter, core_dropRequest]
  rfl

theorem does_beginRetirement : Does s (beginRetirement m s) :=
  .meter (beginRetirement_meter s m) (retiring_kept rfl rfl rfl rfl rfl) rfl (core_beginRetirement s m)

theorem does_rejectReading (rd : Report) (h : (s.meter m).state ≠ .vacant ∧ (s.meter m).state ≠ .retired) :
    Does s (rejectReading m rd s) :=
  does_modMeter (rejected_kept h _) rfl

theorem does_reactivate (h : (s.meter m).state = .suspended) : Does s (reactivate m s) := by
  refine .meter (fun n => ?_) (reactivated_kept h (supervisionExpiry (modMeter m (fun r => { r with state := .active }) s) m))
    rfl rfl
  rw [reactivate, startSupervision, modMeter_meter]
  split
  · rw [modMeter_meter, if_pos rfl]
  · next hn => rw [modMeter_meter, if_neg hn]

theorem does_configureMeter (k : Settings) : Does s (configureMeter m k s) := by
  have hset : Does s (modMeter m (fun r => { r with settings := k }) s) :=
    does_modMeter (.of_fields rfl rfl rfl (.inl rfl) (.inl rfl) rfl) rfl
  unfold configureMeter
  dsimp only
  split
  · next h =>
    refine hset.trans (does_modMeter (restarted_supervision_kept ?_ _) rfl)
    rw [modMeter_meter, if_pos rfl]
    exact h
  · exact hset

theorem does_replaceRequest {r : PendingRequest} (hactive : (s.meter m).state = .active)
    (hgrant : (s.meter m).grant = none) (hq : r.q ≤ Config.maxGrant) : Does s (replaceRequest m r s) :=
  does_modMeter (requested_kept hactive hgrant hq) rfl

theorem does_joinOrder {r : PendingRequest} (hactive : (s.meter m).state = .active)
    (hgrant : (s.meter m).grant = none) (hq : r.q ≤ Config.maxGrant) : Does s (joinOrder m r s) :=
  (does_replaceRequest s m hactive hgrant hq).of_core rfl

theorem does_dropAllRequests : Does s (dropAllRequests s) :=
  does_setMeters (s := s) (fun _ => dropped_kept rfl rfl rfl rfl rfl rfl) (fun _ => rfl)

theorem does_clearPaceAndHoldOff : Does s (clearPaceAndHoldOff s) :=
  does_setMeters (s := s) (fun _ => .of_fields rfl rfl rfl (.inl rfl) (.inr rfl) rfl) (fun _ => rfl)

/-- An enrolment sets a record up afresh that is not enrolled (R25). -/
theorem does_enrol (b : BranchId) (ar : Nat) (labels : Word32) (h : (s.meter m).state.enrolled = false) :
    Does s (modMeter m (fun _ => Meter.enrolled b ar labels (enrolSupervision s)) s) := by
  refine .single (.enrolled (core s) m b ar labels (enrolSupervision s) ?_ fun hc => ?_)
  · change (s.meter m).state = .vacant ∨ (s.meter m).state = .retired
    cases hs : (s.meter m).state <;> simp_all [MeterState.enrolled]
  · have hc : s.monitor.state ≠ .uncommissioned := hc
    unfold enrolSupervision
    rw [if_neg hc]
    rfl

end Records

/-! ## Faults and the part state -/

/-- An operation on the fault log, the part state and the engine's state. -/
theorem Does.monitor {s t : State} (k : Monitor) (x : EngineState)
    (hlog : LogInRange s.monitor.log → LogInRange k.log)
    (hpart : k.state ≠ .uncommissioned →
      Commissioned s ∨ ∀ m, (s.meter m).state = .active → (s.meter m).supervision.isSome = true)
    (hfits : (s.monitor.state = .inService ↔ s.engine.state ≠ .stopped) → (k.state = .inService ↔ x ≠ .stopped))
    (hquiet : x = .quiescing → s.engine.state = .quiescing ∨ 0 < occupiedSlots s)
    (hc : core t = ((core s).setMonitor { k with policy := .strict }).setEngine { (core s).engine with state := x }) :
    Does s t := by
  refine .single ?_
  rw [hc]
  exact .monitor (core s) { k with policy := .strict } x hlog hpart hfits hquiet

/-- The part state stays, and with it the engine's. -/
theorem does_setLog {s : State} {log : FaultLog} (h : LogInRange s.monitor.log → LogInRange log) :
    Does s (s.setMonitor { s.monitor with log := log }) :=
  .monitor { s.monitor with log := log } s.engine.state h .inl id .inl rfl

theorem raised_log_inRange {log : FaultLog} (f : FaultRecord) (h : LogInRange log) : LogInRange (log.raised f) := by
  refine ⟨?_, h.2⟩
  change (if log.severity = .none then log.later else raiseTo Config.maxTally log.later 1) ≤ _
  split
  · exact h.1
  · rw [raiseTo_eq_min]; exact min_le_right ..

/-- Lockdown is entered from service (R180, R184). -/
theorem does_enterLockdown {s : State} (h : s.monitor.state = .inService) : Does s (enterLockdown s) := by
  have hm : Does s ((s.setMonitor { s.monitor with state := .lockdown }).setEngine { s.engine with state := .stopped }) :=
    .monitor { s.monitor with state := .lockdown } .stopped id
      (fun _ => .inl (by unfold Commissioned; rw [h]; decide)) (fun _ => by simp) (fun hx => by cases hx) rfl
  exact (hm.trans (does_dropAllRequests _)).of_core (core_haltRunningList _)

theorem does_raiseFault (f : FaultRecord) (s : State) : Does s (raiseFault f s) := by
  have hlogged : Does s (setCondition .fault (s.setMonitor { s.monitor with log := s.monitor.log.raised f })) :=
    (does_setLog (raised_log_inRange f)).of_core (core_setCondition ..)
  have hlock {t : State} (ht : Does s t) (hm : t.monitor.state = s.monitor.state) :
      Does s (if needsLockdown s f.kind then enterLockdown t else t) := by
    split
    · next hl =>
      have hs : s.monitor.state = .inService := by
        simp only [needsLockdown, Bool.and_eq_true, beq_iff_eq] at hl
        exact hl.1
      exact ht.trans (does_enterLockdown (hm.trans hs))
    · exact ht
  unfold raiseFault
  cases f.meter with
  | none => exact hlock hlogged (by simp)
  | some m =>
    dsimp only
    by_cases hl : s.monitor.state = .lockdown
    · rw [if_pos hl]
      exact hlock hlogged (by simp)
    · rw [if_neg hl]
      exact hlock (hlogged.trans (does_suspendByFault _ _)) (by simp)

theorem does_handFault (f : FaultRecord) (s : State) : Does s (handFault f s) := by
  unfold handFault
  split
  · exact does_setLog fun h => ⟨h.1, by rw [raiseTo_eq_min]; exact min_le_right ..⟩
  · exact does_raiseFault f s

/-! ## A restart -/

theorem mapAll_mapAll {α β γ : Type} {n : Nat} (f : α → β) (g : β → γ) (v : Vector α n) :
    mapAll g (mapAll f v) = mapAll (fun x => g (f x)) v :=
  vector_ext_get fun i => by simp only [mapAll_get]

theorem core_restartTakesEffect (s : State) : core (restartTakesEffect s) =
    ((core s).setMeters (mapAll Meter.restarted s.meters)).setEngine { (core s).engine with state := .active } := by
  have hm : mapAll (fun r : Meter => { r with holdOff := none })
      (mapAll (fun r : Meter => { r with pendingReq := none }) s.meters) = mapAll Meter.restarted s.meters := mapAll_mapAll ..
  rw [restartTakesEffect, core_setStarted, core_setEngine, core_haltRunningList, ← hm]
  simp
  rfl

theorem core_settleRestart (s : State) : core (settleRestart s) = settled (core s) := by
  change _ = if s.engine.state = .quiescing ∧ occupiedSlots s = 0 then _ else _
  unfold settleRestart
  split
  · exact core_restartTakesEffect s
  · rfl

theorem core_afterSlotFreed (g : Grant) (s : State) : core (afterSlotFreed g s) = settledAfter g (core s) := by
  unfold afterSlotFreed settledAfter
  split
  · exact core_settleRestart s
  · rfl

/-- With the engine ACTIVE a restart drops the requests, stops the hold-offs and leaves the engine ACTIVE (R110). -/
theorem does_restartTakesEffect {s : State} (h : s.engine.state = .active) : Does s (restartTakesEffect s) := by
  refine (does_setMeters (s := s) (f := Meter.restarted) (restarted_kept _) fun _ => rfl).of_core ?_
  rw [core_restartTakesEffect, ← h]
  rfl

/-! ## Stock -/

section Stock

variable (s : State) (b : BranchId) (l : LineNo)

/-- The mark already tells whether the line is below its level. -/
theorem evaluateReorder_of_standing
    (h : (s.stockLine b l).raised = decide ((s.stockLine b l).onHand < (s.stockLine b l).level)) :
    evaluateReorder b l s = s := by
  unfold evaluateReorder
  by_cases hbelow : (s.stockLine b l).onHand < (s.stockLine b l).level <;> simp_all

/-- The line has fallen below its level. -/
theorem evaluateReorder_of_fallen (hbelow : (s.stockLine b l).onHand < (s.stockLine b l).level)
    (hraised : (s.stockLine b l).raised = false) :
    evaluateReorder b l s = setCondition .reorder ((modStockLine b l (fun x => { x with raised := true }) s).setStock
      { (modStockLine b l (fun x => { x with raised := true }) s).stock with
        reorder := s.stock.reorder ++ [(b, l)] }) := by
  unfold evaluateReorder
  simp only [hbelow, hraised, if_true, Bool.false_eq_true, if_false]
  rfl

/-- The line stands below its level no more. -/
theorem evaluateReorder_of_restored (hbelow : ¬(s.stockLine b l).onHand < (s.stockLine b l).level)
    (hraised : (s.stockLine b l).raised = true) :
    evaluateReorder b l s = (modStockLine b l (fun x => { x with raised := false }) s).setStock
      { (modStockLine b l (fun x => { x with raised := false }) s).stock with
        reorder := s.stock.reorder.filter (fun x => x != (b, l)) } := by
  unfold evaluateReorder
  simp only [hbelow, hraised, if_true, if_false]
  rfl

/-- An evaluation raises the mark, clears it, or leaves all as it stands. -/
theorem evaluateReorder_cases :
    (s.stockLine b l).raised = decide ((s.stockLine b l).onHand < (s.stockLine b l).level) ∨
      ((s.stockLine b l).onHand < (s.stockLine b l).level ∧ (s.stockLine b l).raised = false) ∨
      (¬(s.stockLine b l).onHand < (s.stockLine b l).level ∧ (s.stockLine b l).raised = true) := by
  by_cases hbelow : (s.stockLine b l).onHand < (s.stockLine b l).level <;>
    cases (s.stockLine b l).raised <;> simp [hbelow]

/-- The line evaluated takes its reorder mark from on hand and level; other lines stay (R156). -/
theorem evaluateReorder_stockLine (c : BranchId) (k : LineNo) : (evaluateReorder b l s).stockLine c k =
    if c = b ∧ k = l then
      { s.stockLine b l with raised := decide ((s.stockLine b l).onHand < (s.stockLine b l).level) }
    else s.stockLine c k := by
  obtain h | ⟨hbelow, hraised⟩ | ⟨hbelow, hraised⟩ := evaluateReorder_cases s b l
  · rw [evaluateReorder_of_standing s b l h, ← h]
    split
    · next e => obtain ⟨rfl, rfl⟩ := e; rfl
    · rfl
  · rw [evaluateReorder_of_fallen s b l hbelow hraised, decide_eq_true hbelow]
    exact modStockLine_stockLine s b c l k (fun x => { x with raised := true })
  · rw [evaluateReorder_of_restored s b l hbelow hraised, decide_eq_false hbelow]
    exact modStockLine_stockLine s b c l k (fun x => { x with raised := false })

/-- The reorder list gains the line, loses it, or stays (R156). -/
theorem evaluateReorder_reorder : (evaluateReorder b l s).stock.reorder =
    if (s.stockLine b l).onHand < (s.stockLine b l).level then
      if (s.stockLine b l).raised then s.stock.reorder else s.stock.reorder ++ [(b, l)]
    else if (s.stockLine b l).raised then s.stock.reorder.filter (fun x => x != (b, l)) else s.stock.reorder := by
  obtain h | ⟨hbelow, hraised⟩ | ⟨hbelow, hraised⟩ := evaluateReorder_cases s b l
  · rw [evaluateReorder_of_standing s b l h, h]
    split <;> simp_all
  · rw [evaluateReorder_of_fallen s b l hbelow hraised]
    simp [hbelow, hraised]
  · rw [evaluateReorder_of_restored s b l hbelow hraised]
    simp [hbelow, hraised]

theorem core_evaluateReorder : core (evaluateReorder b l s) =
    (core s).setStock { (evaluateReorder b l s).stock with tolerance := 0 } := by
  obtain h | ⟨hbelow, hraised⟩ | ⟨hbelow, hraised⟩ := evaluateReorder_cases s b l
  · rw [evaluateReorder_of_standing s b l h]; rfl
  · rw [evaluateReorder_of_fallen s b l hbelow hraised, core_setCondition]; rfl
  · rw [evaluateReorder_of_restored s b l hbelow hraised]; rfl

end Stock

/-- Pieces come to a line or leave it, and it is evaluated for reorder: both laws stand again (R155 to R157). -/
theorem stockKept_evaluateReorder {s : State} {b : BranchId} {l : LineNo} {f : StockLine → StockLine}
    (honHand : (s.stockLine b l).onHand ≤ Config.maxPieces → (f (s.stockLine b l)).onHand ≤ Config.maxPieces)
    (hraised : (f (s.stockLine b l)).raised = (s.stockLine b l).raised) :
    StockKept s.stock (evaluateReorder b l (modStockLine b l f s)).stock := by
  have hline (c : BranchId) (k : LineNo) : (evaluateReorder b l (modStockLine b l f s)).stockLine c k =
      if c = b ∧ k = l then
        { f (s.stockLine b l) with
          raised := decide ((f (s.stockLine b l)).onHand < (f (s.stockLine b l)).level) }
      else s.stockLine c k := by
    rw [evaluateReorder_stockLine, modStockLine_stockLine_self, modStockLine_stockLine]
    split <;> rfl
  have hlist := evaluateReorder_reorder (modStockLine b l f s) b l
  rw [modStockLine_stockLine_self, hraised] at hlist
  have hstock : StockLaw s → StockLaw (evaluateReorder b l (modStockLine b l f s)) := fun hs c k => by
    rw [hline]
    split
    · exact ⟨honHand (hs b l).1, by simp⟩
    · exact hs c k
  refine ⟨fun _ => hstock, fun _ hs hr => ?_⟩
  change ReorderLaw (evaluateReorder b l (modStockLine b l f s))
  obtain ⟨hnodup, hbelow⟩ : s.stock.reorder.Nodup ∧
      ∀ x ∈ s.stock.reorder, (s.stockLine x.1 x.2).onHand < (s.stockLine x.1 x.2).level := hr
  have hmem : (b, l) ∈ s.stock.reorder → (s.stockLine b l).raised = true := fun hx => (hs b l).2.mpr (hbelow _ hx)
  have hother {x : BranchId × LineNo} (hx : x ∈ s.stock.reorder) (hne : x ≠ (b, l)) :
      ((evaluateReorder b l (modStockLine b l f s)).stockLine x.1 x.2).onHand <
        ((evaluateReorder b l (modStockLine b l f s)).stockLine x.1 x.2).level := by
    rw [hline, if_neg fun e => hne (Prod.ext e.1 e.2)]
    exact hbelow x hx
  have hhere (h : (f (s.stockLine b l)).onHand < (f (s.stockLine b l)).level) :
      ((evaluateReorder b l (modStockLine b l f s)).stockLine b l).onHand <
        ((evaluateReorder b l (modStockLine b l f s)).stockLine b l).level := by
    rw [hline, if_pos ⟨rfl, rfl⟩]
    exact h
  unfold ReorderLaw
  rw [hlist, modStockLine_stock]
  change List.Nodup (ite _ (ite _ s.stock.reorder _) (ite _ (s.stock.reorder.filter _) s.stock.reorder)) ∧
    ∀ x ∈ (ite _ (ite _ s.stock.reorder _) (ite _ (s.stock.reorder.filter _) s.stock.reorder)), _
  split_ifs with hlow hup hup
  · refine ⟨hnodup, fun x hx => ?_⟩
    by_cases e : x = (b, l)
    · subst e; exact hhere hlow
    · exact hother hx e
  · have hnew : (b, l) ∉ s.stock.reorder := fun hx => hup (hmem hx)
    refine ⟨List.nodup_append.mpr ⟨hnodup, by simp, ?_⟩, fun x hx => ?_⟩
    · rintro x hx y hy rfl
      rw [List.mem_singleton] at hy
      subst hy
      exact hnew hx
    · obtain hx | hx := List.mem_append.mp hx
      · exact hother hx fun e => hnew (e ▸ hx)
      · rw [List.mem_singleton] at hx
        subst hx
        exact hhere hlow
  · refine ⟨hnodup.filter _, fun x hx => ?_⟩
    obtain ⟨hx, hne⟩ := List.mem_filter.mp hx
    exact hother hx (by simpa using hne)
  · exact ⟨hnodup, fun x hx => hother hx fun e => hup (hmem (e ▸ hx))⟩

theorem does_evaluateReorder {s : State} {b : BranchId} {l : LineNo} {f : StockLine → StockLine}
    (honHand : (s.stockLine b l).onHand ≤ Config.maxPieces → (f (s.stockLine b l)).onHand ≤ Config.maxPieces)
    (hraised : (f (s.stockLine b l)).raised = (s.stockLine b l).raised) :
    Does s (evaluateReorder b l (modStockLine b l f s)) := by
  refine .single ?_
  rw [core_evaluateReorder]
  have hk := stockKept_evaluateReorder honHand hraised
  exact .stock (core s) _ ⟨hk.lines, hk.reorder⟩

/-! ## An accepted reading -/

section Readings

variable (s : State) (m : MeterId) (rd : Report)

theorem does_recordUsage (b : BranchId) (used : Nat) : Does s (recordUsage b used s) := by
  unfold recordUsage
  split
  · exact does_addToBranchBank ..
  · exact .refl s

theorem does_consumeLabels (b : BranchId) (l : LineNo) (n : Nat) : Does s (consumeLabels b l n s) :=
  does_evaluateReorder (fun h => (Nat.sub_le _ n).trans h) rfl

theorem does_recordLabels (b : BranchId) (link : Option LineNo) (delta : Nat) :
    Does s (recordLabels b link delta s) := by
  unfold recordLabels
  split
  · split
    · exact does_consumeLabels s b _ delta
    · exact .refl s
  · exact .refl s

theorem does_acceptReading : Does s (acceptReading m rd s) := by
  unfold acceptReading
  refine Does.trans (does_recordUsage s _ _) (Does.trans (does_modMeter ?_ rfl) (does_recordLabels ..))
  exact accepted_kept ..

/-- A reading takes labels from a linked line, or leaves the stock. -/
theorem recordLabels_stockKept (b : BranchId) (link : Option LineNo) (delta : Nat) :
    StockKept s.stock (recordLabels b link delta s).stock := by
  unfold recordLabels
  split
  · split
    · exact stockKept_evaluateReorder (fun h => (Nat.sub_le _ delta).trans h) rfl
    · exact .refl _
  · exact .refl _

theorem acceptReading_stockKept : StockKept s.stock (acceptReading m rd s).stock := by
  have h := recordLabels_stockKept
    (modMeter m (fun x => x.accepted rd (supervisionExpiry s m))
      (recordUsage (s.meter m).branch (rd.ar - (s.meter m).arMirror) s))
    (s.meter m).branch (s.meter m).settings.link (rd.labels - (s.meter m).lastLabels).toNat
  rw [modMeter_stock, recordUsage_stock] at h
  exact h

/-- Postage used may set the saturated mark, and nothing clears it. -/
theorem acceptReading_saturated (h : (acceptReading m rd s).periods.current.saturated = false) :
    s.periods.current.saturated = false := by
  simp only [acceptReading, recordLabels_periods, modMeter_periods, recordUsage] at h
  split at h
  · exact unsaturated_of_or h
  · exact h

end Readings

/-! ## The holders of the classes -/

section Held

variable {s t : State}

theorem heldBy_of_notices (h : t.notices = s.notices) : heldBy t = heldBy s := by
  unfold heldBy
  rw [h]

theorem heldBy_of_core (h : (core t).notices = (core s).notices) : heldBy t = heldBy s :=
  congrArg Notices.classes h

theorem heldBy_changePool (pool : Pool) (hit : Bool) (s : State) : heldBy (changePool pool hit s) = heldBy s :=
  heldBy_of_core (by rw [core_changePool]; rfl)

theorem heldBy_evaluateReorder (b : BranchId) (l : LineNo) (s : State) : heldBy (evaluateReorder b l s) = heldBy s :=
  heldBy_of_core (by rw [core_evaluateReorder]; rfl)

theorem heldBy_acceptReading (m : MeterId) (rd : Report) (s : State) : heldBy (acceptReading m rd s) = heldBy s := by
  have hrest {u : State} (h : u.notices = s.notices) (b : BranchId) (link : Option LineNo) (delta : Nat) :
      heldBy (recordLabels b link delta u) = heldBy s := by
    unfold recordLabels
    split
    · split
      · exact (heldBy_evaluateReorder ..).trans (heldBy_of_notices (by simpa using h))
      · exact heldBy_of_notices h
    · exact heldBy_of_notices h
  exact hrest (by simp) ..

end Held

/-! ## The resolution of a grant -/

section Resolution

variable (s : State)

theorem finishEntry_list (n : Nat) (outcome : EntryOutcome) : (finishEntry n outcome s).list =
    { s.list with entries := s.list.entries.modify n (fun e => { e with outcome := outcome }) } := by
  unfold finishEntry
  dsimp only
  split <;> simp [modEntry]

theorem core_finishEntry (n : Nat) (outcome : EntryOutcome) : core (finishEntry n outcome s) =
    withEntries (s.list.entries.modify n (fun e => { e with outcome := outcome })) s.list.next (core s) := by
  unfold finishEntry
  dsimp only
  split <;> simp

theorem core_entryResolved (source : GrantSource) (result : GrantResult) : core (entryResolved source result s) =
    withEntries (entriesAfter source result s.list.entries) s.list.next (core s) := by
  unfold entryResolved
  split
  · dsimp only
    split <;> simp [core_finishEntry, entriesAfter]
  · next h =>
    have he : entriesAfter source result s.list.entries = s.list.entries := by
      unfold entriesAfter
      split
      · exact absurd rfl (h _)
      · rfl
    rw [he]
    rfl

theorem entryResolved_entries (source : GrantSource) (result : GrantResult) :
    (entryResolved source result s).list.entries = entriesAfter source result s.list.entries :=
  congrArg (fun t => t.list.entries) (core_entryResolved s source result)

theorem entryResolved_next (source : GrantSource) (result : GrantResult) :
    (entryResolved source result s).list.next = s.list.next :=
  congrArg (fun t => t.list.next) (core_entryResolved s source result)

theorem freeGrantSlot_engine (g : Grant) :
    (freeGrantSlot g s).engine = { s.engine with slots := slotsWithout g s.engine.slots } := by
  unfold freeGrantSlot slotsWithout
  cases g.phase <;> rfl

/-- What the resolution of a grant leaves of the core: the pool, the records, the stock, the entry and the slot. -/
theorem core_of_resolved {s t : State} {g : Grant} {result : GrantResult} (hpowered : t.powered = s.powered)
    (hengine : t.engine = { s.engine with slots := slotsWithout g s.engine.slots })
    (hentries : t.list.entries = entriesAfter g.source result s.list.entries) (hnext : t.list.next = s.list.next)
    (hmonitor : t.monitor = s.monitor) (hheld : heldBy t = heldBy s) (hoperations : t.operations = s.operations)
    (haudit : t.audit = s.audit) :
    core t = withPool t.pool t.periods.current.saturated
      (withEntries (entriesAfter g.source result (core s).list.entries) (core s).list.next
        ((((core s).setMeters t.meters).setStock { t.stock with tolerance := 0 }).setEngine
          { (core s).engine with slots := slotsWithout g (core s).engine.slots })) := by
  unfold core
  rw [hpowered, hengine, hentries, hnext, hmonitor, hheld, hoperations, haudit]
  rfl

/-- A resolution, up to what its freed slot completes. -/
def confirmed (m : MeterId) (g : Grant) (claim : Claim) (rd : Report) : State :=
  leaveDraining m (entryResolved g.source .applied (bankApplied (s.meter m).branch g.amount (startHoldOff m
    (writeOutcome m g .applied claim (clearGrant m g (acceptReading m rd
      (creditMeter m g.amount (poolConfirm g.amount s))))))))

def released (m : MeterId) (g : Grant) (claim : Claim) (rd : Option Report) : State :=
  leaveDraining m (entryResolved g.source .reversed (bankReversed (s.meter m).branch (writeOutcome m g .reversed claim
    (clearGrant m g (acceptOptional m rd (restoreAllowance (s.meter m).branch g (poolRelease g.amount s)))))))

theorem confirmGrant_eq (m : MeterId) (g : Grant) (claim : Claim) (rd : Report) :
    confirmGrant m g claim rd s = afterSlotFreed g (confirmed s m g claim rd) := rfl

theorem releaseGrant_eq (m : MeterId) (g : Grant) (claim : Claim) (rd : Option Report) :
    releaseGrant m g claim rd s = afterSlotFreed g (released s m g claim rd) := rfl

/-- The record of a meter whose grant has been resolved, from the record with the reading accepted. -/
def Meter.resolved (r : Meter) (o : LastOutcome) : Meter :=
  { r with
    grant := none
    lastOutcome := some o
    state := if r.state = .draining then .awaitingReading else r.state }

/-- A resolved grant leaves the record in form. -/
theorem resolved_kept {c : Prop} {r : Meter} {g : Grant} (hg : r.grant = some g) (o : LastOutcome) :
    RecordKept c r (Meter.resolved r o) := by
  refine ⟨fun hf hq => ?_, fun _ => ?_, ?_, id⟩
  · have := (hf hq).2
    rw [hg] at this
    cases this
  · rintro ⟨hout, hretiring, -, -⟩
    cases hs : r.state <;> simp_all [InForm, Meter.resolved]
  · rintro ⟨hrun, hactive⟩
    cases hs : r.state <;> simp_all [Supervised, Meter.resolved]

/-- A hold-off starts for an ACTIVE or SUSPENDED meter alone (R34). -/
theorem rested_kept {c : Prop} {r : Meter} (pace : Nat) :
    RecordKept c r { r with holdOff := holdOffAfter s r pace } := by
  refine ⟨id, fun _ => ?_, id, id⟩
  rintro ⟨hout, hretiring, hrest⟩
  refine ⟨fun hs => ?_, fun hs => ?_, hrest⟩
  · obtain ⟨hq, hg, hj, hh, hsup⟩ := hout hs
    exact ⟨hq, hg, hj, (if_neg (by obtain h | h := hs <;> simp_all)).trans hh, hsup⟩
  · obtain ⟨hh, hsup⟩ := hretiring hs
    exact ⟨(if_neg (by obtain h | h := hs <;> simp_all)).trans hh, hsup⟩

end Resolution

section Confirmation

variable (s : State) (m n : MeterId) (g : Grant) (claim : Claim)

theorem leaveDraining_meter : (leaveDraining m s).meter n =
    if n = m then { s.meter m with state := if (s.meter m).state = .draining then .awaitingReading else (s.meter m).state }
    else s.meter n :=
  modMeter_meter ..

theorem creditMeter_meter (x : Nat) : (creditMeter m x s).meter n =
    if n = m then { s.meter m with credited := (s.meter m).credited + x, ct := (s.meter m).ct + x } else s.meter n :=
  modMeter_meter ..

theorem writeOutcome_meter (result : GrantResult) : (writeOutcome m g result claim s).meter n =
    if n = m then { s.meter m with lastOutcome := some { serial := g.serial, result := result, claim := claim } }
    else s.meter n :=
  modMeter_meter ..

theorem clearGrant_meter : (clearGrant m g s).meter n = if n = m then { s.meter m with grant := none } else s.meter n :=
  (meter_congr (freeGrantSlot_meters ..) n).trans (modMeter_meter ..)

theorem startHoldOff_meter : (startHoldOff m s).meter n =
    if n = m then { s.meter m with
      holdOff := holdOffAfter s (s.meter m) (s.branch (s.meter m).branch).pace } else s.meter n :=
  (meter_congr rfl n).trans (modMeter_meter s m n
    (fun r => { r with holdOff := holdOffAfter s r (s.branch (s.meter m).branch).pace }))

theorem entryResolved_meter (source : GrantSource) (result : GrantResult) :
    (entryResolved source result s).meter n = s.meter n :=
  meter_congr (by simp) n

theorem bankApplied_meter (b : BranchId) (x : Nat) : (bankApplied b x s).meter n = s.meter n :=
  meter_congr (by simp) n

theorem bankReversed_meter (b : BranchId) : (bankReversed b s).meter n = s.meter n :=
  meter_congr (by simp) n

theorem poolConfirm_meter (x : Nat) : (poolConfirm x s).meter n = s.meter n :=
  meter_congr (by simp) n

theorem poolRelease_meter (x : Nat) : (poolRelease x s).meter n = s.meter n :=
  meter_congr (by simp) n

theorem restoreAllowance_meter (b : BranchId) : (restoreAllowance b g s).meter n = s.meter n :=
  meter_congr (by simp) n

/-- The record after a confirmation (R94, R98). -/
theorem confirmed_meter (rd : Report) : (confirmed s m g claim rd).meter n =
    if n = m then
      let a := { s.meter m with
        credited := (s.meter m).credited + g.amount, ct := (s.meter m).ct + g.amount }.accepted rd (supervisionExpiry s m)
      Meter.resolved { a with holdOff := holdOffAfter s a (s.branch (s.meter m).branch).pace }
        { serial := g.serial, result := .applied, claim := claim }
    else s.meter n := by
  simp only [confirmed, leaveDraining_meter, entryResolved_meter, bankApplied_meter, startHoldOff_meter,
    writeOutcome_meter, clearGrant_meter, acceptReading_meter, creditMeter_meter, poolConfirm_meter, if_true]
  by_cases h : n = m
  · subst h
    simp [Meter.resolved, Meter.accepted, State.branch, supervisionExpiry, expiryAfter, holdOffAfter, creditMeter_meter,
      poolConfirm_meter]
  · simp [h]

/-- The record after a release (R95). -/
theorem released_meter (rd : Option Report) : (released s m g claim rd).meter n =
    if n = m then
      Meter.resolved (rd.elim (s.meter m) fun x => (s.meter m).accepted x (supervisionExpiry s m))
        { serial := g.serial, result := .reversed, claim := claim }
    else s.meter n := by
  simp only [released, leaveDraining_meter, entryResolved_meter, bankReversed_meter, writeOutcome_meter, clearGrant_meter,
    if_true]
  by_cases h : n = m
  · subst h
    cases rd with
    | none =>
      simp [acceptOptional, Meter.resolved, restoreAllowance_meter, poolRelease_meter]
      rfl
    | some x =>
      simp [acceptOptional, Meter.resolved, acceptReading_meter, restoreAllowance_meter, poolRelease_meter,
        supervisionExpiry, expiryAfter]
      rfl
  · cases rd <;> simp [h, acceptOptional, acceptReading_meter, restoreAllowance_meter, poolRelease_meter]

@[simp] theorem clearGrant_engine :
    (clearGrant m g s).engine = { s.engine with slots := slotsWithout g s.engine.slots } :=
  freeGrantSlot_engine ..

theorem heldBy_entryResolved (source : GrantSource) (result : GrantResult) :
    heldBy (entryResolved source result s) = heldBy s :=
  heldBy_of_core (by rw [core_entryResolved]; rfl)

theorem confirmed_pool (rd : Report) : (confirmed s m g claim rd).pool = (poolConfirm g.amount s).pool := by
  simp [confirmed]

theorem released_pool (rd : Option Report) : (released s m g claim rd).pool = (poolRelease g.amount s).pool := by
  cases rd <;> simp [released, acceptOptional]

theorem confirmed_saturated {rd : Report} (h : (confirmed s m g claim rd).periods.current.saturated = false) :
    (poolConfirm g.amount s).periods.current.saturated = false := by
  simp only [confirmed, leaveDraining_periods, entryResolved_periods] at h
  have hread := unsaturated_of_or h
  simp only [startHoldOff_periods, writeOutcome_periods, clearGrant_periods] at hread
  simpa using acceptReading_saturated _ _ _ hread

theorem released_saturated {rd : Option Report} (h : (released s m g claim rd).periods.current.saturated = false) :
    (poolRelease g.amount s).periods.current.saturated = false := by
  simp only [released, leaveDraining_periods, entryResolved_periods] at h
  have hread := unsaturated_of_or h
  simp only [writeOutcome_periods, clearGrant_periods] at hread
  cases rd with
  | none => simpa [acceptOptional] using hread
  | some x => simpa using acceptReading_saturated _ _ _ hread

theorem core_confirmed (rd : Report) : core (confirmed s m g claim rd) =
    withPool (confirmed s m g claim rd).pool (confirmed s m g claim rd).periods.current.saturated
      (withEntries (entriesAfter g.source .applied (core s).list.entries) (core s).list.next
        ((((core s).setMeters (confirmed s m g claim rd).meters).setStock
            { (confirmed s m g claim rd).stock with tolerance := 0 }).setEngine
          { (core s).engine with slots := slotsWithout g (core s).engine.slots })) := by
  refine core_of_resolved (by simp [confirmed]) (by simp [confirmed]) ?_ ?_ (by simp [confirmed]) ?_ (by simp [confirmed])
    (by simp [confirmed])
  · simp [confirmed, entryResolved_entries]
  · simp [confirmed, entryResolved_next]
  · calc heldBy (confirmed s m g claim rd)
        = heldBy (acceptReading m rd (creditMeter m g.amount (poolConfirm g.amount s))) :=
          (heldBy_of_notices (leaveDraining_notices ..)).trans
            ((heldBy_entryResolved ..).trans (heldBy_of_notices (by simp)))
      _ = heldBy (poolConfirm g.amount s) := (heldBy_acceptReading ..).trans (heldBy_of_notices (by simp))
      _ = heldBy s := heldBy_changePool ..

theorem core_released (rd : Option Report) : core (released s m g claim rd) =
    withPool (released s m g claim rd).pool (released s m g claim rd).periods.current.saturated
      (withEntries (entriesAfter g.source .reversed (core s).list.entries) (core s).list.next
        ((((core s).setMeters (released s m g claim rd).meters).setStock
            { (released s m g claim rd).stock with tolerance := 0 }).setEngine
          { (core s).engine with slots := slotsWithout g (core s).engine.slots })) := by
  have hread (t : State) : (acceptOptional m rd t).powered = t.powered ∧ (acceptOptional m rd t).engine = t.engine ∧
      (acceptOptional m rd t).list = t.list ∧ (acceptOptional m rd t).monitor = t.monitor ∧
      heldBy (acceptOptional m rd t) = heldBy t ∧ (acceptOptional m rd t).operations = t.operations ∧
      (acceptOptional m rd t).audit = t.audit := by
    cases rd with
    | none => exact ⟨rfl, rfl, rfl, rfl, rfl, rfl, rfl⟩
    | some x => simp [acceptOptional, heldBy_acceptReading]
  obtain ⟨hpowered, hengine, hlist, hmonitor, hheld, hoperations, haudit⟩ :=
    hread (restoreAllowance (s.meter m).branch g (poolRelease g.amount s))
  refine core_of_resolved (by simp [released, hpowered]) (by simp [released, hengine]) ?_ ?_ (by simp [released, hmonitor]) ?_
    (by simp [released, hoperations]) (by simp [released, haudit])
  · simp [released, entryResolved_entries, hlist]
  · simp [released, entryResolved_next, hlist]
  · calc heldBy (released s m g claim rd)
        = heldBy (acceptOptional m rd (restoreAllowance (s.meter m).branch g (poolRelease g.amount s))) :=
          (heldBy_of_notices (leaveDraining_notices ..)).trans
            ((heldBy_entryResolved ..).trans (heldBy_of_notices (by simp)))
      _ = heldBy (poolRelease g.amount s) := hheld.trans (heldBy_of_notices (by simp))
      _ = heldBy s := heldBy_changePool ..

/-- A confirmation is one complete change (R94). -/
theorem does_confirmGrant (rd : Report) (h : (s.meter m).grant = some g) : Does s (confirmGrant m g claim rd s) := by
  refine .single ?_
  rw [confirmGrant_eq, core_afterSlotFreed, core_confirmed]
  refine .resolved (core s) m g .applied _ _ _ _ h ?_ ?_ (fun n hn => ?_) ?_ ?_ ?_
  · rw [confirmed_pool]
    exact (poolConfirm_move s g.amount).marked (confirmed_saturated s m g claim)
  · rw [confirmed_pool, poolConfirm, changePool_pool]
    rfl
  · exact (confirmed_meter s m n g claim rd).trans (if_neg hn)
  · exact congrArg Meter.grant ((confirmed_meter s m m g claim rd).trans (if_pos rfl))
  · have hr := (confirmed_meter s m m g claim rd).trans (if_pos rfl)
    change RecordKept _ (s.meter m) ((confirmed s m g claim rd).meter m)
    rw [hr]
    have hpaid : RecordKept (Commissioned s) (s.meter m) { s.meter m with
        credited := (s.meter m).credited + g.amount, ct := (s.meter m).ct + g.amount } :=
      .of_fields rfl rfl rfl (.inl rfl) (.inl rfl) rfl
    refine ((hpaid.trans (accepted_kept rd _)).trans (rested_kept s _)).trans (resolved_kept (g := g) ?_ _)
    exact h
  · have hk : StockKept s.stock (confirmed s m g claim rd).stock := by
      simpa [confirmed] using acceptReading_stockKept (creditMeter m g.amount (poolConfirm g.amount s)) m rd
    exact ⟨hk.lines, hk.reorder⟩

/-- A release is one complete change (R95). -/
theorem does_releaseGrant (rd : Option Report) (h : (s.meter m).grant = some g) :
    Does s (releaseGrant m g claim rd s) := by
  refine .single ?_
  rw [releaseGrant_eq, core_afterSlotFreed, core_released]
  refine .resolved (core s) m g .reversed _ _ _ _ h ?_ ?_ (fun n hn => ?_) ?_ ?_ ?_
  · rw [released_pool]
    exact (poolRelease_move s g.amount).marked (released_saturated s m g claim)
  · rw [released_pool, poolRelease, changePool_pool]
    rfl
  · exact (released_meter s m n g claim rd).trans (if_neg hn)
  · exact congrArg Meter.grant ((released_meter s m m g claim rd).trans (if_pos rfl))
  · have hr := (released_meter s m m g claim rd).trans (if_pos rfl)
    change RecordKept _ (s.meter m) ((released s m g claim rd).meter m)
    rw [hr]
    cases rd with
    | none => exact resolved_kept h _
    | some x =>
      refine (accepted_kept x _).trans (resolved_kept (g := g) ?_ _)
      exact h
  · have hk : StockKept s.stock (released s m g claim rd).stock := by
      cases rd with
      | none => simpa [released, acceptOptional] using StockKept.refl s.stock
      | some x =>
        simpa [released, acceptOptional] using
          acceptReading_stockKept (restoreAllowance (s.meter m).branch g (poolRelease g.amount s)) m x
    exact ⟨hk.lines, hk.reorder⟩

end Confirmation

/-! ## The serial of a reservation (R87) -/

/-- Some unresolved grant has the serial. -/
def Held (s : State) (x : Nat) : Prop :=
  ∃ (m : MeterId) (g : Grant), (s.meter m).grant = some g ∧ g.serial.toNat = x

/-- The serial `d` places after a serial, 1 following 65,535. -/
def candidate (serial : Word16) (d : Nat) : Nat :=
  (serial.toNat - 1 + d) % 65535 + 1

theorem serialHeld_iff (s : State) (x : Word16) : serialHeld s x = true ↔ Held s x.toNat := by
  simp only [serialHeld, toList_eq_map_get, List.any_map, List.any_eq_true, List.mem_finRange, true_and,
    Function.comp_apply, Option.any_eq_true, beq_iff_eq, Held, BitVec.toNat_inj]
  rfl

theorem serialAfter_toNat (x : Word16) : (serialAfter x).toNat = x.toNat % 65535 + 1 := by
  unfold serialAfter
  split
  · next h => rw [h]; rfl
  · next h =>
    have hx : x.toNat ≠ 65535 := fun e => h (BitVec.eq_of_toNat_eq e)
    have := x.isLt
    rw [BitVec.toNat_add]
    change (x.toNat + 1) % 65536 = _
    omega

theorem candidate_zero {serial : Word16} (h : serial ≠ 0) : candidate serial 0 = serial.toNat := by
  have h0 : serial.toNat ≠ 0 := fun e => h (BitVec.eq_of_toNat_eq e)
  have := serial.isLt
  unfold candidate
  omega

theorem candidate_serialAfter {serial : Word16} (h : serial ≠ 0) (d : Nat) :
    candidate (serialAfter serial) d = candidate serial (d + 1) := by
  have h0 : serial.toNat ≠ 0 := fun e => h (BitVec.eq_of_toNat_eq e)
  have := serial.isLt
  simp only [candidate, serialAfter_toNat]
  omega

theorem candidate_injective (serial : Word16) {d e : Nat} (hd : d < 65535) (he : e < 65535)
    (h : candidate serial d = candidate serial e) : d = e := by
  unfold candidate at h
  omega

theorem serialAfter_ne_zero (x : Word16) : serialAfter x ≠ 0 := by
  intro h
  have := serialAfter_toNat x
  rw [h] at this
  simp at this

/-- The search passes over held serials alone, and stops early only at a free one. -/
theorem firstFreeSerial_eq (s : State) (fuel : Nat) {serial : Word16} (h : serial ≠ 0) :
    ∃ d ≤ fuel, (firstFreeSerial s fuel serial).toNat = candidate serial d ∧
      (∀ e < d, Held s (candidate serial e)) ∧ (d < fuel → ¬Held s (candidate serial d)) := by
  induction fuel generalizing serial with
  | zero => exact ⟨0, le_rfl, (candidate_zero h).symm, fun _ he => absurd he (Nat.not_lt_zero _), fun hd => absurd hd (lt_irrefl 0)⟩
  | succ fuel ih =>
    unfold firstFreeSerial
    by_cases hheld : serialHeld s serial = true
    · rw [if_pos hheld]
      obtain ⟨d, hd, heq, hbelow, hfree⟩ := ih (serialAfter_ne_zero serial)
      rw [serialHeld_iff] at hheld
      simp only [candidate_serialAfter h] at heq hbelow hfree
      refine ⟨d + 1, Nat.succ_le_succ hd, heq, fun e he => ?_, fun hlt => hfree (Nat.lt_of_succ_lt_succ hlt)⟩
      cases e with
      | zero => rw [candidate_zero h]; exact hheld
      | succ e => exact hbelow e (Nat.lt_of_succ_lt_succ he)
    · rw [if_neg hheld]
      refine ⟨0, Nat.zero_le _, (candidate_zero h).symm, fun _ he => absurd he (Nat.not_lt_zero _), fun _ => ?_⟩
      rwa [candidate_zero h, ← serialHeld_iff]

/-- 192 meters hold at most 192 serials, so the 193rd candidate is free when the first 192 are held. -/
theorem candidate_free (s : State) (serial : Word16) (h : ∀ e < 192, Held s (candidate serial e)) :
    ¬Held s (candidate serial 192) := by
  choose holder grant hgrant hserial using fun e : Fin 192 => h e.val e.isLt
  have hinj : Function.Injective holder := fun d e hde => by
    have hg : grant d = grant e := Option.some.inj ((hgrant d).symm.trans ((congrArg (fun m => (s.meter m).grant) hde).trans (hgrant e)))
    refine Fin.ext (candidate_injective serial (d.isLt.trans (by decide)) (e.isLt.trans (by decide)) ?_)
    rw [← hserial d, ← hserial e, hg]
  rintro ⟨m, g, hg, hx⟩
  obtain ⟨e, rfl⟩ := Finite.surjective_of_injective hinj m
  have hsame : grant e = g := Option.some.inj ((hgrant e).symm.trans hg)
  have heq : candidate serial e.val = candidate serial 192 := by rw [← hserial e, hsame, hx]
  have := candidate_injective serial (e.isLt.trans (by decide)) (by decide) heq
  have := e.isLt
  omega

/-- The serial taken is the first from the next serial on that no unresolved grant holds (R87). -/
theorem takenSerial_eq (s : State) (h : s.engine.nextSerial ≠ 0) :
    ∃ d, (takenSerial s).toNat = candidate s.engine.nextSerial d ∧ ¬Held s (candidate s.engine.nextSerial d) ∧
      ∀ e < d, Held s (candidate s.engine.nextSerial e) := by
  obtain ⟨d, hd, heq, hbelow, hfree⟩ := firstFreeSerial_eq s 192 h
  refine ⟨d, heq, ?_, hbelow⟩
  obtain hlt | rfl := hd.lt_or_eq
  · exact hfree hlt
  · exact candidate_free s _ hbelow

/-- A reservation takes a serial that is not 0 and that no unresolved grant holds. -/
theorem takenSerial_fresh (s : State) : FreshSerial s (takenSerial s) (serialAfter (takenSerial s)) := by
  intro h
  obtain ⟨d, heq, hfree, -⟩ := takenSerial_eq s h
  refine ⟨fun h0 => ?_, serialAfter_ne_zero _, fun n g hg he => hfree ⟨n, g, hg, ?_⟩⟩
  · rw [h0] at heq
    simp [candidate] at heq
  · rw [he, heq]

/-- The serial depends on the next serial and on the grants. -/
theorem takenSerial_congr {s t : State} (hn : t.engine.nextSerial = s.engine.nextSerial)
    (hg : ∀ m, (t.meter m).grant = (s.meter m).grant) : takenSerial t = takenSerial s := by
  have hheld (x : Word16) : serialHeld t x = serialHeld s x := by
    rw [Bool.eq_iff_iff, serialHeld_iff, serialHeld_iff]
    simp only [Held, hg]
  have hfirst (fuel : Nat) (x : Word16) : firstFreeSerial t fuel x = firstFreeSerial s fuel x := by
    induction fuel generalizing x with
    | zero => rfl
    | succ fuel ih => simp only [firstFreeSerial, hheld, ih]
  rw [takenSerial, hn, hfirst]
  rfl

/-! ## Frames queued -/

/-- A command changes the blocks, the lines and the classes, each change complete. -/
def Alters (s t : State) : Prop :=
  Changes (core s) (core t)

theorem Does.alters {s t : State} (h : Does s t) : Alters s t :=
  Relation.ReflTransGen.lift id (fun _ _ => Change.inner) _ _ h

theorem Alters.refl (s : State) : Alters s s :=
  Relation.ReflTransGen.refl

theorem Alters.trans {s t u : State} (h : Alters s t) (h' : Alters t u) : Alters s u :=
  Relation.ReflTransGen.trans h h'

theorem Alters.of_core {s t u : State} (h : Alters s t) (e : core u = core t) : Alters s u := by
  unfold Alters at h ⊢
  rw [e]
  exact h

/-- Inner changes leave the queues. -/
theorem Inners.queue {u v : State} (h : Inners u v) (p : Port) : (v.line p).queue = (u.line p).queue := by
  induction h with
  | refl => rfl
  | tail _ h ih =>
    rw [← ih]
    obtain e | ⟨p', l, e, -, hqueue, -⟩ := h.lines
    · rw [e]
    · rw [e]
      split
      · next hp => rw [hp]; exact hqueue
      · rfl

theorem core_queue (s : State) (p : Port) : ((core s).line p).queue = (s.line p).queue := by
  rw [core_line]
  rfl

theorem Does.queue {s t : State} (h : Does s t) (p : Port) : (t.line p).queue = (s.line p).queue := by
  rw [← core_queue t, ← core_queue s]
  exact Inners.queue h p

theorem core_enqueue (p : Port) (f : OutFrame) (s : State) : core (enqueue p f s) =
    (core s).setLine p { (core s).line p with queue := ((core s).line p).queue ++ [f] } := by
  cases p <;> rfl

/-- A frame that is no notice takes a free place (R200). -/
theorem alters_enqueue {s : State} {p : Port} {f : OutFrame} (hroom : (s.line p).queue.length < Config.queuePlaces)
    (hf : ∀ c, isNoticeOf c f = false) : Alters s (enqueue p f s) := by
  refine .single ?_
  rw [core_enqueue]
  refine .queued (core s) p f ?_ hf
  rw [core_line]
  exact hroom

/-! ## Reservations (R81, R82) -/

theorem modifyAt_modifyAt {α : Type} {n : Nat} (v : Vector α n) (i : Fin n) (f g : α → α) :
    modifyAt (modifyAt v i f) i g = modifyAt v i (fun x => g (f x)) :=
  vector_ext_get fun j => by
    simp only [modifyAt_get, if_true]
    split <;> rfl

theorem modMeter_modMeter (m : MeterId) (f g : Meter → Meter) (s : State) :
    modMeter m g (modMeter m f s) = modMeter m (fun r => g (f r)) s := by
  change s.setMeters (modifyAt (modifyAt s.meters m f) m g) = _
  rw [modifyAt_modifyAt]
  rfl

/-- An update of one record depends on what it makes of that record. -/
theorem modMeter_congr {m : MeterId} {f g : Meter → Meter} {s : State} (h : f (s.meter m) = g (s.meter m)) :
    modMeter m f s = modMeter m g s := by
  have h' : f (s.meters.get m) = g (s.meters.get m) := h
  unfold modMeter modifyAt
  rw [h']

/-- The grant that a reservation makes, in slot `k`. -/
def newGrant (s : State) (x : Nat) (source : GrantSource) (k : SlotId) : Grant :=
  { serial := takenSerial s, amount := x, phase := .offered k, source := source }

/-- A record without its request, and one with a grant. -/
def Meter.unasked (r : Meter) : Meter :=
  { r with pendingReq := none }

def Meter.granted (g : Grant) (r : Meter) : Meter :=
  { r with grant := some g }

/-- A reservation but for its frame: the grant stands in the record and in the slot. -/
def placed (s : State) (m : MeterId) (x : Nat) (source : GrantSource) (k : SlotId) : State :=
  modMeter m (Meter.granted (newGrant s x source k))
    (s.setEngine { s.engine with
      slots := modifyAt s.engine.slots k (fun _ => some
        { serial := takenSerial s, meter := m, amount := x, expiry := expiryAfter s s.engine.window })
      nextSerial := serialAfter (takenSerial s) })

theorem offerGrant_eq {s : State} {k : SlotId} (h : freeSlot? s = some k) (m : MeterId) (x : Nat) (source : GrantSource) :
    offerGrant m x source s =
      enqueue .operations (.grantOffer m (takenSerial s) x s.engine.window) (placed s m x source k) := by
  unfold offerGrant
  rw [h]
  rfl

/-- The slots alone tell which is the lowest free one. -/
theorem freeSlot?_congr {s t : State} (h : t.engine.slots = s.engine.slots) : freeSlot? t = freeSlot? s := by
  unfold freeSlot?
  rw [h]

/-- A reservation for whoever is served (R81, R82). -/
theorem does_reserve {s t : State} {m : MeterId} {x : Nat} {source : GrantSource} {k : SlotId} {es : List Entry} {n : Nat}
    {f : Meter → Meter} (served : Served (core s) m x source es n) (hfree : s.engine.slots.get k = none)
    (hf : f (s.meter m) = { s.meter m with pendingReq := none, grant := some (newGrant s x source k) })
    (hc : core t = withPool (poolReserve x s).pool (poolReserve x s).periods.current.saturated
      (withEntries es n (modMeter m f ((core s).setEngine (coreEngine { s.engine with
        slots := modifyAt s.engine.slots k (fun _ => some
          { serial := takenSerial s, meter := m, amount := x, expiry := expiryAfter s s.engine.window })
        nextSerial := serialAfter (takenSerial s) }))))) : Does s t := by
  refine .single ?_
  rw [hc, modMeter_congr (g := fun r => { r with pendingReq := none, grant := some (newGrant s x source k) }) (by exact hf)]
  refine .offered (core s) m (newGrant s x source k) k _ (serialAfter (takenSerial s)) _ _ es n served hfree rfl ⟨rfl, rfl, rfl⟩ ?_
    (poolReserve_move s x) ?_
  · exact takenSerial_fresh s
  · rw [poolReserve, changePool_pool]
    rfl

/-! ## The grant computation (R70 to R79) -/

theorem leastOf_le (x : Nat) (y : Option Nat) : leastOf x y ≤ x := by
  cases y with
  | none => exact le_rfl
  | some y => exact min_le_left x y

theorem raw_le_q (t : Terms) : t.raw ≤ t.q :=
  (leastOf_le _ _).trans ((leastOf_le _ _).trans ((min_le_left _ _).trans (min_le_left _ _)))

theorem roundDown_le (step raw : Nat) : roundDown step raw ≤ raw :=
  Nat.div_mul_le_self raw step

/-! ## The service of a request -/

section Service

variable (s : State)

/-- The amount of a reservation, G and P aside, is reserved for the meter's own request (R81). -/
theorem does_placed_request {m : MeterId} {x : Nat} {k : SlotId} {q : PendingRequest} (hq : (s.meter m).pendingReq = some q)
    (hx : x ≤ q.q) (hfree : s.engine.slots.get k = none) :
    Does s (placed (removeRequest m (consumeAllowance (s.meter m).branch x (poolReserve x s))) m x .request k) := by
  have hserial : takenSerial (removeRequest m (consumeAllowance (s.meter m).branch x (poolReserve x s))) = takenSerial s := by
    have hmeter (n : MeterId) : (consumeAllowance (s.meter m).branch x (poolReserve x s)).meter n = s.meter n :=
      meter_congr (by simp [consumeAllowance]) n
    refine takenSerial_congr (by simp [consumeAllowance]) fun n => ?_
    rw [removeRequest_meter, hmeter, hmeter]
    split
    · next e => rw [e]
    · rfl
  refine does_reserve (f := fun r => Meter.granted (newGrant s x .request k) (Meter.unasked r))
    (.request q hq hx) hfree rfl ?_
  rw [← modMeter_modMeter m Meter.unasked]
  unfold placed newGrant
  rw [hserial, core_modMeter, core_setEngine]
  have he : (removeRequest m (consumeAllowance (s.meter m).branch x (poolReserve x s))).engine = s.engine := by
    simp [consumeAllowance]
  have ht : (removeRequest m (consumeAllowance (s.meter m).branch x (poolReserve x s))).timeBase = s.timeBase := by
    simp [consumeAllowance]
  have hr : core (removeRequest m (consumeAllowance (s.meter m).branch x (poolReserve x s))) =
      modMeter m Meter.unasked (core (poolReserve x s)) := rfl
  rw [expiryAfter, ht, he, hr, poolReserve, core_changePool]
  rfl

/-- The refusal of a request SHORT but for its frame (R83). -/
theorem does_refused (m : MeterId) : Does s
    (bankShort (s.meter m).branch (modBranch (s.meter m).branch (fun k => { k with pace := Config.fullPace })
      (removeRequest m s))) :=
  ((does_removeRequest s m).of_core (core_modBranch ..)).trans (does_addToBranchBank ..)

theorem does_alters_enqueue {t u : State} {p : Port} {f : OutFrame} (h : Does t u)
    (hroom : (t.line p).queue.length < Config.queuePlaces) (hf : ∀ c, isNoticeOf c f = false) : Alters t (enqueue p f u) :=
  h.alters.trans (alters_enqueue (by rw [h.queue]; exact hroom) hf)

/-- A pending request is granted or refused SHORT (R75 to R83). -/
theorem alters_serveRequest {k : SlotId} (m : MeterId) (hfree : freeSlot? s = some k)
    (hroom : (s.line .operations).queue.length < Config.queuePlaces) : Alters s (serveRequest m s) := by
  unfold serveRequest
  split
  · exact .refl s
  · next r hr =>
    dsimp only
    split
    · exact does_alters_enqueue (does_refused s m) hroom fun _ => rfl
    · have hfree' : freeSlot? (removeRequest m (consumeAllowance (s.meter m).branch
          (roundDown (s.meter m).settings.step (branchTerms s m r.q).raw)
          (poolReserve (roundDown (s.meter m).settings.step (branchTerms s m r.q).raw) s))) = some k :=
        (freeSlot?_congr (by simp [consumeAllowance])).trans hfree
      rw [reserveForRequest, offerGrant_eq hfree']
      refine does_alters_enqueue (does_placed_request s hr ?_ (freeSlot?_eq_some s hfree)) hroom fun _ => rfl
      exact (roundDown_le _ _).trans (raw_le_q (branchTerms s m r.q))

/-! ## The service of the List Unit -/

/-- An entry that leaves the WAITING ones with no grant keeps the order of the list (R118). -/
theorem listKept_finished {es : List Entry} {n : Nat} {e : Entry} {outcome : EntryOutcome} (he : es[n]? = some e)
    (hw : e.outcome = .waiting) (ho : outcome ≠ .waiting) :
    ListKept es n (es.modify n (fun e => { e with outcome := outcome })) (n + 1) where
  order h := h.modify he ho (.inl ⟨hw, rfl, rfl⟩)
  offered i e' he' ho' := by
    have hne : n ≠ i := by
      rintro rfl
      rw [he] at he'
      cases he'
      rw [hw] at ho'
      cases ho'
    exact ⟨e', (getElem?_modify_ne _ hne).trans he', rfl, ho'⟩
  amounts h x hx := by
    obtain ⟨i, hi⟩ := List.getElem?_of_mem hx
    by_cases hn : n = i
    · subst hn
      have hx' : { e with outcome := outcome } = x := by simpa [he] using hi
      rw [← hx']
      exact h e (List.mem_of_getElem? he)
    · rw [getElem?_modify_ne _ hn] at hi
      exact h x (List.mem_of_getElem? hi)

/-- An entry is finished with no grant, and the next entry moves on. -/
theorem does_finished {e : Entry} {outcome : EntryOutcome} (he : s.list.entries[s.list.next]? = some e)
    (hw : e.outcome = .waiting) (ho : outcome ≠ .waiting) {t : State}
    (hc : core t = withEntries (s.list.entries.modify s.list.next (fun e => { e with outcome := outcome }))
      (s.list.next + 1) (core s)) : Does s t := by
  refine .single ?_
  rw [hc]
  exact .entries (core s) _ _ (listKept_finished he hw ho)

theorem core_advanceEntry (t : State) : core (advanceEntry t) = withEntries t.list.entries (t.list.next + 1) (core t) := rfl

theorem core_advance_finishEntry (outcome : EntryOutcome) : core (advanceEntry (finishEntry s.list.next outcome s)) =
    withEntries (s.list.entries.modify s.list.next (fun e => { e with outcome := outcome })) (s.list.next + 1) (core s) := by
  rw [core_advanceEntry, finishEntry_list, core_finishEntry]
  rfl

theorem core_advance_entryShort (e : Entry) (cause : Cause) : core (advanceEntry (entryShort s.list.next e cause s)) =
    withEntries (s.list.entries.modify s.list.next (fun e => { e with outcome := .short cause })) (s.list.next + 1)
      (core s) := by
  unfold entryShort
  dsimp only
  split
  · have hl (t : State) : (haltList t).list = { t.list with state := .halted } := by simp [haltList]
    rw [core_advanceEntry, core_haltList, hl, finishEntry_list, core_finishEntry]
    rfl
  · exact core_advance_finishEntry s _

/-- A list grant reserved, but for its frame (R82). -/
def placedEntry (m : MeterId) (x : Nat) (k : SlotId) : State :=
  advanceEntry (modEntry s.list.next (fun e => { e with outcome := .offered, serial := some (takenSerial s) })
    (placed (poolReserve x s) m x (.list (some s.list.next)) k))

theorem takenSerial_poolReserve (x : Nat) : takenSerial (poolReserve x s) = takenSerial s :=
  takenSerial_congr (by simp) fun n => congrArg Meter.grant (meter_congr (by simp) n)

theorem does_placedEntry {e : Entry} {x : Nat} {k : SlotId} (he : s.list.entries[s.list.next]? = some e)
    (hw : e.outcome = .waiting) (hactive : (s.meter e.meter).state = .active) (hgrant : (s.meter e.meter).grant = none)
    (hrequest : (s.meter e.meter).pendingReq = none) (hx : x ≤ e.q) (hfree : s.engine.slots.get k = none) :
    Does s (placedEntry s e.meter x k) := by
  refine does_reserve (f := Meter.granted (newGrant s x (.list (some s.list.next)) k))
    (.entry e (some (takenSerial s)) hactive hgrant he hw rfl hx) hfree (by rw [← hrequest]; rfl) ?_
  have hl : (poolReserve x s).list = s.list := by simp
  have hen : (poolReserve x s).engine = s.engine := by simp
  have ht : (poolReserve x s).timeBase = s.timeBase := by simp
  unfold placedEntry
  rw [core_advanceEntry, core_modEntry]
  unfold placed newGrant
  rw [takenSerial_poolReserve, core_modMeter, core_setEngine, expiryAfter, ht, hen]
  simp only [modEntry_list, modMeter_list, State.setEngine_list, hl]
  rw [poolReserve, core_changePool]
  rfl

/-- The next WAITING entry is the one that the pointer names (R118). -/
theorem nextWaiting_eq_some {e : Entry} (h : nextWaiting s = some e) :
    s.list.entries[s.list.next]? = some e ∧ e.outcome = .waiting := by
  obtain ⟨he, hw⟩ := Option.filter_eq_some_iff.mp h
  exact ⟨he, by simpa using hw⟩

/-- The entry of an ACTIVE meter with no grant and no request is found SHORT, or a grant is reserved (R121). -/
theorem alters_computeEntry {e : Entry} {k : SlotId} (he : s.list.entries[s.list.next]? = some e)
    (hw : e.outcome = .waiting) (hactive : (s.meter e.meter).state = .active) (hgrant : (s.meter e.meter).grant = none)
    (hrequest : (s.meter e.meter).pendingReq = none) (hfree : freeSlot? s = some k)
    (hroom : (s.line .operations).queue.length < Config.queuePlaces) :
    Alters s (advanceEntry (computeEntry s.list.next e s)) := by
  unfold computeEntry
  dsimp only
  split
  · exact (does_finished s he hw (by simp) (core_advance_entryShort s e _)).alters
  · have hplaced (x : Nat) (hx : x ≤ e.q) : Alters s (advanceEntry (reserveForEntry s.list.next e.meter x s)) := by
      have hfree' : freeSlot? (poolReserve x s) = some k := (freeSlot?_congr (by simp)).trans hfree
      rw [reserveForEntry, offerGrant_eq hfree']
      refine (does_alters_enqueue (p := .operations) (f := .grantOffer e.meter (takenSerial (poolReserve x s)) x
        (poolReserve x s).engine.window) (does_placedEntry s he hw hactive hgrant hrequest hx (freeSlot?_eq_some s hfree))
        hroom fun _ => rfl).of_core ?_
      rfl
    exact hplaced _ ((roundDown_le _ _).trans (raw_le_q (listTerms s e.meter e.q)))

theorem supersede_list (m : MeterId) : (supersede m s).list = s.list := by
  unfold supersede
  split <;> simp

theorem supersede_engine (m : MeterId) : (supersede m s).engine = s.engine := by
  unfold supersede
  split <;> simp

theorem supersede_meter (m n : MeterId) : (supersede m s).meter n =
    if n = m then { s.meter m with pendingReq := none } else s.meter n := by
  have h : (supersede m s).meters = (dropRequest m s).meters := by
    unfold supersede dropRequest
    split
    · exact enqueue_meters ..
    · rfl
  rw [meter_congr h, dropRequest_meter]

theorem supersede_queue (m : MeterId) :
    ((supersede m s).line .operations).queue.length ≤ (s.line .operations).queue.length + 1 := by
  unfold supersede
  split
  · rw [enqueue_line, if_pos rfl]
    simp [State.line]
  · exact Nat.le_succ _

theorem alters_supersede (m : MeterId) (hroom : (s.line .operations).queue.length < Config.queuePlaces) :
    Alters s (supersede m s) := by
  unfold supersede
  split
  · exact does_alters_enqueue (does_removeRequest s m) hroom fun _ => rfl
  · exact .refl s

/-- A service of the List Unit (R118 to R122). -/
theorem alters_serveList {k : SlotId} (hfree : freeSlot? s = some k)
    (hroom : (s.line .operations).queue.length + 1 < Config.queuePlaces) : Alters s (serveList s) := by
  unfold serveList
  split
  · exact .refl s
  · next e hnext =>
    obtain ⟨he, hw⟩ := nextWaiting_eq_some s hnext
    refine Alters.of_core ?_ (core_endRun _)
    unfold processEntry
    split
    · exact (does_finished s he hw (by simp) (core_advance_finishEntry s _)).alters
    · next hactive =>
      split
      · exact (does_finished s he hw (by simp) (core_advance_finishEntry s _)).alters
      · next hgrant =>
        have hl := supersede_list s e.meter
        have hm := (supersede_meter s e.meter e.meter).trans (if_pos rfl)
        refine (alters_supersede s e.meter (Nat.lt_of_succ_lt hroom)).trans ?_
        rw [← hl]
        refine alters_computeEntry (supersede e.meter s) (k := k) (by rw [hl]; exact he) hw ?_ ?_ ?_ ?_ ?_
        · rw [hm]; exact not_not.mp hactive
        · rw [hm]; simpa using hgrant
        · rw [hm]
        · exact (freeSlot?_congr (by rw [supersede_engine])).trans hfree
        · exact (supersede_queue s e.meter).trans_lt hroom

/-! ## The selection (R60 to R67) -/

theorem alters_serve {k : SlotId} (r : Requester) (ring : Ring) (hfree : freeSlot? s = some k)
    (hroom : (s.line .operations).queue.length + 1 < Config.queuePlaces) : Alters s (serve r ring s) := by
  unfold serve
  split
  · split
    · exact alters_serveRequest s _ hfree (Nat.lt_of_succ_lt hroom)
    · exact .refl s
  · exact alters_serveList s hfree hroom

/-- The state in which a requester is served: but for the arbiter and the list's state it is the state before. -/
theorem alters_served {s t : State} {k : SlotId} (r : Requester) (ring : Ring) (hcore : core t = core s)
    (hfree : freeSlot? s = some k) (hroom : (s.line .operations).queue.length + 1 < Config.queuePlaces) :
    Alters s (serve r ring t) := by
  have hslots : t.engine.slots = s.engine.slots := congrArg (fun u => u.engine.slots) hcore
  refine Alters.trans (Does.frame hcore).alters (alters_serve t r ring ((freeSlot?_congr hslots).trans hfree) ?_)
  rw [(Does.frame hcore).queue]
  exact hroom

theorem core_giveUpBatch : core (giveUpBatch s) = core s := by
  unfold giveUpBatch
  dsimp only
  split
  · exact core_haltList _
  · rfl

theorem alters_select {k : SlotId} (hfree : freeSlot? s = some k)
    (hroom : (s.line .operations).queue.length + 1 < Config.queuePlaces) : Alters s (select s) := by
  unfold select
  split
  · exact alters_served _ _ rfl hfree hroom
  · dsimp only
    split
    · exact alters_served _ _ (core_giveUpBatch s) hfree hroom
    · exact (Does.frame (core_giveUpBatch s)).alters

/-- A selection is made with a slot free and 3 places free in the Operations queue (R60). -/
theorem alters_selection : Alters s (if selectable s then select s else s) := by
  split
  · next h =>
    simp only [selectable, Bool.and_eq_true, decide_eq_true_eq] at h
    obtain ⟨⟨⟨⟨-, hslot⟩, hplaces⟩, -⟩, -⟩ := h
    obtain ⟨k, hk⟩ := Option.isSome_iff_exists.mp hslot
    refine alters_select s hk ?_
    change 3 ≤ 16 - s.operations.queue.length at hplaces
    change s.operations.queue.length + 1 < 16
    omega
  · exact .refl s

end Service

/-! ## Doubtful grants (R96, R101) -/

section Doubtful

variable (s : State)

/-- A restart that takes effect leaves the lines as they are. -/
theorem settled_setLine (p : Port) (l : LineIf) : settled (s.setLine p l) = (settled s).setLine p l := by
  have hc : (s.setLine p l).engine = s.engine ∧ (s.setLine p l).meters = s.meters := by cases p <;> exact ⟨rfl, rfl⟩
  unfold settled
  rw [show occupiedSlots (s.setLine p l) = occupiedSlots s by unfold occupiedSlots; rw [hc.1], hc.1, hc.2]
  split
  · cases p <;> rfl
  · rfl

theorem settled_line (p : Port) : (settled s).line p = s.line p := by
  obtain e | ⟨-, e⟩ := settled_cases s <;> rw [e]
  cases p <;> rfl

theorem coreLine_withdrawOffer (serial : Word16) (l : LineIf) :
    coreLine (withdrawOffer serial l) = withdrawOffer serial (coreLine l) := by
  have hs : (coreLine l).sending.isSome = l.sending.isSome := rfl
  unfold withdrawOffer
  dsimp only
  rw [hs]
  split <;> rfl

/-- A slot is freed, its grant goes DOUBTFUL and its offer is withdrawn (R101). -/
theorem alters_expireSlot {k : SlotId} {slot : Slot} (h : s.engine.slots.get k = some slot) :
    Alters s (expireSlot k slot s) := by
  have hcore : core (expireSlot k slot s) = (settled (modMeter slot.meter Meter.doubted (freeSlot k (core s)))).setLine
      .operations (withdrawOffer slot.serial (coreLine s.operations)) := by
    have hm : modMeter slot.meter Meter.doubted (freeSlot k (core s)) =
        freeSlot k (modMeter slot.meter (fun r => { r with
          state := if r.state = .draining then .awaitingReading else r.state })
          (modMeter slot.meter (fun r => { r with grant := r.grant.map (fun g => { g with phase := .doubtful }) })
            (core s))) := by
      rw [modMeter_modMeter]
      rfl
    rw [expireSlot, core_settleRestart, ← settled_setLine, hm, ← coreLine_withdrawOffer]
    rfl
  have hline : (settled (modMeter slot.meter Meter.doubted (freeSlot k (core s)))).line .operations = coreLine s.operations :=
    settled_line ..
  unfold Alters
  rw [hcore, ← hline]
  exact (Inner.changes (.doubted (core s) slot.meter k (.inr ⟨slot, h, rfl⟩))).tail (.withdrawn ..)

/-- An unresolved grant goes DOUBTFUL with the reading that showed it neither applied nor not (R96). -/
def contested (m : MeterId) (g : Grant) (rd : Report) : State :=
  afterSlotFreed g (leaveDraining m (rejectReading m rd (makeDoubtful m g s)))

/-- The record of such a meter. -/
def Meter.contested (g : Grant) (rd : Report) (r : Meter) : Meter :=
  { r with
    grant := some g.doubtful
    rejected := some rd.reading
    state := if r.state = .draining then .awaitingReading else r.state }

theorem leaveDraining_contested (m : MeterId) (g : Grant) (rd : Report) :
    leaveDraining m (rejectReading m rd (makeDoubtful m g s)) = modMeter m (Meter.contested g rd) (freeGrantSlot g s) := by
  have hf (t : State) (f : Meter → Meter) : freeGrantSlot g (modMeter m f t) = modMeter m f (freeGrantSlot g t) := by
    unfold freeGrantSlot
    cases g.phase <;> rfl
  unfold leaveDraining rejectReading makeDoubtful
  rw [hf, modMeter_modMeter, modMeter_modMeter]
  rfl

theorem does_contested {m : MeterId} {g : Grant} (rd : Report) (hg : (s.meter m).grant = some g)
    (h : (s.meter m).state ≠ .vacant ∧ (s.meter m).state ≠ .retired) : Does s (contested s m g rd) := by
  unfold contested afterSlotFreed
  rw [leaveDraining_contested]
  have hsame : (s.meter m).grant.map Grant.doubtful = some g.doubtful := by rw [hg]; rfl
  cases hp : g.phase with
  | offered k =>
    have ho : g.isOffered = true := by simp [Grant.isOffered, hp]
    have hfree : freeGrantSlot g s = freeSlot k s := by simp only [freeGrantSlot, hp]
    rw [if_pos ho, hfree]
    refine (does_rejectReading s m rd h).trans (.single ?_)
    have hc : core (settleRestart (modMeter m (Meter.contested g rd) (freeSlot k s))) =
        settled (modMeter m Meter.doubted (freeSlot k (core (rejectReading m rd s)))) := by
      have hm : modMeter m Meter.doubted (modMeter m (fun r => { r with rejected := some rd.reading }) (freeSlot k (core s))) =
          modMeter m (Meter.contested g rd) (freeSlot k (core s)) := by
        rw [modMeter_modMeter]
        refine modMeter_congr ?_
        exact congrArg (fun x => { Meter.contested g rd (s.meter m) with grant := x }) hsame
      rw [core_settleRestart, core_modMeter, core_freeSlot, ← hm]
      rfl
    rw [hc]
    refine .doubted (core (rejectReading m rd s)) m k (.inl ⟨g, ?_, hp⟩)
    exact (congrArg Meter.grant (modMeter_meter_self s m _)).trans hg
  | doubtful =>
    have ho : g.isOffered = false := by simp [Grant.isOffered, hp]
    have hfree : freeGrantSlot g s = s := by simp only [freeGrantSlot, hp]
    have hkeep : g.doubtful = g := by rw [Grant.doubtful, ← hp]
    rw [ho, hfree]
    refine does_modMeter ?_ ?_
    · have hr : Meter.contested g rd (s.meter m) = { Meter.doubted (s.meter m) with rejected := some rd.reading } := by
        exact congrArg (fun x => { Meter.contested g rd (s.meter m) with grant := x }) hsame.symm
      rw [hr]
      refine (doubted_kept ..).trans (rejected_kept ?_ _)
      simp only [Meter.doubted]
      split
      · exact ⟨by decide, by decide⟩
      · exact h
    · change some g.doubtful = _
      rw [hkeep, hg]

end Doubtful

/-! ## Readings -/

section Readings

variable {s : State} {m : MeterId}

/-- An enrolled meter. -/
def Serving (r : Meter) : Prop :=
  r.state ≠ .vacant ∧ r.state ≠ .retired

theorem does_inconsistentReading (kind : FaultKind) (rd : Report) (h : Serving (s.meter m)) :
    Does s (inconsistentReading kind m rd s).state :=
  (does_rejectReading s m rd h).trans (does_handFault ..)

theorem does_judgeWithoutGrant (rd : Report) (h : Serving (s.meter m)) : Does s (judgeWithoutGrant m rd s).state := by
  unfold judgeWithoutGrant
  split_ifs
  · exact does_inconsistentReading _ rd h
  · exact does_acceptReading s m rd
  · exact does_inconsistentReading _ rd h

theorem does_statusReport (rd : Report) (h : Serving (s.meter m)) : Does s (statusReport m rd s).state := by
  unfold statusReport
  cases hg : (s.meter m).grant with
  | none => exact does_judgeWithoutGrant rd h
  | some g =>
    dsimp only
    split
    · unfold statusWhileOffered
      cases judgeOffered (s.meter m) g.amount rd with
      | regress => exact does_inconsistentReading _ rd h
      | applied => exact does_confirmGrant s m g .none rd hg
      | notApplied => exact does_acceptReading s m rd
      | mismatch => exact does_inconsistentReading _ rd h
    · unfold statusWhileDoubtful
      cases judgeOutcome (s.meter m) g.amount rd with
      | regress => exact does_inconsistentReading _ rd h
      | applied => exact does_confirmGrant s m g .none rd hg
      | notApplied => exact does_releaseGrant s m g .none (some rd) hg
      | mismatch => exact does_inconsistentReading _ rd h

theorem does_compareClaim {u : State} (h : Does s u) (g : Grant) (claim : Claim) (result : GrantResult) (rd : Report)
    (ct : Nat) : Does s (compareClaim m g claim result rd ct u).state := by
  unfold compareClaim
  split
  · exact h.trans (does_handFault ..)
  · exact h

theorem does_outcomeNamed {g : Grant} (claim : Claim) (rd : Report) (hg : (s.meter m).grant = some g)
    (h : Serving (s.meter m)) : Does s (outcomeNamed m g claim rd s).state := by
  have hcontested (kind : FaultKind) : Does s (outcomeInconsistent kind m g rd s).state :=
    (does_contested s rd hg h).trans (does_handFault ..)
  unfold outcomeNamed
  dsimp only
  cases judgeOutcome (s.meter m) g.amount rd with
  | regress => exact hcontested _
  | applied => exact does_compareClaim (does_confirmGrant s m g claim rd hg) ..
  | notApplied => exact does_compareClaim (does_releaseGrant s m g claim (some rd) hg) ..
  | mismatch => exact hcontested _

theorem does_outcomeInService (serial : Word16) (claim : Claim) (rd : Report) (h : Serving (s.meter m)) :
    Does s (outcomeInService m serial claim rd s).state := by
  unfold outcomeInService
  dsimp only
  split
  · next g hg => exact does_outcomeNamed claim rd (BranchTable.grant_of_namesGrant hg) h
  · exact (does_statusReport rd h).trans (does_handFault ..)

/-! ## Retirement -/

/-- The retirement is completed once the grant is settled and the reading accepted (R136). -/
theorem does_completeRetirement (delta : Int) (h : (s.meter m).state = .awaitingReading) (hg : (s.meter m).grant = none)
    (hr : (s.meter m).rejected = none) : Does s (completeRetirement m delta s) := by
  have hswept : Does s (poolSweep (s.meter m).drMirror (bankSweep (s.meter m).drMirror s)) :=
    (does_modCurrent fun _ => unsaturated_of_or).trans (does_changePool (poolSweep_move _ _) rfl)
  have hm : (poolSweep (s.meter m).drMirror (bankSweep (s.meter m).drMirror s)).meter m = s.meter m :=
    meter_congr (by simp) m
  unfold completeRetirement
  refine (hswept.trans (does_modMeter ?_ rfl)).of_core ((core_setCondition ..).trans (core_reportRetirement ..))
  rw [hm]
  exact retired_kept h hg hr

/-- A meter in AWAITING-READING whose grant is settled and whose reading is accepted. -/
structure Settled (r : Meter) : Prop where
  state : r.state = .awaitingReading
  grant : r.grant = none
  rejected : r.rejected = none

theorem accepted_settled {r : Meter} (h : r.state = .awaitingReading) (hg : r.grant = none) (rd : Report) (expiry : Word32) :
    Settled (r.accepted rd expiry) :=
  ⟨by simp [Meter.accepted, h], hg, rfl⟩

theorem does_finalConsistent {u : State} (h : Does s u) (hu : Settled (u.meter m)) (grantResult : Result) (delta : Int) :
    Does s (finalConsistent m grantResult delta u).state :=
  h.trans (does_completeRetirement delta hu.state hu.grant hu.rejected)

/-- The freeing of a slot touches a record's request and hold-off alone. -/
theorem afterSlotFreed_settled {g : Grant} {t : State} (h : Settled (t.meter m)) : Settled ((afterSlotFreed g t).meter m) := by
  have hm := settledAfter_meter (core t) g m
  rw [← core_afterSlotFreed] at hm
  obtain e | e := hm
  · exact (congrArg Settled e).mpr h
  · refine (congrArg Settled e).mpr ?_
    exact ⟨h.state, h.grant, h.rejected⟩

theorem confirmGrant_settled (h : (s.meter m).state = .awaitingReading) (g : Grant) (claim : Claim) (rd : Report) :
    Settled ((confirmGrant m g claim rd s).meter m) := by
  rw [confirmGrant_eq]
  refine afterSlotFreed_settled ?_
  rw [confirmed_meter, if_pos rfl]
  exact ⟨by simp [Meter.resolved, Meter.accepted, h], rfl, rfl⟩

theorem releaseGrant_settled (h : (s.meter m).state = .awaitingReading) (g : Grant) (claim : Claim) (rd : Report) :
    Settled ((releaseGrant m g claim (some rd) s).meter m) := by
  rw [releaseGrant_eq]
  refine afterSlotFreed_settled ?_
  rw [released_meter, if_pos rfl]
  exact ⟨by simp [Meter.resolved, Meter.accepted, h], rfl, rfl⟩

theorem does_finalReading (claim : Claim) (rd : Report) (h : (s.meter m).state = .awaitingReading) :
    Does s (finalReading m claim rd s).state := by
  have hserving : Serving (s.meter m) := by rw [Serving, h]; exact ⟨by decide, by decide⟩
  have hinconsistent (kind : FaultKind) : Does s (finalInconsistent kind m rd s).state :=
    does_inconsistentReading kind rd hserving
  unfold finalReading
  cases hg : (s.meter m).grant with
  | none =>
    dsimp only
    unfold finalWithoutGrant
    split_ifs
    · exact hinconsistent _
    · refine does_finalConsistent (does_acceptReading s m rd) ?_ ..
      rw [acceptReading_meter, if_pos rfl]
      exact accepted_settled h hg ..
    · exact hinconsistent _
  | some g =>
    dsimp only
    unfold finalWithGrant
    cases judgeOutcome (s.meter m) g.amount rd with
    | regress => exact hinconsistent _
    | notApplied =>
      exact does_finalConsistent (does_releaseGrant s m g claim (some rd) hg) (releaseGrant_settled h g claim rd) ..
    | applied =>
      exact does_finalConsistent (does_confirmGrant s m g claim rd hg) (confirmGrant_settled h g claim rd) ..
    | mismatch => exact hinconsistent _

/-! ## Audit actions -/

theorem does_releaseByAudit : Does s (releaseByAudit m s) := by
  unfold releaseByAudit
  cases hg : (s.meter m).grant with
  | none => exact .refl s
  | some g => exact does_releaseGrant s m g .none none hg

theorem does_adjustMeter (delta : Int) (total : Nat) : Does s (adjustMeter m delta total s) := by
  unfold adjustMeter
  split
  · exact .refl s
  · have hpool : Does s (poolAdjust delta (bankAdjustment delta s)) :=
      (does_modCurrent fun _ => unsaturated_of_or).trans (does_changePool (poolAdjust_move _ _) rfl)
    exact hpool.trans (does_modMeter (.of_fields rfl rfl rfl (.inl rfl) (.inl rfl) rfl) rfl)

/-- What an audit action on a retiring or SUSPENDED meter leaves of its record: the state, and no grant. -/
theorem releaseByAudit_meter (h : (s.meter m).state = .awaitingReading ∨ (s.meter m).state = .suspended) :
    ((releaseByAudit m s).meter m).state = (s.meter m).state ∧ ((releaseByAudit m s).meter m).grant = none := by
  unfold releaseByAudit
  cases hg : (s.meter m).grant with
  | none => exact ⟨rfl, hg⟩
  | some g =>
    dsimp only
    rw [releaseGrant_eq]
    have hr : (released s m g .none none).meter m =
        Meter.resolved (s.meter m) { serial := g.serial, result := .reversed, claim := .none } :=
      (released_meter ..).trans (if_pos rfl)
    have hres : ((released s m g .none none).meter m).state = (s.meter m).state ∧
        ((released s m g .none none).meter m).grant = none := by
      rw [hr]
      obtain h | h := h <;> simp [Meter.resolved, h]
    have hm := settledAfter_meter (core (released s m g .none none)) g m
    rw [← core_afterSlotFreed] at hm
    obtain e | e := hm
    · exact (congrArg (fun r => r.state = (s.meter m).state ∧ r.grant = none) e).mpr hres
    · refine (congrArg (fun r => r.state = (s.meter m).state ∧ r.grant = none) e).mpr ?_
      exact hres

theorem adjustMeter_meter (delta : Int) (total : Nat) (n : MeterId) : (adjustMeter m delta total s).meter n =
    if delta ≠ 0 ∧ n = m then { s.meter m with credited := (s.meter m).credited + delta, ct := total } else s.meter n := by
  unfold adjustMeter
  have hp (i : MeterId) : (poolAdjust delta (bankAdjustment delta s)).meter i = s.meter i := meter_congr (by simp) i
  split
  · next h => simp [h]
  · next h =>
    rw [modMeter_meter, hp, hp]
    simp [h]

theorem adjusted_meter {delta : Int} {total : Nat} {t : State} :
    ((adjustMeter m delta total t).meter m).state = (t.meter m).state ∧
      ((adjustMeter m delta total t).meter m).grant = (t.meter m).grant := by
  rw [adjustMeter_meter]
  split <;> exact ⟨rfl, rfl⟩

theorem does_adjustOn (rd : Report) (h : (s.meter m).state = .awaitingReading) : Does s (adjustOn m rd s).state := by
  unfold adjustOn
  dsimp only
  split_ifs
  · exact .refl s
  · exact .refl s
  · obtain ⟨hstate, hgrant⟩ := releaseByAudit_meter (.inl h)
    obtain ⟨hstate', hgrant'⟩ := adjusted_meter (m := m) (t := releaseByAudit m s)
      (delta := deltaOf (s.meter m) rd.reading) (total := rd.total)
    refine does_finalConsistent (((does_releaseByAudit).trans (does_adjustMeter ..)).trans (does_acceptReading ..)) ?_
      (auditGrantResult (s.meter m)) _
    rw [acceptReading_meter, if_pos rfl]
    exact accepted_settled (hstate'.trans (hstate.trans h)) (hgrant'.trans hgrant) ..

theorem does_rebaseline (x : Reading) (delta : Int) (h : (s.meter m).state = .suspended) :
    Does s (rebaseline m x delta s) := by
  obtain ⟨hstate, -⟩ := releaseByAudit_meter (.inr h)
  obtain ⟨hstate', -⟩ := adjusted_meter (m := m) (t := releaseByAudit m s) (delta := delta) (total := x.ar + x.dr)
  unfold rebaseline
  dsimp only
  refine ((((does_releaseByAudit).trans (does_adjustMeter ..)).trans (does_recordUsage ..)).trans
    (does_modMeter (.of_fields rfl rfl rfl (.inr rfl) (.inl rfl) rfl) rfl)).trans (does_reactivate _ _ ?_)
  rw [modMeter_meter_self]
  change ((recordUsage _ _ _).meter m).state = _
  rw [meter_congr (recordUsage_meters ..) m]
  exact hstate'.trans (hstate.trans h)

end Readings

/-! ## The list's operations -/

section Lists

/-- A test that holds from position `n` on and at none before is first met at `n`. -/
theorem findIdx_eq_of_from {α : Type} {p : α → Bool} {xs : List α} {n : Nat} (hn : n ≤ xs.length)
    (h : ∀ (i : Nat) (x : α), xs[i]? = some x → (p x = true ↔ n ≤ i)) : xs.findIdx p = n := by
  induction xs generalizing n with
  | nil => simpa using (Nat.le_zero.mp hn).symm
  | cons x xs ih =>
    cases n with
    | zero =>
      have hx : p x = true := (h 0 x rfl).mpr (Nat.zero_le _)
      simp [List.findIdx_cons, hx]
    | succ n =>
      have hx : p x = false := by
        have := h 0 x rfl
        simpa using this
      rw [List.findIdx_cons, hx]
      refine congrArg (· + 1) (ih (Nat.le_of_succ_le_succ hn) fun i y hy => ?_)
      rw [h (i + 1) y hy]
      exact Nat.succ_le_succ_iff

/-- WAITING entries join the end of a list in order. -/
theorem InOrder.append {es new : List Entry} {n : Nat} (h : InOrder es n)
    (hlen : es.length + new.length ≤ Config.listEntries) (hnew : ∀ e ∈ new, e.outcome = .waiting) :
    InOrder (es ++ new) n := by
  obtain ⟨-, hnext, hw⟩ := h
  refine ⟨by rwa [List.length_append], hnext.trans (by simp), fun i e he => ?_⟩
  rw [List.getElem?_append] at he
  split at he
  · exact hw i e he
  · next hi => exact iff_of_true (hnew e (List.mem_of_getElem? he)) (hnext.trans (not_lt.mp hi))

theorem appendEntries_kept {es new : List Entry} {n : Nat} (hlen : es.length + new.length ≤ Config.listEntries)
    (hnew : ∀ e ∈ new, e.outcome = .waiting ∧ e.q ≤ Config.maxGrant) :
    ListKept es n (es ++ new) ((es ++ new).findIdx (fun e => e.outcome == .waiting)) where
  order h := by
    have ho := h.append hlen fun e he => (hnew e he).1
    rw [findIdx_eq_of_from ho.2.1 fun i e he => by rw [beq_iff_eq]; exact ho.2.2 i e he]
    exact ho
  offered i e he ho := by
    refine ⟨e, ?_, rfl, ho⟩
    rw [List.getElem?_append_left (List.getElem?_eq_some_iff.mp he).1]
    exact he
  amounts h e he := (List.mem_append.mp he).elim (h e) fun he => (hnew e he).2

theorem abandoned_kept (es : List Entry) (n : Nat) : ListKept es n (es.map Entry.abandoned) es.length where
  order h := by
    refine ⟨by rw [List.length_map]; exact h.1, by rw [List.length_map], fun i e he => ?_⟩
    rw [List.getElem?_map] at he
    obtain ⟨e₀, he₀, rfl⟩ := Option.map_eq_some_iff.mp he
    refine iff_of_false ?_ (not_le.mpr (List.getElem?_eq_some_iff.mp he₀).1)
    unfold Entry.abandoned
    split
    · exact fun h => by cases h
    · next hw => exact hw
  offered i e he ho := by
    refine ⟨e, ?_, rfl, ho⟩
    rw [List.getElem?_map, he]
    simp [Entry.abandoned, ho]
  amounts h x hx := by
    obtain ⟨e, he, rfl⟩ := List.mem_map.mp hx
    unfold Entry.abandoned
    split <;> exact h e he

theorem does_emptyList (s : State) : Does s (emptyList s) :=
  .single (.emptied (core s))

theorem does_appendEntries {s : State} {new : List Entry}
    (hlen : s.list.entries.length + new.length ≤ Config.listEntries)
    (hnew : ∀ e ∈ new, e.outcome = .waiting ∧ e.q ≤ Config.maxGrant) : Does s (appendEntries new s) :=
  .single (.entries (core s) _ _ (appendEntries_kept hlen hnew))

theorem does_abortList (s : State) : Does s (abortList s) := by
  refine Does.of_core (.single (t := s.setList { s.list with
    state := .aborted, entries := s.list.entries.map Entry.abandoned, next := s.list.entries.length }) ?_) (core_setCondition ..)
  exact .entries (core s) _ _ (abandoned_kept ..)

/-- The entries of a LOAD-LIST body that is accepted are WAITING, within the largest amount (R116). -/
theorem entriesOf_spec {ms : List ListEntryMsg} {es : List Entry} (h : entriesOf ms = some es) :
    ∀ e ∈ es, e.outcome = .waiting ∧ e.q ≤ Config.maxGrant := by
  induction ms generalizing es with
  | nil =>
    cases h
    exact fun e he => absurd he List.not_mem_nil
  | cons m ms ih =>
    unfold entriesOf at h
    split at h
    · next x xs hx hxs =>
      cases h
      rintro e (_ | ⟨_, he⟩)
      · unfold entryOf at hx
        split at hx
        · cases hx
        · split at hx
          · cases hx
          · next hrange =>
            cases hx
            refine ⟨rfl, ?_⟩
            change m.q.toNat ≤ Config.maxGrant
            omega
      · exact ih hxs e he
    · cases h

end Lists

/-! ## The line's operations -/

section Lines

theorem inRange_iff (c : LineCounters) : c.inRange ↔
    c.discarded ≤ Config.maxTally ∧ c.shortLength ≤ Config.maxTally ∧ c.truncated ≤ Config.maxTally ∧
      c.garbled ≤ Config.maxTally ∧ c.oversize ≤ Config.maxTally ∧ c.overruns ≤ Config.maxTally ∧
      c.breaks ≤ Config.maxTally := by
  simp [LineCounters.inRange]

theorem tally_le (n : Nat) : tally n ≤ Config.maxTally := by
  rw [tally, raiseTo_eq_min]
  exact min_le_right ..

/-- A line that receives: its queue and transmission stay, and its counters stay within their limit. -/
structure Receives (l l' : LineIf) : Prop where
  queue : l'.queue = l.queue
  sending : l'.sending = l.sending
  counters : l.counters.inRange → l'.counters.inRange

theorem Receives.refl (l : LineIf) : Receives l l :=
  ⟨rfl, rfl, id⟩

theorem Receives.trans {l l' l'' : LineIf} (h : Receives l l') (h' : Receives l' l'') : Receives l l'' :=
  ⟨h'.queue.trans h.queue, h'.sending.trans h.sending, h'.counters ∘ h.counters⟩

/-- What the receiver and the buffer hold, and the pins, the laws do not read. -/
theorem Receives.of_fields {l l' : LineIf} (hq : l'.queue = l.queue) (hs : l'.sending = l.sending)
    (hc : l'.counters = l.counters) : Receives l l' :=
  ⟨hq, hs, fun h => by rw [hc]; exact h⟩

variable (l : LineIf)

theorem receives_countDiscarded : Receives l l.countDiscarded :=
  ⟨rfl, rfl, fun h => by
    rw [inRange_iff] at h ⊢
    obtain ⟨-, hrest⟩ := h
    exact ⟨tally_le _, hrest⟩⟩

theorem receives_countShort : Receives l l.countShort :=
  ⟨rfl, rfl, fun h => by
    rw [inRange_iff] at h ⊢
    obtain ⟨hd, -, hrest⟩ := h
    exact ⟨hd, tally_le _, hrest⟩⟩

theorem receives_truncate : Receives l l.truncate :=
  ⟨rfl, rfl, fun h => by
    rw [inRange_iff] at h ⊢
    obtain ⟨hd, hs, -, hrest⟩ := h
    exact ⟨hd, hs, tally_le _, hrest⟩⟩

theorem receives_countGarbled : Receives l l.countGarbled :=
  ⟨rfl, rfl, fun h => by
    rw [inRange_iff] at h ⊢
    obtain ⟨hd, hs, ht, -, hrest⟩ := h
    exact ⟨hd, hs, ht, tally_le _, hrest⟩⟩

theorem receives_countOversize : Receives l l.countOversize :=
  ⟨rfl, rfl, fun h => by
    rw [inRange_iff] at h ⊢
    obtain ⟨hd, hs, ht, hg, -, hrest⟩ := h
    exact ⟨hd, hs, ht, hg, tally_le _, hrest⟩⟩

theorem receives_countOverrun : Receives l l.countOverrun :=
  ⟨rfl, rfl, fun h => by
    rw [inRange_iff] at h ⊢
    obtain ⟨hd, hs, ht, hg, ho, -, hb⟩ := h
    exact ⟨hd, hs, ht, hg, ho, tally_le _, hb⟩⟩

theorem counters_countBreak (h : l.counters.inRange) : l.countBreak.counters.inRange := by
  rw [inRange_iff] at h ⊢
  obtain ⟨hd, hs, ht, hg, ho, hr, -⟩ := h
  exact ⟨hd, hs, ht, hg, ho, hr, tally_le _⟩

theorem receives_settled (now : Word32) : Receives l (l.settled now) := by
  unfold LineIf.settled
  split
  · exact receives_truncate l
  · exact .refl l

theorem receives_countStop (stop : Bool) : Receives l (l.countStop stop) := by
  unfold LineIf.countStop
  split
  · exact .refl l
  · exact receives_countDiscarded l

theorem receives_receiver (x : Receiver) : Receives l { l with receiver := x } :=
  .of_fields rfl rfl rfl

theorem receives_abandonShort (stop : Bool) : Receives l (l.abandonShort stop) :=
  ((receives_receiver l .waiting).trans (receives_countShort _)).trans (receives_countStop _ stop)

theorem receives_takeByte (b : Byte) (stop : Bool) (now : Word32) : Receives l (l.takeByte b stop now) := by
  unfold LineIf.takeByte
  split
  · exact .refl l
  · split
    · exact receives_abandonShort l stop
    · exact (receives_receiver l _).trans (receives_countStop _ stop)
  · exact (receives_receiver l _).trans (receives_countStop _ stop)

theorem receives_judgeFrame (f : RxProgress) : Receives l (l.judgeFrame f) := by
  have hidle := receives_receiver l .waiting
  unfold LineIf.judgeFrame
  dsimp only
  split_ifs
  · exact hidle.trans (receives_countGarbled _)
  · exact (hidle.trans (receives_countOversize _)).trans (.of_fields rfl rfl rfl)
  · exact hidle.trans (.of_fields rfl rfl rfl)

theorem receives_endFrame (b : Byte) (stop : Bool) (now : Word32) : Receives l (l.endFrame b stop now) := by
  unfold LineIf.endFrame
  split
  · exact (receives_judgeFrame ..).trans (receives_countStop ..)
  · exact .refl l

theorem receives_cleared : Receives l { l with counters := LineCounters.zero } :=
  ⟨rfl, rfl, fun _ => zero_inRange⟩

variable {l}

theorem does_setLine {s : State} {p : Port} {l : LineIf} (h : Receives (s.line p) l) : Does s (s.setLine p l) := by
  refine .single ?_
  rw [core_setLine]
  refine .line (core s) p (coreLine l) ?_ (fun bytes hb => .inl ?_) ?_
  · rw [core_queue]; exact h.queue
  · rw [core_line]; exact h.sending.symm.trans hb
  · rw [core_line]; exact h.counters

theorem does_modLineIf {s : State} {p : Port} {f : LineIf → LineIf} (h : Receives (s.line p) (f (s.line p))) :
    Does s (modLineIf p f s) :=
  does_setLine h

theorem does_receive (p : Port) (cond : LineIf → Bool) {f : LineIf → LineIf} (h : ∀ l, Receives l (f l)) (s : State) :
    Does s (receive p cond f s) := by
  unfold receive
  dsimp only
  split
  · exact does_setLine ((receives_settled ..).trans (h _))
  · exact .refl s

/-- A frame that is to be taken leaves the buffer, arrives or waits. -/
theorem does_takeFrame (p : Port) (kind tag : Byte) (body : List Byte) (s : State) :
    Does s (stateOf (takeFrame p kind tag body s)) := by
  have hcounted (f : RxFrame) : Receives (s.line p)
      (if f.oversize then
        { (s.line p).settled s.timeBase with
          counters := { ((s.line p).settled s.timeBase).counters with
            oversize := tally ((s.line p).settled s.timeBase).counters.oversize } }
      else (s.line p).settled s.timeBase) := by
    split
    · exact (receives_settled ..).trans (receives_countOversize _)
    · exact receives_settled ..
  unfold takeFrame
  dsimp only
  split
  · exact .refl s
  · split
    · split
      · exact does_setLine (.of_fields rfl rfl rfl)
      · exact .refl s
    · by_cases hidle : ((s.line p).settled s.timeBase).receiver = .waiting ∧ ((s.line p).settled s.timeBase).breakNow = false
      · rw [if_pos hidle]
        by_cases hfree : decide (1 ≤ (s.line p).free) = true
        · rw [if_pos hfree]
          exact does_setLine (hcounted _)
        · rw [if_neg hfree]
          exact does_setLine ((hcounted _).trans (.of_fields rfl rfl rfl))
      · rw [if_neg hidle]
        exact .refl s

/-- A frame is taken only while a place is free for its reply (R196). -/
theorem takeFrame_room {p : Port} {kind tag : Byte} {body : List Byte} {s t : State} {o : Bool}
    (h : takeFrame p kind tag body s = .taken o t) : (t.line p).queue.length < Config.queuePlaces := by
  have hq : (t.line p).queue = (s.line p).queue := by
    have := (does_takeFrame p kind tag body s).queue p
    rw [h] at this
    exact this
  have hfree : 1 ≤ (s.line p).free := by
    by_contra hfull
    unfold takeFrame at h
    simp only [decide_eq_false hfull] at h
    split at h
    · cases h
    · split at h
      · simp at h
      · simp only [Bool.false_eq_true, if_false] at h
        split at h <;> cases h
  rw [hq]
  unfold LineIf.free at hfree
  omega

end Lines

/-! ## The owners -/

section Owners

variable (s : State)

theorem serving_of_state {r : Meter} {x : MeterState} (h : r.state = x) (hx : x ≠ .vacant ∧ x ≠ .retired) : Serving r := by
  rw [Serving, h]
  exact hx

theorem does_answerDeposit (f : DepositMsg) : Does s (answerDeposit f s).state := by
  unfold answerDeposit
  dsimp only
  split_ifs
  · exact .refl s
  · exact .refl s
  · exact (does_modCurrent fun _ => unsaturated_of_or).trans (does_changePool (poolDeposit_move ..) rfl)

theorem does_answerRefund (f : RefundMsg) : Does s (answerRefund f s).state := by
  unfold answerRefund
  dsimp only
  split_ifs
  · exact .refl s
  · exact .refl s
  · exact (does_modCurrent fun _ => unsaturated_of_or).trans (does_changePool (poolRefund_move ..) rfl)

theorem does_answerSetPoolLimits (f : PoolLimitsMsg) : Does s (answerSetPoolLimits f s).state := by
  unfold answerSetPoolLimits
  dsimp only
  split_ifs
  · exact .refl s
  · exact does_setLimits ..

/-! ### Stock -/

theorem does_withStockLine {branch line : Byte} {k : BranchId → LineNo → State → Answer}
    (h : ∀ b l, Does s (k b l s).state) : Does s (withStockLine branch line k s).state := by
  unfold withStockLine
  split
  · split
    · exact h _ _
    · exact .refl s
  · exact .refl s

theorem does_answerConfigureStockLine (f : StockLineMsg) : Does s (answerConfigureStockLine f s).state := by
  unfold answerConfigureStockLine
  split
  · split
    · exact .refl s
    · split
      · exact .refl s
      · split_ifs
        · exact .refl s
        · exact .refl s
        · exact does_evaluateReorder id rfl
  · exact .refl s

theorem does_answerStockReceipt (f : ReceiptMsg) : Does s (answerStockReceipt f s).state := by
  refine does_withStockLine s fun b l => ?_
  have hreceive (t : State) (hline : (t.stockLine b l) = s.stockLine b l)
      (hroom : (s.stockLine b l).onHand + f.count.toNat ≤ Config.maxPieces) :
      Does t (receivePieces b l f.count.toNat t) :=
    does_evaluateReorder (fun _ => by rw [hline]; exact hroom) rfl
  unfold receiptOn
  dsimp only
  split
  · exact .refl s
  · split_ifs with _ hroom
    · exact .refl s
    · exact .refl s
    · exact .refl s
    · have hpaid : Does s (payFor (f.count.toNat * (s.stockLine b l).face) s) :=
        (does_modCurrent fun _ => unsaturated_of_or).trans (does_changePool (poolPurchase_move ..) rfl)
      refine hpaid.trans (hreceive _ (stockLine_congr ?_ b l) (not_lt.mp hroom))
      simp [payFor]
    · exact hreceive s rfl (not_lt.mp hroom)

/-- Pieces leave a line and are valued (R149). -/
theorem does_takePieces (b : BranchId) (l : LineNo) (n : Nat) (f : StockLine → StockLine)
    (hf : ∀ x, (f x).onHand = x.onHand - n ∧ (f x).raised = x.raised) (c : BranchId) (g : BranchBank → BranchBank)
    (hit : BranchBank → Bool) : Does s (evaluateReorder b l (addToBranchBank c g hit (modStockLine b l f s))) := by
  change Does s (evaluateReorder b l (modStockLine b l f (addToBranchBank c g hit s)))
  refine (does_addToBranchBank ..).trans (does_evaluateReorder (fun h => ?_) (hf _).2)
  rw [(hf _).1]
  exact (Nat.sub_le _ n).trans h

theorem does_answerStockSale (f : PiecesMsg) : Does s (answerStockSale f s).state := by
  refine does_withStockLine s fun b l => ?_
  unfold saleOn
  split
  · exact .refl s
  · exact does_takePieces s b l f.count.toNat
      (fun x => { x.less f.count.toNat with issues := raiseTo Config.maxCount x.issues f.count.toNat })
      (fun _ => ⟨rfl, rfl⟩) b _ _

theorem does_answerStockSpoil (f : PiecesMsg) : Does s (answerStockSpoil f s).state := by
  refine does_withStockLine s fun b l => ?_
  unfold spoilOn
  split
  · exact .refl s
  · exact does_takePieces s b l f.count.toNat
      (fun x => { x.less f.count.toNat with spoilage := raiseTo Config.maxCount x.spoilage f.count.toNat })
      (fun _ => ⟨rfl, rfl⟩) b _ _

theorem does_countPieces (b : BranchId) (l : LineNo) {c : Nat} (hc : c ≤ Config.maxPieces) (value : Int) :
    Does s (countPieces b l c value s) := by
  change Does s (evaluateReorder b l (modStockLine b l (fun x => { x with onHand := c, shortfall := 0 })
    (bankVariance b value s)))
  exact (does_addToBranchBank ..).trans (does_evaluateReorder (fun _ => hc) rfl)

theorem does_answerStockCount (f : PiecesMsg) : Does s (answerStockCount f s).state := by
  refine does_withStockLine s fun b l => ?_
  unfold countOn
  split
  · exact .refl s
  · next hc =>
    dsimp only
    have hcounted := does_countPieces s b l (not_lt.mp hc)
      (((f.count.toNat : Int) - ((s.stockLine b l).onHand : Int)) * ((s.stockLine b l).face : Int))
    change Does s (if _ then _ else _)
    split
    · exact hcounted.trans (does_handFault ..)
    · exact hcounted

theorem does_answerSetTolerance (f : ToleranceMsg) : Does s (answerSetTolerance f s).state := by
  unfold answerSetTolerance
  split
  · exact .refl s
  · exact .frame rfl

/-! ### Meters -/

theorem does_answerEnrolMeter (f : EnrolMsg) : Does s (answerEnrolMeter f s).state := by
  unfold answerEnrolMeter
  split
  · split_ifs with _ _ henrolled
    · exact .refl s
    · exact .refl s
    · exact .refl s
    · exact .refl s
    · exact does_enrol s _ _ _ _ (Bool.eq_false_iff.mpr henrolled)
  · exact .refl s

theorem does_answerConfigureMeter (f : ConfigureMeterMsg) : Does s (answerConfigureMeter f s).state := by
  unfold answerConfigureMeter
  split
  · exact .refl s
  · split
    · exact .refl s
    · split
      · exact .refl s
      · split
        · exact .refl s
        · exact does_configureMeter ..

theorem does_answerSuspendMeter (f : MeterMsg) : Does s (answerSuspendMeter f s).state := by
  unfold answerSuspendMeter
  split
  · exact .refl s
  · unfold suspendOn
    split
    · exact .refl s
    · exact .refl s
    · exact does_enterSuspended ..
    · exact does_enterSuspended ..
    · exact .refl s
    · exact .refl s
    · exact .refl s

theorem does_answerRetireMeter (f : MeterMsg) : Does s (answerRetireMeter f s).state := by
  unfold answerRetireMeter
  split
  · exact .refl s
  · unfold retireOn
    split
    · exact .refl s
    · exact .refl s
    · exact does_beginRetirement ..
    · exact does_beginRetirement ..
    · exact does_beginRetirement ..
    · exact .refl s
    · exact .refl s

theorem does_answerMeterStatus (f : ReadingMsg) : Does s (answerMeterStatus f s).state := by
  unfold answerMeterStatus
  split
  · exact .refl s
  · next m _ =>
    unfold statusOn
    cases h : (s.meter m).state with
    | vacant | retired => exact .refl s
    | awaitingReading => exact does_finalReading _ _ h
    | active | silent | suspended | draining =>
      exact does_statusReport _ (serving_of_state h ⟨by decide, by decide⟩)

theorem does_answerFinalReading (f : ReadingMsg) : Does s (answerFinalReading f s).state := by
  unfold answerFinalReading
  split
  · exact .refl s
  · next m _ =>
    unfold plainFinalOn
    cases h : (s.meter m).state with
    | awaitingReading => exact does_finalReading _ _ h
    | _ => exact .refl s

theorem does_answerAdjustingFinalReading (f : ReadingMsg) : Does s (answerAdjustingFinalReading f s).state := by
  unfold answerAdjustingFinalReading
  split
  · exact .refl s
  · next m _ =>
    unfold adjustingFinalOn
    cases h : (s.meter m).state with
    | awaitingReading => exact does_adjustOn _ h
    | _ => exact .refl s

theorem does_outcomeOn (m : MeterId) (serial : Word16) (claim : Claim) (rd : Report) :
    Does s (outcomeOn m serial claim rd s).state := by
  unfold outcomeOn
  cases h : (s.meter m).state with
  | vacant | retired => exact .refl s
  | awaitingReading =>
    dsimp only
    split
    · unfold outcomeFinalNamed
      dsimp only
      split
      · exact (does_finalReading _ _ h).trans (does_handFault ..)
      · exact does_finalReading _ _ h
    · exact (does_finalReading _ _ h).trans (does_handFault ..)
  | active | silent | suspended | draining =>
    exact does_outcomeInService _ _ _ (serving_of_state h ⟨by decide, by decide⟩)

theorem does_answerGrantApplied (f : AppliedMsg) : Does s (answerGrantApplied f s).state := by
  unfold answerGrantApplied
  split
  · exact .refl s
  · exact does_outcomeOn ..

theorem does_answerGrantRejected (f : RejectedMsg) : Does s (answerGrantRejected f s).state := by
  unfold answerGrantRejected
  split
  · exact .refl s
  · exact does_outcomeOn ..

theorem does_answerResumeMeter (f : MeterMsg) : Does s (answerResumeMeter f s).state := by
  unfold answerResumeMeter
  split
  · exact .refl s
  · next m _ =>
    unfold resumeOn
    cases h : (s.meter m).state with
    | suspended =>
      dsimp only
      unfold resumeSuspended
      dsimp only
      split
      · exact does_reactivate s m h
      · split_ifs
        · exact .refl s
        · exact .refl s
        · exact .refl s
        · exact does_rebaseline _ _ h
    | _ => exact .refl s

theorem does_answerRefillRequest (f : RefillMsg) : Does s (answerRefillRequest f s).state := by
  unfold answerRefillRequest
  split
  · exact .refl s
  · next m _ =>
    split
    · exact .refl s
    · split
      · exact .refl s
      · split_ifs with hrange
        · exact .refl s
        · unfold refillOn
          cases h : (s.meter m).state with
          | active =>
            dsimp only
            split_ifs with hgrant
            · exact .refl s
            · have hg : (s.meter m).grant = none := by simpa using hgrant
              have hq := not_lt.mp (not_or.mp hrange).2
              unfold acceptRequest
              split
              · exact does_replaceRequest s m h hg hq
              · exact does_joinOrder s m h hg hq
          | _ => exact .refl s

/-! ### The list -/

theorem does_answerLoadList (f : LoadListMsg) : Does s (answerLoadList f s).state := by
  have hload (base : State) (h : Does s base) : Does s
      (if f.entries.length = 0 ∨ Config.listEntries < f.entries.length then refuse .outOfRange s
      else
        match entriesOf f.entries with
        | none => refuse .outOfRange s
        | some new =>
            if Config.listEntries < base.list.entries.length + new.length then refuse .full s
            else answerOk (loadBody base.list.entries.length (appendEntries new base)) (appendEntries new base)).state := by
    split
    · exact .refl s
    · split
      · exact .refl s
      · next new hnew =>
        split
        · exact .refl s
        · next hlen => exact h.trans (does_appendEntries (not_lt.mp hlen) (entriesOf_spec hnew))
  unfold answerLoadList
  dsimp only
  cases s.list.state with
  | running | halting | halted | drainingList => exact .refl s
  | empty | loaded => exact hload s (.refl s)
  | done | aborted => exact hload (emptyList s) (does_emptyList s)

theorem core_startList (cls : Priority) (batch : Bool) : core (startList cls batch s) = core s := by
  unfold startList
  dsimp only
  split
  · exact core_endRun _
  · exact core_endRun _
  · rfl

theorem does_answerStartList (f : StartListMsg) : Does s (answerStartList f s).state := by
  unfold answerStartList
  split
  · cases s.list.state with
    | loaded | halted | halting | running => exact .frame (core_startList ..)
    | _ => exact .refl s
  · exact .refl s

theorem does_answerHaltList (f : Unit) : Does s (answerHaltList f s).state := by
  unfold answerHaltList
  cases s.list.state with
  | running =>
    dsimp only
    change Does s (if _ then _ else _)
    split
    · exact .frame rfl
    · exact .frame (core_haltList s)
  | _ => exact .refl s

theorem does_answerAbortList (f : Unit) : Does s (answerAbortList f s).state := by
  unfold answerAbortList
  cases s.list.state with
  | loaded | running | halting | halted => exact does_abortList s
  | _ => exact .refl s

theorem does_answerClearList (f : Unit) : Does s (answerClearList f s).state := by
  unfold answerClearList
  cases s.list.state with
  | done | aborted => exact does_emptyList s
  | _ => exact .refl s

/-! ### The engine, the part state and the rest -/

theorem does_answerSetEngine (f : SetEngineMsg) : Does s (answerSetEngine f s).state := by
  unfold answerSetEngine
  dsimp only
  split
  · exact .refl s
  · exact .frame rfl

theorem does_answerEngineRestart (f : Unit) : Does s (answerEngineRestart f s).state := by
  unfold answerEngineRestart
  cases h : s.engine.state with
  | active =>
    dsimp only
    change Does s (if _ then _ else _)
    split
    · exact does_restartTakesEffect h
    · next ho =>
      refine .monitor s.monitor .quiescing id .inl (fun hfits => ?_) (fun _ => .inr (Nat.pos_of_ne_zero ho)) rfl
      rw [hfits, h]
      simp
  | _ => exact .refl s

theorem does_answerCommission (f : Unit) : Does s (answerCommission f s).state := by
  unfold answerCommission
  cases s.monitor.state with
  | uncommissioned =>
    let t := s.setMeters (mapAll (Meter.commissioned s) s.meters)
    have hm : Does s t := does_setMeters (fun _ => commissioned_kept s) fun r => by
      unfold Meter.commissioned
      split <;> rfl
    have hpart (m : MeterId) (ha : (t.meter m).state = .active) : (t.meter m).supervision.isSome = true := by
      have hr : t.meter m = Meter.commissioned s (s.meter m) := mapAll_get ..
      rw [hr] at ha ⊢
      unfold Meter.commissioned at ha ⊢
      split
      · rfl
      · next h => rw [if_neg h] at ha; exact absurd ha h
    refine hm.trans (.monitor { s.monitor with state := .inService } .active id (fun _ => .inr hpart) (fun _ => by simp)
      (fun hx => by cases hx) ?_)
    exact (core_setStarted ..).trans rfl
  | _ => exact .refl s

theorem does_answerRelease (f : Unit) : Does s (answerRelease f s).state := by
  unfold answerRelease
  cases h : s.monitor.state with
  | lockdown =>
    exact .monitor { s.monitor with state := .inService } .active id
      (fun _ => .inl (by unfold Commissioned; rw [h]; decide)) (fun _ => by simp) (fun hx => by cases hx) rfl
  | _ => exact .refl s

theorem does_answerClearFaults (f : Unit) : Does s (answerClearFaults f s).state := by
  unfold answerClearFaults
  cases s.monitor.state with
  | inService => exact does_setLog fun _ => ⟨Nat.zero_le _, Nat.zero_le _⟩
  | _ => exact .refl s

theorem does_answerSetFaultPolicy (f : PolicyMsg) : Does s (answerSetFaultPolicy f s).state := by
  unfold answerSetFaultPolicy
  split
  · exact .refl s
  · exact .frame rfl

theorem does_answerCollectPeriod (f : StampMsg) : Does s (answerCollectPeriod f s).state := by
  unfold answerCollectPeriod
  split_ifs
  · exact .refl s
  · exact .refl s
  · exact .frame rfl

theorem does_answerConfigureBranch (f : ConfigureBranchMsg) : Does s (answerConfigureBranch f s).state := by
  unfold answerConfigureBranch
  split
  · exact .frame rfl
  · exact .refl s

theorem does_answerSetUrgencyMap (f : UrgencyMapMsg) : Does s (answerSetUrgencyMap f s).state := by
  unfold answerSetUrgencyMap
  split
  · exact .refl s
  · exact .frame rfl

theorem does_answerSetNotices (f : SetNoticesMsg) : Does s (answerSetNotices f s).state := by
  unfold answerSetNotices
  split
  · exact .refl s
  · refine .frame (core_setNotices s _ fun i => ?_)
    rw [zipAll_get]
    rfl

theorem does_answerQueryMeter (f : MeterMsg) : Does s (answerQueryMeter f s).state := by
  unfold answerQueryMeter
  split <;> exact .refl s

theorem does_answerQueryBranch (f : BranchMsg) : Does s (answerQueryBranch f s).state := by
  unfold answerQueryBranch
  split <;> exact .refl s

theorem does_answerQueryStock (f : QueryStockMsg) : Does s (answerQueryStock f s).state := by
  unfold answerQueryStock
  split
  · split <;> exact .refl s
  · exact .refl s

theorem does_answerQueryList (f : QueryListMsg) : Does s (answerQueryList f s).state := by
  unfold answerQueryList
  split <;> exact .refl s

theorem does_answerQueryPeriod (f : QueryPeriodMsg) : Does s (answerQueryPeriod f s).state := by
  unfold answerQueryPeriod
  split
  · split <;> exact .refl s
  · exact .refl s

theorem does_answerQueryLine (f : QueryLineMsg) : Does s (answerQueryLine f s).state := by
  unfold answerQueryLine
  split
  · exact .refl s
  · exact ((does_modLineIf (receives_settled ..)).trans (does_modLineIf (.of_fields rfl rfl rfl))).trans
      (does_modLineIf (receives_cleared _))

end Owners

/-! ## Messages as the Dispatcher sees them -/

/-- What the Dispatcher or the owner answers to a message. -/
def Message.answer (m : Message) (oversize : Bool) (s : State) : Answer :=
  if oversize then refuseOversize s else if m.sized then judge m.port m.kind m.owner s else refuse .malformed s

/-- A message command in the terms of the statements. -/
def Message.run (m : Message) (s : State) : State :=
  match takeFrame m.port m.kind.code m.tag m.bytes s with
  | .waits t => t
  | .taken oversize t => reply m.port m.kind.code m.tag (Message.answer m oversize t)

theorem request_eq_run {α : Type} (p : Port) (k : Kind) (tag : Byte) (b : Body α) (enc : α → List Byte)
    (owner : α → State → Answer) (s : State) :
    request p k tag b enc owner s = Message.run (.of p k tag enc owner b) s := by
  cases b <;> rfl

/-- Every message command is run alike. -/
theorem exec_message {c : Instr} {m : Message} (h : messageOf c = some m) (s : State) :
    exec c s = .next (Message.run m s) := by
  cases c with
  | unknownKind | discardedByte | shortLength | silence | frameCheck | overrun | lineBreak | breakEnd
  | frameTransmissionStart | fullyTransmitted | selection | queuingOpportunity | supervisionExpiry | holdOffExpiry
  | grantExpiry | powerOn | powerOnRetentionLost | startMarkerReceived | frameByteReceived | powerLoss => cases h
  | _ =>
    cases h
    exact congrArg Host.Outcome.next (request_eq_run ..)

/-- A message has no effect on an unpowered part. -/
theorem run_of_unpowered (m : Message) {s : State} (h : s.powered = false) : Message.run m s = s := by
  simp [Message.run, takeFrame, h]

/-- The three ways in which a message is answered. -/
theorem answer_cases (m : Message) (o : Bool) (s : State) :
    (Message.answer m o s).state = s ∨ (Message.answer m o s) = m.owner s := by
  unfold Message.answer judge
  split_ifs <;> simp [refuseOversize, refuse]

/-! ## The events at the lines -/

section Events

variable (s : State) (p : Port)

theorem core_modLineIf (f : LineIf → LineIf) :
    core (modLineIf p f s) = (core s).setLine p (coreLine (f (s.line p))) :=
  core_setLine ..

theorem does_truncated (expiry : Word32) : Does s (modLineIf p LineIf.truncate (reachTime expiry s)) :=
  (Does.frame (core_reachTime s expiry)).trans (does_modLineIf (receives_truncate _))

theorem does_breakEnd : Does s (modLineIf p (fun l => { l with breakNow := false }) s) :=
  does_modLineIf (.of_fields rfl rfl rfl)

/-- What is sent is the frame at the head of the queue (R200). -/
theorem startTransmission_sending (l : LineIf) (readyIn : Bool) (bytes : List Byte)
    (h : (l.startTransmission readyIn).sending = some bytes) :
    l.sending = some bytes ∨ ∃ f rest, l.queue = f :: rest ∧ bytes = f.bytes := by
  unfold LineIf.startTransmission at h
  dsimp only at h
  split at h
  · next f rest _ hq =>
    split at h
    · cases h
      exact .inr ⟨f, rest, hq, rfl⟩
    · cases h
  · exact .inl h

theorem does_startTransmission (readyIn : Bool) : Does s (modLineIf p (LineIf.startTransmission readyIn) s) := by
  refine .single ?_
  rw [core_modLineIf]
  refine .line (core s) p _ (core_queue s p).symm (fun bytes hb => ?_) ?_
  · rw [core_line]
    exact startTransmission_sending _ _ _ hb
  · rw [core_line]
    exact id

/-- The holder once a port has broken down (R201). -/
theorem afterBreak_holder (ph : NoticePhase) (q : Port) :
    (ph.afterBreak q).holder = if ph.holder = some q then none else ph.holder := by
  unfold NoticePhase.afterBreak
  split <;> rfl

theorem coreClass_phase (e : NoticeEntry) (ph : NoticePhase) :
    coreClass { e with phase := ph } = { coreClass e with phase := ph.holder.elim .idle .queued } := rfl

theorem core_unqueueNotices : core (unqueueNotices p s) = unheldOn p (core s) := by
  have hh : heldBy (unqueueNotices p s) =
      mapAll (fun e => { e with phase := if e.phase.holder = some p then NoticePhase.idle else e.phase }) (heldBy s) :=
    vector_ext_get fun i => by
      change (mapAll coreClass (mapAll _ _)).get i = (mapAll _ (mapAll coreClass _)).get i
      simp only [mapAll_get, coreClass_phase, coreClass_holder, afterBreak_holder]
      split
      · rfl
      · rfl
  change { core s with notices := { Notices.lost with classes := heldBy (unqueueNotices p s) } } = _
  rw [hh]
  rfl

theorem alters_lineBreak : Alters s (modLineIf p LineIf.broken (settleLine p (unqueueNotices p s))) := by
  refine .single ?_
  rw [show core (modLineIf p LineIf.broken (settleLine p (unqueueNotices p s))) =
    (unheldOn p (core s)).setLine p (coreLine ((s.line p).settled s.timeBase).broken) by
      rw [← core_unqueueNotices, core_modLineIf, settleLine, core_modLineIf]
      cases p <;> rfl]
  refine .broken (core s) p _ rfl rfl ?_
  rw [core_line]
  exact fun h => counters_countBreak _ ((receives_settled (s.line p) s.timeBase).counters h)

/-- The phase of one class changes. -/
theorem core_modNotice (c : NoticeClass) (ph : NoticePhase) (f : NoticeEntry → NoticeEntry)
    (hf : coreClass (f (s.noticeClass c)) = { coreClass (s.noticeClass c) with phase := ph }) :
    core (modNotice c f s) = withHolder c ph (core s) := by
  have hh : heldBy (modNotice c f s) = modifyAt (heldBy s) c.idx (fun e => { e with phase := ph }) :=
    vector_ext_get fun i => by
      change (mapAll coreClass (modifyAt _ _ _)).get i = (modifyAt (mapAll coreClass _) _ _).get i
      simp only [mapAll_get, modifyAt_get]
      split
      · exact hf
      · rfl
  change { core s with notices := { Notices.lost with classes := heldBy (modNotice c f s) } } = _
  rw [hh]
  rfl

/-! ### Notices (R203) -/

/-- A class is queued at an opportunity only while it is PENDING and more than 2 places are free. -/
theorem nextNotice_spec {c : NoticeClass} (h : nextNotice s p = some c) :
    (s.noticeClass c).phase = .pending ∧ 2 < (s.line p).free := by
  have := List.find?_some h
  unfold opportunity at this
  simp_all

theorem withHolder_setLine (c : NoticeClass) (ph : NoticePhase) (l : LineIf) :
    (withHolder c ph s).setLine p l = withHolder c ph (s.setLine p l) := by
  cases p <;> rfl

theorem alters_queueNotice {c : NoticeClass} (h : nextNotice s p = some c) : Alters s (queueNotice c p s) := by
  obtain ⟨hpending, hfree⟩ := nextNotice_spec s p h
  have hmarked : core (if c = .retire then markSampled s else s) = core s := by
    split
    · exact core_markSampled s
    · rfl
  refine .single ?_
  unfold queueNotice
  dsimp only
  rw [core_enqueue, core_modNotice _ c (.queued p) _ rfl, hmarked, withHolder_line, withHolder_setLine]
  refine .noticed (core s) p c (.notice c (noticeBody s c) (noticeCarries s c)) ?_ (fun _ => rfl) ?_
  · rw [core_queue]
    unfold LineIf.free at hfree
    omega
  · rw [core_holder, hpending]
    rfl

/-- The carried entries leave their owner's list, of which the laws read the reorder list alone. -/
theorem does_pageReported (c : NoticeClass) (carried : Carried) : Does s (pageReported c carried s) := by
  have hcondition (d : NoticeClass) (t : State) (b : Bool) : core (if b then t else setCondition d t) = core t := by
    split
    · rfl
    · exact core_setCondition ..
  unfold pageReported
  dsimp only
  split
  · exact .frame (hcondition ..)
  · exact .frame (hcondition ..)
  · next ps =>
    refine .of_core (.single (t := s.setStock { s.stock with
      reorder := s.stock.reorder.filter (fun x => !ps.contains x) }) ?_) (hcondition ..)
    rw [core_setStock]
    exact .stock (core s) _ ⟨fun _ h => h, fun _ _ ⟨hnodup, hbelow⟩ =>
      ⟨hnodup.filter _, fun x hx => hbelow x (List.mem_of_mem_filter hx)⟩⟩
  · exact .refl s

theorem alters_noticeSent {f : OutFrame} {rest : List OutFrame} (h : (s.line p).queue = f :: rest) :
    Alters s (noticeSent f (modLineIf p LineIf.sent s)) := by
  have hsent : core (modLineIf p LineIf.sent s) =
      (core s).setLine p { (core s).line p with queue := rest, sending := none } := by
    rw [core_modLineIf, core_line, LineIf.sent, h]
    rfl
  have hchange := Change.sent (core s) p f rest ((core_queue s p).trans h)
  cases f with
  | notice c body carried =>
    refine Alters.trans (t := modNotice c (fun e => { e with phase := e.phase.afterTransmission })
      (modLineIf p LineIf.sent s)) (.single ?_) (does_pageReported ..).alters
    rw [core_modNotice _ c .idle _ ?_, hsent]
    · exact hchange
    · rw [coreClass_phase]
      cases (((modLineIf p LineIf.sent s).noticeClass c).phase) <;> rfl
  | _ =>
    refine .single ?_
    exact hsent ▸ hchange

end Events

/-! ## Every command -/

section Messages

variable {s : State}

/-- A message whose owner makes complete changes makes them, and queues its reply. -/
theorem alters_run {m : Message} (h : ∀ t, Does t (m.owner t).state) (s : State) : Alters s (Message.run m s) := by
  have htake := does_takeFrame m.port m.kind.code m.tag m.bytes s
  unfold Message.run
  split
  · next ht => rw [ht] at htake; exact htake.alters
  · next o t ht =>
    rw [ht] at htake
    have hanswer : Does t (Message.answer m o t).state := by
      obtain hstate | howner := answer_cases m o t
      · rw [hstate]; exact .refl t
      · rw [howner]; exact h t
    refine (htake.trans hanswer).alters.trans (alters_enqueue ?_ fun _ => rfl)
    rw [hanswer.queue]
    exact takeFrame_room ht

theorem alters_unknownKind (p : Port) (tag kind : Byte) (body : List Byte) : Alters s
    (if inboundCode kind then s
    else
      match takeFrame p kind tag body s with
      | .waits t => t
      | .taken oversize t => reply p kind tag (if oversize then refuseOversize t else refuse .malformed t)) := by
  have htake := does_takeFrame p kind tag body s
  split
  · exact .refl s
  · split
    · next ht => rw [ht] at htake; exact htake.alters
    · next o t ht =>
      rw [ht] at htake
      have hstate : (if o then refuseOversize t else refuse .malformed t).state = t := by split <;> rfl
      refine htake.alters.trans ?_
      unfold reply
      rw [hstate]
      exact alters_enqueue (takeFrame_room ht) fun _ => rfl

theorem core_closePeriod (stamp : Word32) (s : State) : core (closePeriod stamp s) = periodClosed (core s) := by
  unfold closePeriod
  dsimp only
  rw [core_setCondition]
  rfl

theorem closePeriod_line (stamp : Word32) (s : State) (p : Port) : (closePeriod stamp s).line p = s.line p := by
  cases p <;> rfl

theorem closePeriod_pool (stamp : Word32) (s : State) : (closePeriod stamp s).pool = s.pool :=
  rfl

/-- CLOSE-PERIOD closes the period, or it makes no change beyond its reply. -/
theorem stepOf_closePeriod {m : Message} (s : State)
    (h : ∀ t, (m.owner t).state = t ∨ ∃ stamp, (m.owner t).state = closePeriod stamp t) : StepOf s (Message.run m s) := by
  have htake := does_takeFrame m.port m.kind.code m.tag m.bytes s
  unfold Message.run
  split
  · next ht => rw [ht] at htake; exact .changed htake.alters
  · next o t ht =>
    rw [ht] at htake
    have hanswer : (Message.answer m o t).state = t ∨ ∃ stamp, (Message.answer m o t).state = closePeriod stamp t :=
      (answer_cases m o t).elim .inl fun howner => howner ▸ h t
    unfold reply
    obtain hstate | ⟨stamp, hclosed⟩ := hanswer
    · rw [hstate]
      exact .changed (htake.alters.trans (alters_enqueue (takeFrame_room ht) fun _ => rfl))
    · rw [hclosed]
      refine .closed htake.alters (u := core t) ?_ ?_
      · rw [← core_closePeriod stamp t]
        refine alters_enqueue ?_ fun _ => rfl
        rw [closePeriod_line]
        exact takeFrame_room ht
      · obtain ⟨l, hl⟩ := BranchTable.takeFrame_line m.port m.kind.code m.tag m.bytes s
        rw [ht] at hl
        cases hl
        rw [enqueue_pool, closePeriod_pool]
        cases m.port <;> rfl

theorem of_kind {α : Type} (p : Port) (k : Kind) (tag : Byte) (enc : α → List Byte) (owner : α → State → Answer)
    (b : Body α) : (Message.of p k tag enc owner b).kind = k := by
  cases b <;> rfl

/-- Every owner but that of CLOSE-PERIOD makes complete changes. -/
theorem does_owner {c : Instr} {m : Message} (h : messageOf c = some m) (hk : m.kind ≠ .closePeriod) (t : State) :
    Does t (m.owner t).state := by
  have hof {α : Type} {p : Port} {k : Kind} {tag : Byte} {enc : α → List Byte} {owner : α → State → Answer} {b : Body α}
      (howner : ∀ t f, Does t (owner f t).state) : Does t ((Message.of p k tag enc owner b).owner t).state := by
    cases b with
    | fields f => exact howner t f
    | otherLength => exact .refl t
  cases c with
  | unknownKind | discardedByte | shortLength | silence | frameCheck | overrun | lineBreak | breakEnd
  | frameTransmissionStart | fullyTransmitted | selection | queuingOpportunity | supervisionExpiry | holdOffExpiry
  | grantExpiry | powerOn | powerOnRetentionLost | startMarkerReceived | frameByteReceived | powerLoss => cases h
  | closePeriod p tag b => cases h; cases b <;> exact absurd rfl hk
  | meterStatus => cases h; exact hof does_answerMeterStatus
  | refillRequest => cases h; exact hof does_answerRefillRequest
  | grantApplied => cases h; exact hof does_answerGrantApplied
  | grantRejected => cases h; exact hof does_answerGrantRejected
  | deposit => cases h; exact hof does_answerDeposit
  | enrolMeter => cases h; exact hof does_answerEnrolMeter
  | configureMeter => cases h; exact hof does_answerConfigureMeter
  | suspendMeter => cases h; exact hof does_answerSuspendMeter
  | retireMeter => cases h; exact hof does_answerRetireMeter
  | finalReading => cases h; exact hof does_answerFinalReading
  | adjustingFinalReading => cases h; exact hof does_answerAdjustingFinalReading
  | configureBranch => cases h; exact hof does_answerConfigureBranch
  | setUrgencyMap => cases h; exact hof does_answerSetUrgencyMap
  | setEngine => cases h; exact hof does_answerSetEngine
  | engineRestart => cases h; exact hof does_answerEngineRestart
  | configureStockLine => cases h; exact hof does_answerConfigureStockLine
  | stockReceipt => cases h; exact hof does_answerStockReceipt
  | stockSale => cases h; exact hof does_answerStockSale
  | stockSpoil => cases h; exact hof does_answerStockSpoil
  | stockCount => cases h; exact hof does_answerStockCount
  | loadList => cases h; exact hof does_answerLoadList
  | startList => cases h; exact hof does_answerStartList
  | haltList => cases h; exact hof does_answerHaltList
  | abortList => cases h; exact hof does_answerAbortList
  | clearList => cases h; exact hof does_answerClearList
  | collectPeriod => cases h; exact hof does_answerCollectPeriod
  | setNotices => cases h; exact hof does_answerSetNotices
  | commission => cases h; exact hof does_answerCommission
  | refund => cases h; exact hof does_answerRefund
  | setPoolLimits => cases h; exact hof does_answerSetPoolLimits
  | setFaultPolicy => cases h; exact hof does_answerSetFaultPolicy
  | setTolerance => cases h; exact hof does_answerSetTolerance
  | resumeMeter => cases h; exact hof does_answerResumeMeter
  | release => cases h; exact hof does_answerRelease
  | clearFaults => cases h; exact hof does_answerClearFaults
  | queryPool | queryFaults | queryNotices => cases h; exact hof fun t _ => .refl t
  | queryMeter => cases h; exact hof does_answerQueryMeter
  | queryBranch => cases h; exact hof does_answerQueryBranch
  | queryStock => cases h; exact hof does_answerQueryStock
  | queryList => cases h; exact hof does_answerQueryList
  | queryPeriod => cases h; exact hof does_answerQueryPeriod
  | queryLine => cases h; exact hof does_answerQueryLine

/-- CLOSE-PERIOD is the one message of its kind. -/
theorem closing_owner {c : Instr} {m : Message} (h : messageOf c = some m) (hk : m.kind = .closePeriod) (t : State) :
    (m.owner t).state = t ∨ ∃ stamp, (m.owner t).state = closePeriod stamp t := by
  cases c with
  | unknownKind | discardedByte | shortLength | silence | frameCheck | overrun | lineBreak | breakEnd
  | frameTransmissionStart | fullyTransmitted | selection | queuingOpportunity | supervisionExpiry | holdOffExpiry
  | grantExpiry | powerOn | powerOnRetentionLost | startMarkerReceived | frameByteReceived | powerLoss => cases h
  | closePeriod p tag b =>
    cases h
    cases b with
    | otherLength => exact .inl rfl
    | fields f =>
      change (answerClosePeriod f t).state = t ∨ ∃ stamp, (answerClosePeriod f t).state = closePeriod stamp t
      unfold answerClosePeriod
      split
      · exact .inl rfl
      · exact .inr ⟨f.stamp, rfl⟩
  | _ =>
    cases h
    rw [of_kind] at hk
    cases hk

end Messages

/-! ### The power -/

section Power

variable (s : State)

theorem core_darkened (b : Bool) (op audit : LineRate) (s : State) :
    core { clearReports (startLines op audit s) with powered := b } = darkened b (core s) := by
  let t := clearReports (startLines op audit s)
  have hh : heldBy t = mapAll (fun e => { e with phase := NoticePhase.idle }) (heldBy s) :=
    vector_ext_get fun i => by
      change (mapAll coreClass (mapAll _ _)).get i = (mapAll _ (mapAll coreClass _)).get i
      simp only [mapAll_get]
      rfl
  change { core s with
    powered := b
    notices := { Notices.lost with classes := heldBy t }
    operations := LineIf.started .r9600 false
    audit := LineIf.started .r9600 false } = _
  rw [hh]
  rfl

theorem unpoweredLaw_powerLoss :
    UnpoweredLaw { clearReports (startLines s.operations.rate s.audit.rate s) with powered := false } := by
  refine fun _ => ⟨rfl, rfl, fun c => ?_, fun p => ?_⟩
  · change ((mapAll (fun e : NoticeEntry => { e with phase := .idle }) s.notices.classes).get c.idx).phase = .idle
    rw [mapAll_get]
  · cases p <;> exact ⟨rfl, rfl, rfl, rfl, rfl, rfl⟩

theorem core_restoreBlocks : core (restoreBlocks s) = rebooted (core s) :=
  rfl

theorem core_announce (completed : Bool) : core (announce completed s) = core s := by
  unfold announce
  dsimp only
  split <;> split <;> split <;> simp

theorem stepOf_powerOn (straps : Straps) : StepOf s (powerOn straps s) := by
  refine .poweredOn ?_
  unfold powerOn
  dsimp only
  rw [core_announce, ← core_darkened true straps.operations.rate straps.audit.rate s, ← core_restoreBlocks]
  split
  · exact (does_clearPaceAndHoldOff _).alters
  · exact .refl

end Power

/-- An event of a powered part. -/
theorem stepOf_whenPowered {f : State → State} {s : State} (h : StepOf s (f s)) : StepOf s (whenPowered f s) := by
  unfold whenPowered
  split
  · exact h
  · exact .changed (Alters.refl s)

theorem alters_whenPowered {f : State → State} {s : State} (h : Alters s (f s)) : StepOf s (whenPowered f s) :=
  stepOf_whenPowered (.changed h)

/-- Every command makes complete changes, closes the period, or is a loss or return of power. -/
theorem exec_stepOf (c : Instr) (s : State) : ∃ t, exec c s = .next t ∧ StepOf s t := by
  cases hc : messageOf c with
  | some m =>
    refine ⟨_, exec_message hc s, ?_⟩
    by_cases hk : m.kind = .closePeriod
    · exact stepOf_closePeriod s (closing_owner hc hk)
    · exact .changed (alters_run (does_owner hc hk) s)
  | none =>
    cases c with
    | unknownKind => exact ⟨_, rfl, .changed (alters_unknownKind ..)⟩
    | discardedByte => exact ⟨_, rfl, alters_whenPowered (does_receive _ _ receives_countDiscarded s).alters⟩
    | shortLength p b stop => exact ⟨_, rfl, alters_whenPowered (does_receive _ _ (receives_abandonShort · stop) s).alters⟩
    | frameCheck p b stop => exact ⟨_, rfl, alters_whenPowered (does_receive _ _ (receives_endFrame · b stop _) s).alters⟩
    | overrun =>
      exact ⟨_, rfl, alters_whenPowered
        (does_receive _ _ (fun l => (receives_receiver l _).trans (receives_countOverrun _)) s).alters⟩
    | startMarkerReceived =>
      exact ⟨_, rfl, alters_whenPowered (does_receive _ _ (receives_receiver · _) s).alters⟩
    | frameByteReceived p b stop =>
      exact ⟨_, rfl, alters_whenPowered (does_receive _ _ (receives_takeByte · b stop _) s).alters⟩
    | silence =>
      refine ⟨_, rfl, alters_whenPowered ?_⟩
      split
      · exact (does_truncated ..).alters
      · exact .refl s
    | lineBreak =>
      refine ⟨_, rfl, alters_whenPowered ?_⟩
      split
      · exact .refl s
      · exact alters_lineBreak ..
    | breakEnd => exact ⟨_, rfl, alters_whenPowered (does_breakEnd ..).alters⟩
    | frameTransmissionStart => exact ⟨_, rfl, alters_whenPowered (does_startTransmission ..).alters⟩
    | fullyTransmitted =>
      refine ⟨_, rfl, alters_whenPowered ?_⟩
      split
      · next hq => exact alters_noticeSent _ _ hq
      · exact .refl s
    | queuingOpportunity =>
      refine ⟨_, rfl, alters_whenPowered ?_⟩
      split
      · next h => exact alters_queueNotice _ _ h
      · exact .refl s
    | selection => exact ⟨_, rfl, alters_whenPowered (alters_selection s)⟩
    | supervisionExpiry m =>
      refine ⟨_, rfl, alters_whenPowered ?_⟩
      split
      · exact ((Does.frame (core_reachTime ..)).trans (does_becomeSilent _ m)).alters
      · exact .refl s
    | holdOffExpiry m =>
      refine ⟨_, rfl, alters_whenPowered ?_⟩
      split
      · exact ((Does.frame (core_reachTime ..)).trans
          (does_modMeter (.of_fields rfl rfl rfl (.inl rfl) (.inr rfl) rfl) rfl)).alters
      · exact .refl s
    | grantExpiry k =>
      refine ⟨_, rfl, alters_whenPowered ?_⟩
      split
      · next slot hslot =>
        refine (Does.frame (core_reachTime ..)).alters.trans (alters_expireSlot _ ?_)
        rw [reachTime_engine]
        exact hslot
      · exact .refl s
    | powerOn straps => exact ⟨_, rfl, stepOf_powerOn s straps⟩
    | powerOnRetentionLost => exact ⟨_, rfl, .lost rfl⟩
    | powerLoss => exact ⟨_, rfl, stepOf_whenPowered (.unpowered (core_darkened ..) (unpoweredLaw_powerLoss s))⟩
    | _ => cases hc

/-- What a step with no command waiting, and the queue's rest, leave the laws to read. -/
theorem step_stepOf {s t : State} (h : step s = .next t) : StepOf s t := by
  unfold step at h
  split at h
  · cases h
    have htick : core (tick s) = core s := by
      unfold tick
      split <;> rfl
    exact .changed (Does.frame htick).alters
  · next c rest _ =>
    obtain ⟨u, hu, hstep⟩ := exec_stepOf c { s with pending := rest }
    cases hu.symm.trans h
    cases hstep with
    | changed h => exact .changed h
    | closed h h' hpool => exact .closed h h' hpool
    | unpowered h hdark => exact .unpowered h hdark
    | poweredOn h => exact .poweredOn h
    | lost h => exact .lost h

/-! ## The unpowered part -/

section Unpowered

theorem settled_powered (u : State) : (settled u).powered = u.powered := by
  obtain e | ⟨-, e⟩ := settled_cases u <;> rw [e]
  rfl

theorem Inner.powered {u v : State} (h : Inner u v) : v.powered = u.powered := by
  cases h with
  | resolved m g result pool sat ms stock =>
    unfold settledAfter
    split
    · exact settled_powered _
    · rfl
  | doubted => exact settled_powered _
  | line p l => cases p <;> rfl
  | _ => rfl

theorem Change.powered {u v : State} (h : Change u v) : u.powered = true → v.powered = true :=
  h.keeps (L := fun u => u.powered = true) (fun h hu => h.powered.trans hu) (fun u p l hu => by cases p <;> exact hu)
    (fun _ _ hu => hu)

/-- A powered part keeps its power, or loses it with all volatile state. -/
theorem StepOf.dark_of_powered {s t : State} (h : StepOf s t) (hs : s.powered = true) : UnpoweredLaw t := by
  have on (ht : t.powered = true) : UnpoweredLaw t := fun hoff => by cases ht.symm.trans hoff
  cases h with
  | changed h => exact on (h.keeps Change.powered hs)
  | closed h h' => exact on (h'.keeps Change.powered (h.keeps (L := fun u => u.powered = true) Change.powered hs))
  | unpowered _ hdark => exact hdark
  | poweredOn h => exact on (h.keeps Change.powered rfl)
  | lost h => exact on (congrArg State.powered h)

/-- To an unpowered part nothing happens but a power-on. -/
theorem exec_of_unpowered (c : Instr) {s t : State} (hs : s.powered = false) (h : exec c s = .next t) :
    t = s ∨ t.powered = true := by
  have event {f : State → State} (h : (.next (whenPowered f s) : Host.Outcome State Fault Refusal) = .next t) :
      t = s ∨ t.powered = true := by
    cases h
    rw [whenPowered, if_neg (by simp [hs])]
    exact .inl rfl
  cases hc : messageOf c with
  | some m =>
    cases (exec_message hc s).symm.trans h
    exact .inl (run_of_unpowered m hs)
  | none =>
    cases c with
    | unknownKind =>
      cases h
      simp [takeFrame, hs]
    | powerOn straps =>
      cases h
      exact .inr (congrArg State.powered (core_announce _ _) |>.trans (by dsimp only; split <;> rfl))
    | powerOnRetentionLost => cases h; exact .inr rfl
    | discardedByte | shortLength | silence | frameCheck | overrun | lineBreak | breakEnd | frameTransmissionStart
    | fullyTransmitted | selection | queuingOpportunity | supervisionExpiry | holdOffExpiry | grantExpiry
    | startMarkerReceived | frameByteReceived | powerLoss => exact event h
    | _ => cases hc

theorem step_unpoweredLaw {s t : State} (hs : UnpoweredLaw s) (h : step s = .next t) : UnpoweredLaw t := by
  cases hp : s.powered with
  | true => exact (step_stepOf h).dark_of_powered hp
  | false =>
    unfold step at h
    split at h
    · cases h
      rw [tick, if_neg (by simp [hp])]
      exact hs
    · obtain rfl | hon := exec_of_unpowered _ (by exact hp) h
      · exact hs
      · exact fun hoff => by cases hon.symm.trans hoff

end Unpowered

/-! ## The count of the slots (R107) -/

section Slots

theorem toList_countP {α : Type} {n : Nat} (v : Vector α n) (p : α → Bool) :
    v.toList.countP p = (Finset.univ.filter (fun i => p (v.get i) = true)).card := by
  rw [toList_eq_map_get, List.countP_map, List.countP_eq_length_filter, Finset.card_def, Finset.filter_val,
    Finset.val_univ_fin, Multiset.filter_coe, Multiset.coe_card]
  simp [Function.comp_def]

theorem anyOffered_iff (x : Option Grant) :
    x.any Grant.isOffered = true ↔ ∃ g k, x = some g ∧ g.phase = .offered k := by
  cases x with
  | none => simp
  | some g =>
    cases hp : g.phase with
    | offered k => simp [Grant.isOffered, hp]
    | doubtful => simp [Grant.isOffered, hp]

/-- A slot is occupied exactly for an OFFERED grant, so there are as many of the one as of the other. -/
theorem occupiedSlots_eq {s : State} (h : SlotLaw s) :
    occupiedSlots s = s.meters.toList.countP (fun r => r.grant.any Grant.isOffered) := by
  obtain ⟨hslots, hgrants⟩ := h
  have hoffer (k : SlotId) (hk : (s.engine.slots.get k).isSome = true) :
      ∃ g, (s.meter ((s.engine.slots.get k).get hk).meter).grant = some g ∧ g.phase = .offered k := by
    obtain ⟨g, hg, hphase, -⟩ := hslots k _ (Option.some_get hk).symm
    exact ⟨g, hg, hphase⟩
  rw [occupiedSlots, toList_countP, toList_countP]
  refine Finset.card_bij (fun k hk => ((s.engine.slots.get k).get (Finset.mem_filter.mp hk).2).meter) ?_ ?_ ?_
  · intro k hk
    obtain ⟨g, hg, hphase⟩ := hoffer k (Finset.mem_filter.mp hk).2
    refine Finset.mem_filter.mpr ⟨Finset.mem_univ _, ?_⟩
    exact (anyOffered_iff _).mpr ⟨g, k, hg, hphase⟩
  · intro k hk k' hk' he
    obtain ⟨g, hg, hphase⟩ := hoffer k (Finset.mem_filter.mp hk).2
    obtain ⟨g', hg', hphase'⟩ := hoffer k' (Finset.mem_filter.mp hk').2
    rw [he, hg'] at hg
    cases hg
    cases hphase.symm.trans hphase'
    rfl
  · intro m hm
    obtain ⟨g, k, hg, hphase⟩ := (anyOffered_iff (s.meter m).grant).mp (Finset.mem_filter.mp hm).2
    obtain ⟨e, he, hmeter⟩ := hgrants m g k hg hphase
    exact ⟨k, Finset.mem_filter.mpr ⟨Finset.mem_univ _, by rw [he]; rfl⟩, by simp only [he, Option.get_some, hmeter]⟩

theorem occupiedSlots_le (s : State) : occupiedSlots s ≤ 8 :=
  List.countP_le_length.trans (by simp)

end Slots

/-! ## The statements -/

/-- Settles O50: every step keeps the range, the condition and, unsaturated, the money. -/
theorem poolFiguresStayInRangeAndConserved : Obligations.PoolFiguresStayInRangeAndConserved := by
  unfold Obligations.PoolFiguresStayInRangeAndConserved
  exact ⟨fun _ _ hr hc hstep => (step_stepOf hstep).poolLaw ⟨hr, hc⟩, fun _ _ hs hstep => (step_stepOf hstep).conserved hs⟩

/-- Settles O55: every step keeps the records in form. -/
theorem meterRecordsStayInForm : Obligations.MeterRecordsStayInForm := by
  unfold Obligations.MeterRecordsStayInForm
  exact ⟨fun _ _ ho hr hstep => (step_stepOf hstep).recordLaw ⟨fits_of_orderLaw ho, hr⟩,
    fun _ _ hs hstep => (step_stepOf hstep).supervisionLaw hs, fun _ _ hs hstep => (step_stepOf hstep).amountLaw hs⟩

/-- Settles O56: G, the slots and the serials follow the unresolved grants. -/
theorem grantsMatchPoolSlotsAndSerials : Obligations.GrantsMatchPoolSlotsAndSerials := by
  unfold Obligations.GrantsMatchPoolSlotsAndSerials
  exact ⟨⟨fun _ _ ho hr ha hg hstep => (step_stepOf hstep).grantTotal ⟨⟨fits_of_orderLaw ho, hr⟩, ha, hg⟩,
      fun _ _ ho hr hs hstep => (step_stepOf hstep).slotLaw ⟨⟨fits_of_orderLaw ho, hr⟩, hs⟩,
      fun s hs => ⟨occupiedSlots_eq hs, occupiedSlots_le s⟩⟩,
    fun _ _ hs hstep => (step_stepOf hstep).serialLaw hs⟩

/-- Settles O57: every step keeps the engine, the counters and the unpowered part in form. -/
theorem engineCountersAndPowerStayInForm : Obligations.EngineCountersAndPowerStayInForm := by
  unfold Obligations.EngineCountersAndPowerStayInForm
  exact ⟨fun _ _ hs hstep => (step_stepOf hstep).engineLaw hs, fun _ _ hs hstep => (step_stepOf hstep).counterLaw hs,
    fun _ _ => step_unpoweredLaw⟩

/-- Settles O58: every step keeps the entries in order and the grants that name them. -/
theorem theListStaysInOrder : Obligations.TheListStaysInOrder := by
  unfold Obligations.TheListStaysInOrder
  exact fun _ _ hs hstep => (step_stepOf hstep).listLaw hs

/-- Settles O59: every step keeps the stock lines and the reorder list in form. -/
theorem stockStaysInForm : Obligations.StockStaysInForm := by
  unfold Obligations.StockStaysInForm
  exact ⟨fun _ _ hs hstep => (step_stepOf hstep).stockLaw hs,
    fun _ _ hs hr hstep => ((step_stepOf hstep).shelfLaw ⟨hs, hr⟩).2⟩

/-- Settles O60: every step keeps the queues, the frame being sent and the notice classes in form. -/
theorem queuesStayInForm : Obligations.QueuesStayInForm := by
  unfold Obligations.QueuesStayInForm
  exact ⟨fun _ _ hs hstep => (step_stepOf hstep).queueLaw hs, fun _ _ hs hstep => (step_stepOf hstep).noticeLaw hs⟩

theorem reset_lines : QueueLaw State.reset ∧ CounterLaw State.reset :=
  ⟨fun p => by rw [reset_line]; exact started_queueInForm ..,
    fun p => by rw [reset_line]; exact zero_inRange, Nat.zero_le _, Nat.zero_le _⟩

/-- Settles O49: the state after reset meets each law. -/
theorem resetMeetsTheLaws : Obligations.ResetMeetsTheLaws := by
  unfold Obligations.ResetMeetsTheLaws
  have hcapacity : BranchCapacity State.reset := fun b => by
    rw [enrolledAt_eq, reset_countP]
    exact Nat.zero_le _
  have hsupervision : SupervisionLaw State.reset := fun m => by simp [reset_meter, Meter.lost]
  have hengine : EngineLaw State.reset := ⟨by decide, fun h => by cases h⟩
  exact ⟨reset_poolLaw.1, reset_poolLaw.2, rfl, hcapacity, reset_mirrorLaw, BranchTable.reset_branchLaw,
    BranchTable.reset_orderLaw, reset_grantTotal, reset_slotLaw, reset_serialLaw, reset_formLaw.2, hsupervision,
    reset_amountLaw, hengine, reset_listLaw, reset_stockLaw, reset_reorderLaw, reset_lines.1, reset_lines.2,
    reset_noticeLaw, fun hoff => by cases hoff⟩

end Sys2Proof.Proofs.Steps

/-!
The statements about the Dispatcher: which messages are judged, in what order, and what becomes of the others.
-/

namespace Sys2Proof.Proofs.Messages

open Sys2Proof.Machine Sys2Proof.Proofs.Steps

/-- Settles O1: the queue is empty or has a front. -/
theorem stepRunsTheFrontCommand : Obligations.StepRunsTheFrontCommand := by
  unfold Obligations.StepRunsTheFrontCommand
  refine ⟨fun c rest s h => ?_, fun s h hp => ?_, fun s h hp => ?_⟩
  · rw [step, h]
  · have htick : step s = .next (tick s) := by rw [step, h]
    rw [htick, tick, if_pos hp]
    rfl
  · have htick : step s = .next (tick s) := by rw [step, h]
    rw [htick, tick, if_neg (by simp [hp])]

/-! ## The checks of R197 -/

section Judgement

/-- A message that is taken, not oversize, is answered in the state that the frame leaves. -/
theorem exec_taken {c : Instr} {m : Message} {s t : State} (hm : messageOf c = some m)
    (ht : Taken m.port m.kind.code m.tag m.bytes s t) :
    exec c s = .next (reply m.port m.kind.code m.tag (Message.answer m false t)) := by
  rw [exec_message hm, Message.run, takeFrame_of_taken ht]

theorem takenUncommissioned_eq_false_iff (k : Kind) : k.takenUncommissioned = false ↔
    k ∉ ([.configureMeter, .enrolMeter, .configureBranch, .configureStockLine, .setUrgencyMap, .setEngine, .setNotices,
      .setPoolLimits, .setFaultPolicy, .setTolerance, .commission] : List Kind) ∧
    k ∉ ([.queryPool, .queryMeter, .queryBranch, .queryStock, .queryList, .queryPeriod, .queryFaults, .queryLine,
      .queryNotices] : List Kind) := by
  cases k <;> decide

theorem lockedOut_iff (k : Kind) (p : Port) : k.lockedOut p = true ↔
    k ∈ ([.deposit, .refund, .setPoolLimits, .refillRequest, .engineRestart, .loadList, .startList,
      .resumeMeter] : List Kind) ∨ (k = .finalReading ∧ p = .audit) := by
  cases k <;> cases p <;> decide

/-- Settles O2: the model's three sets of kinds are those of the manual, and its checks stand in the manual's order. -/
theorem dispatcherJudgesInOrder : Obligations.DispatcherJudgesInOrder := by
  unfold Obligations.DispatcherJudgesInOrder
  intro queries ofAudit ofOperations permitted configures lockedOut c m s t hm ht
  have hpermitted (k : Kind) (p : Port) : permitted k p = k.permitted p := by
    cases k <;> cases p <;> rfl
  have huncommissioned : (m.kind ∉ configures ∧ m.kind ∉ queries) ↔ m.kind.takenUncommissioned = false :=
    (takenUncommissioned_eq_false_iff _).symm
  have hlocked : (m.kind ∈ lockedOut ∨ (m.kind = .finalReading ∧ m.port = .audit)) ↔ m.kind.lockedOut m.port = true :=
    (lockedOut_iff ..).symm
  dsimp only
  rw [exec_taken hm ht, Message.answer, if_neg Bool.false_ne_true]
  simp only [hpermitted, huncommissioned, hlocked]
  cases m.sized with
  | false => rfl
  | true =>
    simp only [Bool.true_eq_false, if_false, if_true, judge, Bool.not_eq_true']
    split_ifs <;> rfl

end Judgement

/-! ## Frames that are not judged -/

section Frames

variable {s : State} {p : Port} {kind tag : Byte} {body : List Byte}

theorem tally_eq_if (n : Nat) : tally n = if n < 65535 then n + 1 else 65535 := by
  rw [tally_eq]
  split <;> omega

/-- An oversize frame stands in the buffer with the bytes kept of it. -/
theorem takeFrame_oversize_buffered (hp : s.powered = true) (hf : 1 ≤ (s.line p).free) {kept : List Byte}
    (hk : kept <+: body) (hb : (s.line p).buffer =
      some { kind := kind, tag := tag, body := kept, length := body.length + 2, oversize := true }) :
    takeFrame p kind tag body s = .taken true (s.setLine p { s.line p with buffer := none }) := by
  have htake : kept = body.take kept.length := List.prefix_iff_eq_take.mp hk
  simp [takeFrame, hp, hb, hf, RxFrame.isFrame, ← htake]

/-- The arrival of a frame on a line that can receive it. -/
theorem takeFrame_arrival (hp : s.powered = true) (hc : CanReceive s p) : takeFrame p kind tag body s =
    let f := completeFrame s.engine.lMax kind tag body
    let counted := if f.oversize then
      { idleLine s p with counters := { (idleLine s p).counters with oversize := tally (s.line p).counters.oversize } }
      else idleLine s p
    if 1 ≤ (s.line p).free then .taken f.oversize (s.setLine p counted)
    else .waits (s.setLine p { counted with buffer := some f }) := by
  have hsettled := settled_of_canReceive hc
  obtain ⟨hb, hn, -⟩ := hc
  have hidle : (idleLine s p).receiver = .waiting ∧ (idleLine s p).breakNow = false := ⟨rfl, hn⟩
  simp only [takeFrame, hp, hb, hsettled, if_pos hidle]
  simp [idleLine]

theorem completeFrame_whole (h : body.length + 7 ≤ s.engine.lMax) : completeFrame s.engine.lMax kind tag body =
    { kind := kind, tag := tag, body := body, length := body.length + 2, oversize := false } := by
  have ht : body.take (s.engine.lMax - 5) = body := List.take_of_length_le (by omega)
  simp [completeFrame, ht, Nat.not_lt.mpr h]

theorem completeFrame_oversize (h : s.engine.lMax < body.length + 7) : completeFrame s.engine.lMax kind tag body =
    { kind := kind, tag := tag, body := body.take (s.engine.lMax - 5), length := body.length + 2, oversize := true } := by
  simp [completeFrame, h]

/-- With no place free a frame in the buffer stays there (R196). -/
theorem takeFrame_full (hf : (s.line p).free = 0) (hb : (s.line p).buffer.isSome = true) :
    takeFrame p kind tag body s = .waits s := by
  obtain ⟨f, hf'⟩ := Option.isSome_iff_exists.mp hb
  unfold takeFrame
  simp [hf', hf]

/-- The frame is not at hand (notes/assumptions/2.md). -/
theorem takeFrame_absent (h : s.powered = false ∨
    ((s.line p).buffer = none ∧
      ((s.line p).breakNow = true ∨ ((s.line p).receiver ≠ .waiting ∧ silenceDue s p = false))) ∨
    (∃ f, (s.line p).buffer = some f ∧
      (f.kind ≠ kind ∨ f.tag ≠ tag ∨ f.length ≠ body.length + 2 ∨ (f.oversize = false ∧ f.body ≠ body)))) :
    takeFrame p kind tag body s = .waits s := by
  unfold takeFrame
  dsimp only
  cases hp : s.powered with
  | false => rfl
  | true =>
    obtain hoff | ⟨hb, hbusy⟩ | ⟨f, hb, hother⟩ := h
    · cases hp.symm.trans hoff
    · simp only [hb, Bool.not_true, Bool.false_eq_true, if_false]
      refine if_neg ?_
      rintro ⟨hw, hn⟩
      rw [settled_eq] at hw hn
      obtain hbreak | ⟨hr, hs⟩ := hbusy
      · split at hn
        · cases hbreak.symm.trans hn
        · cases hbreak.symm.trans hn
      · rw [hs] at hw
        exact hr hw
    · have hno : f.isFrame kind tag body = false := by
        simp only [RxFrame.isFrame, Bool.and_eq_false_iff, beq_eq_false_iff_ne]
        obtain hk | ht | hl | ⟨ho, hbody⟩ := hother
        · exact .inl (.inl (.inl hk))
        · exact .inl (.inl (.inr ht))
        · exact .inl (.inr hl)
        · exact .inr (by simpa [ho] using hbody)
      simp [hb, hno]

end Frames

/-- Settles O4: the ways in which a frame is oversize, waits, or is not at hand. -/
theorem framesThatAreNotJudged : Obligations.FramesThatAreNotJudged := by
  unfold Obligations.FramesThatAreNotJudged
  intro c m s hm
  rw [exec_message hm]
  unfold Message.run
  refine ⟨fun hp hf kept hk hb => ?_, fun hp hc => ⟨fun hf hl => ?_, fun hf hl => ?_, fun hf hl => ?_⟩, fun hf hb => ?_,
    fun h => ?_⟩
  · rw [takeFrame_oversize_buffered hp hf hk hb]
    simp [Message.answer, refuseOversize, reply, replied]
  · rw [takeFrame_arrival hp hc, completeFrame_oversize hl]
    simp [hf, Message.answer, refuseOversize, reply, replied, tally_eq_if]
  · rw [takeFrame_arrival hp hc, completeFrame_whole hl]
    simp [hf]
  · rw [takeFrame_arrival hp hc, completeFrame_oversize hl]
    simp [hf, tally_eq_if]
  · rw [takeFrame_full hf hb]
  · rw [takeFrame_absent h]

/-- Settles O3: the same ways, and a frame that is taken is MALFORMED. -/
theorem unknownKindIsMalformed : Obligations.UnknownKindIsMalformed := by
  unfold Obligations.UnknownKindIsMalformed
  intro p tag kind body s hkind
  have hunknown : inboundCode kind = false := by simpa [inboundCode] using hkind
  have hexec : exec (.unknownKind p tag kind body) s = .next
      (match takeFrame p kind tag body s with
      | .waits t => t
      | .taken oversize t => reply p kind tag (if oversize then refuseOversize t else refuse .malformed t)) :=
    congrArg Host.Outcome.next (if_neg (by simp [hunknown]))
  rw [hexec]
  refine ⟨fun t ht => ?_, fun hp hf hc hl => ?_, fun hp hf kept hk hb => ?_, fun hp hf hc => ?_, fun hf hb => ?_, fun h => ?_⟩
  · rw [takeFrame_of_taken ht]
    rfl
  · rw [takeFrame_arrival hp hc, completeFrame_oversize hl]
    simp [hf, refuseOversize, reply, replied, tally_eq_if]
  · rw [takeFrame_oversize_buffered hp hf hk hb]
    simp [refuseOversize, reply, replied]
  · rw [takeFrame_arrival hp hc]
    by_cases hl : body.length + 7 ≤ s.engine.lMax
    · rw [completeFrame_whole hl, if_pos hl]
      simp [hf]
    · rw [completeFrame_oversize (not_le.mp hl), if_neg hl]
      simp [hf, tally_eq_if]
  · rw [takeFrame_full hf hb]
  · rw [takeFrame_absent h]

end Sys2Proof.Proofs.Messages

/-!
The statements about the pool and about the requests that replace settings.
-/

namespace Sys2Proof.Proofs.PoolUnit

open Sys2Proof.Machine Sys2Proof.Proofs.Steps

/-! ## The reply of a taken request -/

section Replies

variable {α : Type} {p : Port} {k : Kind} {tag : Byte} {m : α} {enc : α → List Byte} {s t r : State}

/-- A request that passes the checks is answered with what its owner makes of the state that the frame leaves. -/
theorem next_answer (owner : α → State → Answer) (ht : Taken p k.code tag (enc m) s t) (hp : k.permitted p = true)
    (hu : t.monitor.state = .uncommissioned → k.takenUncommissioned = true)
    (hl : t.monitor.state = .lockdown → k.lockedOut p = false)
    (h : reply p k.code tag (owner m t) = r) :
    (.next (request p k tag (.fields m) enc owner s) : Host.Outcome State Fault Refusal) = .next r := by
  rw [request_fields owner ht hp hu hl, ← h]
  rfl

/-- In service. -/
theorem next_inService (owner : α → State → Answer) (ht : Taken p k.code tag (enc m) s t) (hp : k.permitted p = true)
    (hs : t.monitor.state = .inService)
    (h : reply p k.code tag (owner m t) = r) :
    (.next (request p k tag (.fields m) enc owner s) : Host.Outcome State Fault Refusal) = .next r :=
  next_answer owner ht hp (by simp [hs]) (by simp [hs]) h

/-- A kind that every part state takes. -/
theorem next_always (owner : α → State → Answer) (ht : Taken p k.code tag (enc m) s t) (hp : k.permitted p = true)
    (hu : k.takenUncommissioned = true) (hl : k.lockedOut p = false)
    (h : reply p k.code tag (owner m t) = r) :
    (.next (request p k tag (.fields m) enc owner s) : Host.Outcome State Fault Refusal) = .next r :=
  next_answer owner ht hp (fun _ => hu) (fun _ => hl) h

/-- One test of an owner against one test of a statement. -/
theorem reply_if {kind : Byte} {c c' : Prop} [Decidable c] [Decidable c'] (h : c ↔ c') {a b : Answer} {x y : State}
    (ha : c → reply p kind tag a = x) (hb : ¬ c → reply p kind tag b = y) :
    reply p kind tag (if c then a else b) = if c' then x else y := by
  by_cases hc : c
  · rw [if_pos hc, if_pos (h.mp hc)]
    exact ha hc
  · rw [if_neg hc, if_neg (mt h.mpr hc)]
    exact hb hc

/-- Two tests of an owner, one after the other, against one test of a statement. -/
theorem reply_if_or {kind : Byte} {c d e : Prop} [Decidable c] [Decidable d] [Decidable e] (h : c ∨ d ↔ e)
    {a a' b : Answer} {x y : State} (ha : c → reply p kind tag a = x) (ha' : ¬ c → d → reply p kind tag a' = x)
    (hb : ¬ c → ¬ d → reply p kind tag b = y) :
    reply p kind tag (if c then a else if d then a' else b) = if e then x else y := by
  by_cases hc : c
  · rw [if_pos hc, if_pos (h.mp (.inl hc))]
    exact ha hc
  · rw [if_neg hc]
    by_cases hd : d
    · rw [if_pos hd, if_pos (h.mp (.inr hd))]
      exact ha' hc hd
    · rw [if_neg hd, if_neg fun he => (h.mpr he).elim hc hd]
      exact hb hc hd

end Replies

/-! ## Figures -/

section Figures

theorem maxFigure_eq : Config.maxFigure = 2 ^ 48 - 1 := rfl

theorem raiseFigure_eq (x d : Nat) : raiseFigure x d = min (x + d) (2 ^ 48 - 1) := by
  rw [raiseFigure, raiseTo_eq_min, maxFigure_eq]

/-- A figure that rises. -/
theorem figureHeld_rise (x d : Nat) : figureHeld x d 0 = decide (2 ^ 48 - 1 < x + d) := by
  rw [figureHeld, decide_eq_false (Nat.not_lt_zero x), Bool.or_false]
  rfl

/-- A figure that falls by no more than itself. -/
theorem figureHeld_fall {x d : Nat} (h : d ≤ x) : figureHeld x 0 d = decide (2 ^ 48 - 1 < x) := by
  rw [figureHeld, decide_eq_false (Nat.not_lt.mpr h), Bool.or_false]
  rfl

end Figures

/-- Settles O5: the condition takes its three values by V, T and E, and the worst condition is the more constrained. -/
theorem poolConditionIsWorkedOut : Obligations.PoolConditionIsWorkedOut := by
  unfold Obligations.PoolConditionIsWorkedOut
  intro s
  refine ⟨s.pool.condition, ?_, ?_, ?_⟩
  · unfold Pool.condition Pool.available
    split_ifs with h1 h2 <;> simp [h1]
  · unfold Pool.condition Pool.available
    split_ifs with h1 h2 <;> simp [h1] <;> omega
  · have hworst : (if (s.noticeClass .pool).phase = .pending then s.pool.worst.moreConstrained s.pool.condition
        else s.pool.condition) =
        if (s.noticeClass .pool).phase = .pending ∧ s.pool.condition.rank ≤ s.pool.worst.rank then s.pool.worst
        else s.pool.condition := by
      by_cases hp : (s.noticeClass .pool).phase = .pending
      · by_cases hr : s.pool.worst.rank < s.pool.condition.rank
        · rw [if_pos hp, if_neg fun h => hr.not_ge h.2, PoolCondition.moreConstrained, if_pos hr]
        · rw [if_pos hp, if_pos ⟨hp, not_lt.mp hr⟩, PoolCondition.moreConstrained, if_neg hr]
      · rw [if_neg hp, if_neg fun h => hp h.1]
    unfold recheckPool
    dsimp only
    split
    · rw [setPoolCondition, hworst]
      rfl
    · rfl

/-! ## DEPOSIT and REFUND -/

section Payments

variable (t : State) (x : Nat)

theorem deposit_eq (voucher : Word32) : poolDeposit x voucher (bankDeposit x t) = recheckPool { t with
    pool := { t.pool with p := min (t.pool.p + x) (2 ^ 48 - 1), dep := min (t.pool.dep + x) (2 ^ 48 - 1),
                          lastVoucher := voucher }
    periods := { t.periods with current := { t.periods.current with
      deposits := min (t.periods.current.deposits + x) (2 ^ 48 - 1)
      saturated := t.periods.current.saturated ||
        decide (2 ^ 48 - 1 < t.periods.current.deposits + x ∨ 2 ^ 48 - 1 < t.pool.p + x ∨
          2 ^ 48 - 1 < t.pool.dep + x) } } } := by
  refine congrArg recheckPool ?_
  have hhit : ((t.periods.current.saturated || passes Config.maxFigure t.periods.current.deposits x) ||
      (figureHeld t.pool.p x 0 || figureHeld t.pool.dep x 0)) = (t.periods.current.saturated ||
        decide (2 ^ 48 - 1 < t.periods.current.deposits + x ∨ 2 ^ 48 - 1 < t.pool.p + x ∨
          2 ^ 48 - 1 < t.pool.dep + x)) := by
    rw [figureHeld_rise, figureHeld_rise, passes, maxFigure_eq, Bool.or_assoc, Bool.decide_or, Bool.decide_or]
  rw [← hhit, ← raiseFigure_eq, ← raiseFigure_eq, ← raiseFigure_eq]
  rfl

theorem refund_eq (h : x ≤ t.pool.p) : poolRefund x (bankRefund x t) = recheckPool { t with
    pool := { t.pool with p := t.pool.p - x, rf := min (t.pool.rf + x) (2 ^ 48 - 1) }
    periods := { t.periods with current := { t.periods.current with
      refunds := min (t.periods.current.refunds + x) (2 ^ 48 - 1)
      saturated := t.periods.current.saturated ||
        decide (2 ^ 48 - 1 < t.periods.current.refunds + x ∨ 2 ^ 48 - 1 < t.pool.p ∨
          2 ^ 48 - 1 < t.pool.rf + x) } } } := by
  refine congrArg recheckPool ?_
  have hhit : ((t.periods.current.saturated || passes Config.maxFigure t.periods.current.refunds x) ||
      (figureHeld t.pool.p 0 x || figureHeld t.pool.rf x 0)) = (t.periods.current.saturated ||
        decide (2 ^ 48 - 1 < t.periods.current.refunds + x ∨ 2 ^ 48 - 1 < t.pool.p ∨
          2 ^ 48 - 1 < t.pool.rf + x)) := by
    rw [figureHeld_rise, figureHeld_fall h, passes, maxFigure_eq, Bool.or_assoc, Bool.decide_or, Bool.decide_or]
  rw [← hhit, ← raiseFigure_eq, ← raiseFigure_eq]
  rfl

end Payments

/-- Settles O6: the two payments, with their refusals in order. -/
theorem depositsAndRefundsMovePoolMoney : Obligations.DepositsAndRefundsMovePoolMoney := by
  unfold Obligations.DepositsAndRefundsMovePoolMoney
  refine ⟨fun tag m s t ht hs => next_inService answerDeposit ht rfl hs ?_,
    fun tag m s t ht hs => next_inService answerRefund ht rfl hs ?_⟩
  · have hmax : Config.maxPayment = 99999999999 := rfl
    unfold answerDeposit
    dsimp only
    rw [hmax]
    by_cases hx : m.amount.toNat = 0 ∨ 99999999999 < m.amount.toNat
    · rw [if_pos hx, if_pos (hx.imp_right .inl)]
      rfl
    · by_cases hv : m.voucher.toNat ≤ t.pool.lastVoucher.toNat
      · rw [if_neg hx, if_pos hv, if_pos (.inr (.inr hv))]
        rfl
      · rw [if_neg hx, if_neg hv, if_neg (by tauto), deposit_eq]
        rfl
  · have hmax : Config.maxPayment = 99999999999 := rfl
    unfold answerRefund
    dsimp only
    rw [hmax]
    by_cases hx : m.amount.toNat = 0 ∨ 99999999999 < m.amount.toNat
    · rw [if_pos hx, if_pos hx]
      rfl
    · rw [if_neg hx, if_neg hx]
      split
      · rfl
      · next hp =>
        rw [refund_eq _ _ (not_lt.mp hp)]
        rfl

/-! ## Settings -/

section Settings

theorem boolOf_isNone_iff (x : Byte) : (boolOf x).isNone = true ↔ ¬ (x = 0 ∨ x = 1) := by
  unfold boolOf
  split_ifs <;> simp_all

theorem portOf_isNone_iff (x : Byte) : (portOf x).isNone = true ↔ ¬ (x = 0 ∨ x = 1) := by
  unfold portOf
  split_ifs <;> simp_all

theorem priorityOf_isNone_iff (x : Byte) : (priorityOf x).isNone = true ↔ ¬ (x = 0 ∨ x = 1) := by
  unfold priorityOf
  split_ifs <;> simp_all

theorem boolOf_getD {x : Byte} (h : x = 0 ∨ x = 1) (d : Bool) : (boolOf x).getD d = (x == 1) := by
  obtain rfl | rfl := h <;> rfl

theorem portOf_getD {x : Byte} (h : x = 0 ∨ x = 1) (d : Port) :
    (portOf x).getD d = if x = 1 then .audit else .operations := by
  obtain rfl | rfl := h <;> rfl

theorem priorityOf_getD (x : Byte) : (priorityOf x).getD .low = if x = 1 then .high else .low := by
  unfold priorityOf
  split_ifs with h0 h1
  · subst h0; cases h1
  · rfl
  · rfl
  · rfl

/-- An entry of the map is given back as it came. -/
theorem priority_code {x : Byte} (h : x = 0 ∨ x = 1) : (if x = 1 then Priority.high else Priority.low).code = x.toNat := by
  obtain rfl | rfl := h <;> rfl

/-- The reply of a request that is refused unless its fields are in range. -/
theorem replied_in_range {p : Port} {kind tag : Byte} {t ok : State} {bad good : Prop} [Decidable bad] [Decidable good]
    {a b : Answer} (hb : b = if bad then refuse .outOfRange t else a) (h : good ↔ ¬ bad)
    (hok : good → reply p kind tag a = ok) :
    reply p kind tag b = if good then ok else replied p kind tag .outOfRange [] t := by
  rw [hb]
  by_cases hg : good
  · rw [if_pos hg, if_neg (h.mp hg)]
    exact hok hg
  · rw [if_neg hg, if_pos (not_not.mp (mt h.mpr hg))]
    rfl

theorem all_iff_not_any {α : Type} {bad : α → Bool} {good : α → Prop} (h : ∀ x, bad x = true ↔ ¬ good x) (xs : List α) :
    (∀ x ∈ xs, good x) ↔ ¬ xs.any bad = true := by
  simp [List.any_eq_true, h]

/-- Two tables of classes alike in every pair. -/
theorem zipAll_congr {α β γ : Type} {n : Nat} {f g : α → β → γ} {v : Vector α n} {w : Vector β n}
    (h : ∀ y ∈ w.toList, ∀ x, f x y = g x y) : zipAll f v w = zipAll g v w :=
  vector_ext_get fun i => by
    rw [zipAll_get, zipAll_get]
    exact h _ (by simp [get_eq_getElem]) _

end Settings

/-- Settles O7: each request is refused exactly while a field is out of range, and otherwise replaces all of them. -/
theorem settingsAreReplaced : Obligations.SettingsAreReplaced := by
  unfold Obligations.SettingsAreReplaced
  refine ⟨fun tag m s t ht hs => next_answer answerSetPoolLimits ht rfl (fun _ => rfl) (fun h => absurd h hs) ?_,
    fun tag m s t ht => next_always answerSetUrgencyMap ht rfl rfl rfl ?_,
    fun tag m s t ht => next_always answerSetEngine ht rfl rfl rfl ?_,
    fun tag m s t ht => next_always answerSetTolerance ht rfl rfl rfl ?_,
    fun tag m s t ht => next_always answerSetFaultPolicy ht rfl rfl rfl ?_,
    fun tag m s t ht => next_always answerSetNotices ht rfl rfl rfl ?_⟩
  · refine replied_in_range rfl ?_ fun _ => ?_
    · change _ ↔ ¬ (999999999999 < _ ∨ 999999999999 < _ ∨ _ ∨ 99999999 < _)
      omega
    · have hpool := recheckPool_pool (t.setPool { t.pool with
        floor := m.floor.toNat, threshold := m.threshold.toNat, engagement := m.engagement.toNat })
      simp only [answerOk, setLimits, Pool.available]
      rw [hpool]
      rfl
  · refine replied_in_range rfl ?_ fun hx => ?_
    · exact all_iff_not_any priorityOf_isNone_iff _
    · have hmap : mapAll (fun x => (priorityOf x).getD .low) m.entries =
          mapAll (fun x => if x = 1 then Priority.high else .low) m.entries :=
        congrArg (mapAll · _) (funext priorityOf_getD)
      have hfields : urgencyMapFields (mapAll (fun x => if x = 1 then Priority.high else .low) m.entries) =
          m.entries.toList.map (fun x => .u8 x.toNat) := by
        rw [urgencyMapFields, mapAll_toList, List.map_map]
        exact List.map_congr_left fun x hx' => congrArg WireField.u8 (priority_code (hx x hx'))
      rw [hmap]
      exact congrArg (replied .operations 0x17 tag .ok · _) hfields
  · exact replied_in_range rfl (by omega) fun _ => rfl
  · refine replied_in_range rfl ?_ fun _ => rfl
    change _ ↔ ¬ 999999999999 < _
    omega
  · rw [answerSetFaultPolicy, policyOf]
    by_cases h0 : m.policy = 0
    · rw [if_pos h0, if_pos (.inl h0), if_pos h0, h0]
      rfl
    · by_cases h1 : m.policy = 1
      · rw [if_neg h0, if_pos h1, if_pos (.inr h1), if_neg h0, h1]
        rfl
      · rw [if_neg h0, if_neg h1, if_neg (not_or.mpr ⟨h0, h1⟩)]
        rfl
  · refine replied_in_range rfl ?_ fun hx => ?_
    · refine all_iff_not_any (fun x => ?_) _
      rw [Machine.NoticePairMsg.bad, Bool.or_eq_true, boolOf_isNone_iff, portOf_isNone_iff, not_and_or]
    · have hclasses : zipAll NoticeEntry.settle t.notices.classes m.pairs =
          zipAll (fun e x => { e with enabled := x.enabled == 1, route := if x.route = 1 then .audit else .operations })
            t.notices.classes m.pairs := zipAll_congr fun x hx' e => by
        obtain ⟨henabled, hroute⟩ := hx x hx'
        rw [NoticeEntry.settle, boolOf_getD henabled, portOf_getD hroute]
      rw [hclasses]
      rfl

end Sys2Proof.Proofs.PoolUnit

/-!
The statement about the queries: each answers the figures as they stand.
-/

namespace Sys2Proof.Proofs.Queries

open Sys2Proof.Machine Sys2Proof.Proofs.Steps Sys2Proof.Proofs.PoolUnit

section Numbers

theorem meterOf_of_lt {b : Byte} (h : b.toNat < 192) : meterOf b = some ⟨b.toNat, h⟩ := dif_pos h
theorem meterOf_of_not_lt {b : Byte} (h : ¬ b.toNat < 192) : meterOf b = none := dif_neg h
theorem branchOf_of_lt {b : Byte} (h : b.toNat < 48) : branchOf b = some ⟨b.toNat, h⟩ := dif_pos h
theorem branchOf_of_not_lt {b : Byte} (h : ¬ b.toNat < 48) : branchOf b = none := dif_neg h
theorem lineOf_of_lt {b : Byte} (h : b.toNat < 12) : lineOf b = some ⟨b.toNat, h⟩ := dif_pos h
theorem lineOf_of_not_lt {b : Byte} (h : ¬ b.toNat < 12) : lineOf b = none := dif_neg h

theorem portOf_of_code {b : Byte} {q : Port} (h : b.toNat = q.code) : portOf b = some q := by
  have hb : b = BitVec.ofNat 8 q.code := BitVec.eq_of_toNat_eq (by rw [h]; cases q <;> rfl)
  subst hb
  cases q <;> rfl

theorem portOf_of_two_le {b : Byte} (h : 2 ≤ b.toNat) : portOf b = none := by
  have h0 : b ≠ 0 := by rintro rfl; exact absurd h (by decide)
  have h1 : b ≠ 1 := by rintro rfl; exact absurd h (by decide)
  rw [portOf, if_neg h0, if_neg h1]

theorem boolOf_of_bit {b : Byte} (h : b = 0 ∨ b = 1) : boolOf b = some (b == 1) := by
  obtain rfl | rfl := h <;> rfl

theorem boolOf_of_not_bit {b : Byte} (h : ¬ (b = 0 ∨ b = 1)) : boolOf b = none :=
  Option.isNone_iff_eq_none.mp ((boolOf_isNone_iff b).mpr h)

end Numbers

section Lines

variable (t : State) (q : Port)

/-- The counters of a line once a silence that has passed is counted. -/
theorem settled_fields : (t.line q).settled t.timeBase = { t.line q with
    receiver := if silenceDue t q then .waiting else (t.line q).receiver
    counters := { (t.line q).counters with truncated := truncatedNow t q } } := by
  rw [settled_eq]
  cases h : silenceDue t q <;> simp [idleLine, truncatedNow, h]

/-- QUERY-LINE leaves the named line settled, its pin read and its counters at 0. -/
theorem queryLine_state (readyIn : Bool) :
    countLine q (fun _ => LineCounters.zero) (readPin q readyIn (settleLine q t)) = t.setLine q { t.line q with
      readyIn := readyIn
      receiver := if silenceDue t q then .waiting else (t.line q).receiver
      counters := { discarded := 0, shortLength := 0, truncated := 0, garbled := 0, oversize := 0, overruns := 0,
                    breaks := 0 } } := by
  simp only [countLine, readPin, settleLine, modLineIf, setLine_setLine, setLine_line_self, settled_fields]
  rfl

theorem queryLine_body (readyIn : Bool) (hp : t.powered = true) : lineBody (readPin q readyIn (settleLine q t)) q =
    [.u32 (t.line q).rate.bitsPerSecond, .u16 t.engine.lMax, .u8 (16 - (t.line q).queue.length),
     flag (t.line q).buffer.isSome, flag readyIn,
     flag (decide ((t.line q).buffer = none ∧ 2 ≤ 16 - (t.line q).queue.length)),
     .u16 (t.line q).counters.discarded, .u16 (t.line q).counters.shortLength,
     .u16 (truncatedNow t q), .u16 (t.line q).counters.garbled, .u16 (t.line q).counters.oversize,
     .u16 (t.line q).counters.overruns, .u16 (t.line q).counters.breaks] := by
  have hplaces : Config.queuePlaces = 16 := rfl
  have hbuffer : decide ((t.line q).buffer = none) = (t.line q).buffer.isNone := by cases (t.line q).buffer <;> rfl
  simp [lineBody, readPin, settleLine, modLineIf, settled_fields, LineIf.free, readyOut, hp, LineCounters.fields,
    hplaces, hbuffer, Bool.decide_and]

end Lines

section Bodies

variable (t : State)

/-- The slot follows the entry in the fields of a grant. -/
theorem grantFields_eq : grantFields t = fun g =>
    [.u16 g.serial.toNat, .u48 g.amount, .u8 g.phase.code, .u8 g.source.code] ++
      ((match g.source with
        | .list e => optional e (fun n => [.u8 n])
        | .request => []) ++
        match g.phase with
        | .offered k => [.u8 k.val, .u32 ((t.engine.slots.get k).elim 0 (fun x => remaining t.timeBase x.expiry))]
        | .doubtful => []) :=
  funext fun _ => List.append_assoc ..

theorem lastOutcomeFields_eq : lastOutcomeFields = fun o =>
    [.u16 o.serial.toNat, .u8 (if o.result = .applied then 3 else 4), .u8 o.claim.code] ++
      match o.claim with
      | .rejected reason => [.u8 reason.toNat]
      | _ => [] :=
  funext fun o => by
    unfold lastOutcomeFields
    cases o.result <;> rfl

/-- An entry's detail stands for the two outcomes that have one. -/
theorem entryFields_eq : entryFields = fun x =>
    [.u8 x.2, .u8 x.1.meter.val, .u48 x.1.q, .u8 (x.1.quiet.toNat + 2 * x.1.stopOnShort.toNat), .u8 x.1.outcome.code] ++
      ((match x.1.outcome with
        | .skippedState found => [.u8 1, .u8 found.code]
        | .short cause => [.u8 1, .u8 cause.code]
        | _ => [.u8 0]) ++ optional x.1.serial (fun n => [.u16 n.toNat])) :=
  funext fun x => by
    unfold entryFields
    rw [List.append_assoc]
    cases x.1.outcome <;> rfl

/-- The classes stand in code order. -/
theorem noticesBody_eq : noticesBody t = NoticeClass.all.flatMap (fun c => noticeFields (t.noticeClass c)) := by
  have hall : NoticeClass.all.map NoticeClass.idx = List.finRange 8 := by decide
  rw [noticesBody, toList_eq_map_get, ← hall, List.map_map, List.flatMap_map]
  rfl

end Bodies

/-- Settles O8: the answers, and each body part by part. -/
theorem queriesChangeNothing : Obligations.QueriesChangeNothing := by
  unfold Obligations.QueriesChangeNothing
  intro p tag s t
  refine ⟨fun ht => next_always (m := ()) answerQueryPool ht rfl rfl rfl rfl,
    fun m ht => next_always answerQueryMeter ht rfl rfl rfl ?_,
    fun m ht => next_always answerQueryBranch ht rfl rfl rfl ?_,
    fun m ht => next_always answerQueryStock ht rfl rfl rfl ?_,
    fun m ht => next_always answerQueryList ht rfl rfl rfl ?_,
    fun m ht => next_always answerQueryPeriod ht rfl rfl rfl ?_,
    fun ht => next_always (m := ()) answerQueryFaults ht rfl rfl rfl rfl,
    fun ht => next_always (m := ()) answerQueryNotices ht rfl rfl rfl rfl,
    fun m ht => ⟨fun q hq => next_always answerQueryLine ht rfl rfl rfl ?_,
      fun hq => next_always answerQueryLine ht rfl rfl rfl ?_⟩, ?_⟩
  · unfold answerQueryMeter
    by_cases h : m.meter.toNat < 192
    · rw [meterOf_of_lt h, dif_pos h]; rfl
    · rw [meterOf_of_not_lt h, dif_neg h]; rfl
  · unfold answerQueryBranch
    by_cases h : m.branch.toNat < 48
    · rw [branchOf_of_lt h, dif_pos h]; rfl
    · rw [branchOf_of_not_lt h, dif_neg h]; rfl
  · unfold answerQueryStock
    by_cases hb : m.branch.toNat < 48
    · by_cases hl : m.first.toNat < 12
      · rw [branchOf_of_lt hb, lineOf_of_lt hl]
        dsimp only
        by_cases hc : m.count.toNat ≤ 12
        · rw [dif_pos ⟨hb, hl, hc⟩, if_neg (not_lt.mpr hc)]
          rfl
        · rw [dif_neg fun h => hc h.2.2, if_pos (not_le.mp hc)]
          rfl
      · rw [lineOf_of_not_lt hl, dif_neg fun h => hl h.2.1]
        cases branchOf m.branch <;> rfl
    · rw [branchOf_of_not_lt hb, dif_neg fun h => hb h.1]
      rfl
  · unfold answerQueryList
    by_cases h : m.first.toNat ≤ 31 ∧ m.count.toNat ≤ 32
    · rw [if_pos h, if_neg (by omega)]
      rfl
    · rw [if_neg h, if_pos (by omega)]
      rfl
  · unfold answerQueryPeriod
    by_cases hf : m.first.toNat < 48
    · by_cases hk : m.bank = 0 ∨ m.bank = 1
      · rw [branchOf_of_lt hf, boolOf_of_bit hk]
        dsimp only
        by_cases hc : m.count.toNat ≤ 8
        · rw [dif_pos ⟨hf, hk, hc⟩, if_neg (not_lt.mpr hc)]
          rfl
        · rw [dif_neg fun h => hc h.2.2, if_pos (not_le.mp hc)]
          rfl
      · rw [boolOf_of_not_bit hk, dif_neg fun h => hk h.2.1]
        rfl
    · rw [branchOf_of_not_lt hf, dif_neg fun h => hf h.1]
      cases boolOf m.bank <;> rfl
  · have hp : t.powered = true := by rw [ht.frame, State.setLine_powered]; exact ht.1
    rw [answerQueryLine, portOf_of_code hq]
    simp only [answerOk, queryLine_body t q m.readyIn hp, queryLine_state]
    rfl
  · rw [answerQueryLine, portOf_of_two_le hq]
    rfl
  · intro opt parts left
    have hopt {α : Type} (x : Option α) (f : α → List WireField) : optional x f = opt (x.map f) := by cases x <;> rfl
    have hleft : left = remaining t.timeBase := funext fun e => by
      simp only [remaining, due, decide_eq_true_eq]
      rfl
    clear_value left
    subst hleft
    refine ⟨rfl, fun n => ?_, fun b => ?_, fun b l => rfl, fun first count => ?_, fun closing first count => ?_, ?_, ?_⟩
    · simp only [meterBody, grantFields_eq, lastOutcomeFields_eq, hopt, timerFields, parts, List.flatten_cons,
        List.flatten_nil, List.append_nil, List.append_assoc]
      rfl
    · simp only [branchBody, branchFields, hopt, parts, List.flatten_cons, List.flatten_nil, List.append_nil,
        List.append_assoc]
      rfl
    · simp only [listBody, entryFields_eq, hopt, parts, List.flatten_cons, List.flatten_nil, List.append_nil,
        List.append_assoc]
      rfl
    · simp only [periodBody, poolAtCloseFields, hopt, parts, List.flatten_cons, List.flatten_nil, List.append_nil,
        List.append_assoc]
      rfl
    · simp only [faultsBody, faultLogFields, hopt, parts, List.flatten_cons, List.flatten_nil, List.append_nil]
      rfl
    · rw [noticesBody_eq]
      refine congrArg (List.flatMap · NoticeClass.all) (funext fun c => ?_)
      simp only [noticeFields, parts, List.flatten_cons, List.flatten_nil, List.append_nil]
      cases (t.noticeClass c).phase <;> rfl

end Sys2Proof.Proofs.Queries

/-!
The statements about the meter table: enrolment, configuration, suspension, the start of a retirement and accepted readings.
-/

namespace Sys2Proof.Proofs.Meters

open Sys2Proof.Machine Sys2Proof.Proofs.Steps Sys2Proof.Proofs.PoolUnit Sys2Proof.Proofs.Queries

/-- A frame at the line leaves the meter that a message numbers, or no meter, to its owner. -/
theorem enrolled_iff (x : MeterState) : x.enrolled = true ↔ x ≠ .vacant ∧ x ≠ .retired := by
  cases x <;> decide

theorem inUse_iff (x : MeterState) : x.inUse = true ↔ ¬ (x ≠ .active ∧ x ≠ .silent ∧ x ≠ .suspended) := by
  cases x <;> decide

/-- Settles O9: the refusals in order, and the record set up afresh. -/
theorem enrolmentSetsUpTheRecord : Obligations.EnrolmentSetsUpTheRecord := by
  unfold Obligations.EnrolmentSetsUpTheRecord
  intro tag m s t ht refused
  refine next_always answerEnrolMeter ht rfl rfl rfl ?_
  unfold answerEnrolMeter
  by_cases hn : m.meter.toNat < 192
  · by_cases hb : m.branch.toNat < 48
    · rw [meterOf_of_lt hn, branchOf_of_lt hb, dif_pos ⟨hn, hb⟩]
      dsimp only
      refine reply_if_or ?_ (fun _ => rfl) (fun _ _ => rfl) fun _ _ => ?_
      · rw [Bool.not_eq_true']
        exact or_congr_left (not_congr (by rw [BitVec.toNat_eq]; rfl))
      refine reply_if (enrolled_iff _) (fun _ => rfl) fun _ => ?_
      refine reply_if Iff.rfl (fun _ => rfl) fun _ => ?_
      rw [modMeter_meter, if_pos rfl]
      rfl
    · rw [branchOf_of_not_lt hb, dif_neg fun h => hb h.2]
      cases meterOf m.meter <;> rfl
  · rw [meterOf_of_not_lt hn, dif_neg fun h => hn h.1]
    rfl

/-! ## Configuration -/

section Configuration

/-- The settings that a CONFIGURE-METER carries, for a meter at branch `b`, and whether they are in range. -/
def carried (m : ConfigureMeterMsg) : Settings :=
  { ceiling := m.ceiling.toNat, step := m.step.toNat, minimum := m.minimum.toNat, holdOff := m.holdOff.toNat,
    hours := m.hours.toNat, link := lineOf m.link }

theorem linkOf_of_ne {b : Byte} (h : b ≠ 255) : linkOf b = (lineOf b).map some := if_neg h

/-- The link of a request names a configured LABEL line, or is absent. -/
def LinkGood (t : State) (b : BranchId) (link : Byte) : Prop :=
  link = 255 ∨ ∃ l : LineNo, link.toNat = l.val ∧ (t.stockLine b l).configured = true ∧ (t.stockLine b l).kind = .label

/-- A good link is that of `lineOf`, and is allowed; any other is refused. -/
theorem linkGood_iff (t : State) (b : BranchId) (link : Byte) : LinkGood t b link ↔
    linkOf link = some (lineOf link) ∧ linkAllowed t b (lineOf link) = true := by
  by_cases h : link = 255
  · subst h
    exact iff_of_true (.inl rfl) ⟨rfl, rfl⟩
  · rw [linkOf_of_ne h]
    by_cases hl : link.toNat < 12
    · rw [lineOf_of_lt hl]
      simp only [LinkGood, h, false_or, Option.map_some, true_and, linkAllowed, Option.all_some, Bool.and_eq_true,
        beq_iff_eq]
      constructor
      · rintro ⟨l, hlv, hgood⟩
        have : l = ⟨link.toNat, hl⟩ := Fin.ext hlv.symm
        exact this ▸ hgood
      · exact fun hgood => ⟨_, rfl, hgood⟩
    · rw [lineOf_of_not_lt hl]
      simp only [LinkGood, h, false_or, Option.map_none, reduceCtorEq, false_and, iff_false]
      rintro ⟨l, hlv, -⟩
      exact hl (hlv ▸ l.isLt)

/-- The link field of a good link is the byte that came. -/
theorem linkField_lineOf {t : State} {b : BranchId} {link : Byte} (h : LinkGood t b link) :
    linkField (lineOf link) = .u8 link.toNat := by
  obtain rfl | ⟨l, hl, -⟩ := h
  · rfl
  · rw [lineOf_of_lt (hl ▸ l.isLt)]
    rfl

theorem linkOf_eq_some {b : Byte} {x : Option LineNo} (h : linkOf b = some x) : x = lineOf b := by
  by_cases hb : b = 255
  · subst hb
    cases h
    rfl
  · rw [linkOf_of_ne hb, Option.map_eq_some_iff] at h
    obtain ⟨l, hl, rfl⟩ := h
    exact hl.symm

/-- The five numbers of a request are in range. -/
def NumbersInRange (m : ConfigureMeterMsg) : Prop :=
  100 ≤ m.ceiling.toNat ∧ m.ceiling.toNat ≤ Config.maxGrant ∧ 1 ≤ m.step.toNat ∧ m.step.toNat ≤ 100000 ∧
    m.minimum.toNat ≤ Config.maxGrant ∧ m.holdOff.toNat ≤ 86400 ∧ 1 ≤ m.hours.toNat ∧ m.hours.toNat ≤ 168

theorem settingsOf_eq_some_iff (m : ConfigureMeterMsg) (k : Settings) : settingsOf m = some k ↔
    NumbersInRange m ∧ linkOf m.link = some (lineOf m.link) ∧ k = carried m := by
  unfold settingsOf
  cases h : linkOf m.link with
  | none => simp
  | some x =>
    obtain rfl := linkOf_eq_some h
    by_cases hr : NumbersInRange m
    · simp only [hr, true_and]
      rw [if_pos (by exact hr), Option.some.injEq]
      exact eq_comm
    · simp only [hr, false_and]
      rw [if_neg (by exact hr)]
      simp

theorem configureMeter_eq (n : MeterId) (k : Settings) (t : State) : configureMeter n k t =
    modMeter n (fun r => { r with
      settings := k
      supervision := r.supervision.map (fun _ => t.timeBase + BitVec.ofNat 32 (3600 * k.hours)) }) t := by
  unfold configureMeter
  dsimp only
  cases h : (t.meter n).supervision with
  | none =>
    refine modMeter_congr ?_
    rw [h]
    rfl
  | some e =>
    simp only [Option.isSome_some, if_true, startSupervision]
    rw [modMeter_modMeter n (fun r => { r with settings := k })]
    refine modMeter_congr ?_
    rw [h, supervisionExpiry, modMeter_meter, if_pos rfl, Nat.mul_comm]
    rfl

end Configuration

/-- Settles O10: a request is in range exactly when its settings are read and its link is allowed. -/
theorem meterSettingsAreReplaced : Obligations.MeterSettingsAreReplaced := by
  unfold Obligations.MeterSettingsAreReplaced
  intro tag m s t ht refused
  refine next_always answerConfigureMeter ht rfl rfl rfl ?_
  unfold answerConfigureMeter
  by_cases hn : m.meter.toNat < 192
  · rw [meterOf_of_lt hn, dif_pos hn]
    dsimp only
    refine reply_if (by rw [Bool.not_eq_true', Bool.eq_false_iff, Ne, inUse_iff, not_not]) (fun _ => rfl) fun _ => ?_
    have hrefused (h : ¬ (NumbersInRange m ∧ LinkGood t (t.meter ⟨m.meter.toNat, hn⟩).branch m.link)) :
        ∀ k, settingsOf m = some k → linkAllowed t (t.meter ⟨m.meter.toNat, hn⟩).branch k.link = false := by
      intro k hk
      obtain ⟨hr, hlink, rfl⟩ := (settingsOf_eq_some_iff m k).mp hk
      exact Bool.eq_false_iff.mpr fun ha => h ⟨hr, (linkGood_iff ..).mpr ⟨hlink, ha⟩⟩
    by_cases hgood : NumbersInRange m ∧ LinkGood t (t.meter ⟨m.meter.toNat, hn⟩).branch m.link
    · obtain ⟨hr, hl⟩ := hgood
      obtain ⟨hlink, hallowed⟩ := (linkGood_iff ..).mp hl
      have hk := (settingsOf_eq_some_iff m (carried m)).mpr ⟨hr, hlink, rfl⟩
      rw [if_pos (by unfold NumbersInRange at hr; tauto), hk]
      dsimp only
      rw [if_neg (by rw [show (carried m).link = lineOf m.link from rfl, hallowed]; decide), configureMeter_eq,
        modMeter_meter, if_pos rfl]
      simp only [answerOk, settingsFields, show (carried m).link = lineOf m.link from rfl, linkField_lineOf hl]
      rfl
    · rw [if_neg fun h => hgood ?_]
      · cases hk : settingsOf m with
        | none => rfl
        | some k =>
          dsimp only
          rw [hrefused hgood k hk]
          rfl
      · unfold NumbersInRange
        tauto
  · rw [meterOf_of_not_lt hn, dif_neg hn]
    rfl

/-! ## Suspension and retirement -/

/-- The state once a meter with a request has left its branch's order. -/
def outOfOrder (m : MeterId) (s : State) : State :=
  if (s.meter m).pendingReq = none then s
  else modBranch (s.meter m).branch (fun k => { k with order := k.order.filter (fun x => x != m) }) s

theorem outOfOrder_meter (m n : MeterId) (s : State) : (outOfOrder m s).meter n = s.meter n := by
  unfold outOfOrder
  split <;> rfl

/-- A record that loses its request besides leaves its branch's order if it had one (R23, R57). -/
theorem modMeter_dropRequest {m : MeterId} {s : State} {f f' : Meter → Meter}
    (hf : ∀ r : Meter, f { r with pendingReq := none } = f' r) :
    modMeter m f (dropRequest m s) = modMeter m f' (outOfOrder m s) := by
  unfold dropRequest outOfOrder
  cases h : (s.meter m).pendingReq with
  | none =>
    have hr : { s.meter m with pendingReq := none } = s.meter m := by rw [← h]
    simp only [Option.isSome_none, Bool.false_eq_true, if_false, if_true]
    exact modMeter_congr (by rw [← hf, hr])
  | some q =>
    simp only [Option.isSome_some, if_true, reduceCtorEq, if_false, removeRequest]
    rw [modMeter_modMeter m (fun r => { r with pendingReq := none })]
    exact congrArg (modMeter m · _) (funext hf)

/-- Settles O11: one answer for each state of the meter. -/
theorem suspensionWithholdsTheMeter : Obligations.SuspensionWithholdsTheMeter := by
  unfold Obligations.SuspensionWithholdsTheMeter
  intro tag m s t ht hs refused
  refine next_answer answerSuspendMeter ht rfl (fun h => absurd h hs) (fun _ => rfl) ?_
  unfold answerSuspendMeter
  by_cases hn : m.meter.toNat < 192
  · rw [meterOf_of_lt hn, dif_pos hn]
    have hsuspended : enterSuspended ⟨m.meter.toNat, hn⟩ t = modMeter ⟨m.meter.toNat, hn⟩
        (fun r => { r with state := .suspended, pendingReq := none, supervision := none })
        (outOfOrder ⟨m.meter.toNat, hn⟩ t) :=
      modMeter_dropRequest fun _ => rfl
    dsimp only
    unfold suspendOn
    cases h : (t.meter ⟨m.meter.toNat, hn⟩).state with
    | active | silent =>
      dsimp only
      rw [hsuspended, modMeter_meter, if_pos rfl]
      rfl
    | _ => rfl
  · rw [meterOf_of_not_lt hn, dif_neg hn]
    rfl

/-- A retirement that begins (R130, R131). -/
theorem beginRetirement_eq (n : MeterId) (t : State) : beginRetirement n t = modMeter n (fun r => { r with
      pendingReq := none, supervision := none, holdOff := none
      state := if r.grant.any Grant.isOffered then .draining else .awaitingReading })
    (outOfOrder n t) := by
  refine (modMeter_dropRequest fun _ => rfl).trans (modMeter_congr ?_)
  rw [outOfOrder_meter]

/-- The reply of a retirement tells the grant. -/
theorem retireBody_eq (n : MeterId) (u : State) : retireBody n u =
    match (u.meter n).grant with
    | none => [.u8 n.val, .u8 (u.meter n).state.code, .u8 0]
    | some g => [.u8 n.val, .u8 (u.meter n).state.code, .u8 1, .u16 g.serial.toNat, .u48 g.amount, .u8 g.phase.code] := by
  rw [retireBody]
  cases (u.meter n).grant <;> rfl

/-- Settles O12: one answer for each state of the meter. -/
theorem retirementBegins : Obligations.RetirementBegins := by
  unfold Obligations.RetirementBegins
  intro tag m s t ht hs refused
  refine next_answer answerRetireMeter ht rfl (fun h => absurd h hs) (fun _ => rfl) ?_
  unfold answerRetireMeter
  by_cases hn : m.meter.toNat < 192
  · rw [meterOf_of_lt hn, dif_pos hn]
    have hgrant : ((beginRetirement ⟨m.meter.toNat, hn⟩ t).meter ⟨m.meter.toNat, hn⟩).grant =
        (t.meter ⟨m.meter.toNat, hn⟩).grant := by
      rw [beginRetirement_meter, if_pos rfl]
    dsimp only
    unfold retireOn
    cases h : (t.meter ⟨m.meter.toNat, hn⟩).state with
    | vacant | retired => rfl
    | draining | awaitingReading =>
      dsimp only
      rw [retireBody_eq]
      rfl
    | active | silent | suspended =>
      dsimp only
      rw [retireBody_eq, hgrant, beginRetirement_eq]
      rfl
  · rw [meterOf_of_not_lt hn, dif_neg hn]
    rfl

/-! ## Accepted readings -/

/-- Settles O13: the usage is banked, then the record is updated, then the labels are consumed. -/
theorem acceptedReadingsAreMirrored : Obligations.AcceptedReadingsAreMirrored := by
  unfold Obligations.AcceptedReadingsAreMirrored
  intro n rd s r used delta banked met
  have hbanked : recordUsage r.branch used s = banked := by
    change _ = if used = 0 then s else _
    by_cases hu : used = 0
    · rw [recordUsage, if_neg (by omega), if_pos hu]
    · rw [recordUsage, if_pos (by omega), if_neg hu]
      simp only [bankUsed, raiseTo_eq_min, passes]
      rfl
  have hmet : modMeter n (fun x => x.accepted rd (supervisionExpiry s n)) banked = met := by
    refine modMeter_congr ?_
    have hmeter : banked.meter n = s.meter n := by
      change (if used = 0 then s else _ : State).meter n = _
      split <;> rfl
    rw [hmeter, supervisionExpiry, Nat.mul_comm]
    unfold Meter.accepted
    cases (s.meter n).state <;> rfl
  have haccepted : acceptReading n rd s = recordLabels r.branch r.settings.link delta met := by
    rw [← hmet, ← hbanked]
    rfl
  have hmax : Config.maxCount = 2 ^ 32 - 1 := rfl
  rw [haccepted]
  cases r.settings.link with
  | none => rfl
  | some l =>
    by_cases hd : delta = 0
    · simp only [recordLabels]
      rw [if_neg (by omega), if_pos hd]
    · simp only [recordLabels, consumeLabels, StockLine.less, raiseTo_eq_min, hmax]
      rw [if_pos (by omega), if_neg hd]

end Sys2Proof.Proofs.Meters

/-!
The statements about faults, refill requests and the configuration of branches.
-/

namespace Sys2Proof.Proofs.Faults

open Sys2Proof.Machine Sys2Proof.Proofs.Steps Sys2Proof.Proofs.PoolUnit Sys2Proof.Proofs.Queries
  Sys2Proof.Proofs.Meters

/-- Two states with the same fields are the same. -/
theorem state_ext {s t : State} (hpowered : s.powered = t.powered) (htime : s.timeBase = t.timeBase)
    (hpool : s.pool = t.pool) (hmeters : s.meters = t.meters) (hsilent : s.silentList = t.silentList)
    (hretire : s.retireList = t.retireList) (hbranches : s.branches = t.branches) (hmap : s.urgencyMap = t.urgencyMap)
    (harbiter : s.arbiter = t.arbiter) (hengine : s.engine = t.engine) (hlist : s.list = t.list)
    (hstock : s.stock = t.stock) (hperiods : s.periods = t.periods) (hmonitor : s.monitor = t.monitor)
    (hnotices : s.notices = t.notices) (hop : s.operations = t.operations) (haudit : s.audit = t.audit)
    (hpending : s.pending = t.pending) : s = t := by
  cases s
  cases t
  simp_all

/-! ## What one step of the handling does -/

section Handling

variable (s : State)

theorem dropRequest_meter_fields (m n : MeterId) : (dropRequest m s).meter n =
    if n = m then { s.meter m with pendingReq := none } else s.meter n := by
  unfold dropRequest
  cases h : (s.meter m).pendingReq with
  | none =>
    have hr : { s.meter m with pendingReq := none } = s.meter m := by rw [← h]
    rw [hr]
    simp only [Option.isSome_none, Bool.false_eq_true, if_false]
    split
    · next e => rw [e]
    · rfl
  | some q => exact modMeter_meter ..

theorem dropRequest_branch_fields (m : MeterId) (b : BranchId) : (dropRequest m s).branch b = { s.branch b with
    order := (s.branch b).order.filter (fun n => !(n == m && (s.meter n).pendingReq.isSome && (s.meter n).branch == b)) } := by
  have hleaves (n : MeterId) : (n == m && (s.meter n).pendingReq.isSome && (s.meter n).branch == b) =
      (n == m && ((s.meter m).pendingReq.isSome && (s.meter m).branch == b)) := by
    by_cases h : n = m
    · rw [h, Bool.and_assoc]
    · have hnm : (n == m) = false := beq_eq_false_iff_ne.mpr h
      simp only [hnm, Bool.false_and]
  rw [show (fun n => !(n == m && (s.meter n).pendingReq.isSome && (s.meter n).branch == b)) = fun n =>
    !(n == m && ((s.meter m).pendingReq.isSome && (s.meter m).branch == b)) from funext fun n => by rw [hleaves]]
  unfold dropRequest
  cases (s.meter m).pendingReq.isSome with
  | false => simp
  | true =>
    change (modBranch _ _ s).branch b = _
    rw [modBranch_branch]
    by_cases hb : b = (s.meter m).branch
    · rw [if_pos hb, ← hb]
      simp [bne]
    · have hb' : ((s.meter m).branch == b) = false := beq_eq_false_iff_ne.mpr (Ne.symm hb)
      rw [if_neg hb, hb']
      simp

/-- The meter that a fault suspends (R30, R180). -/
def suspends (m : Option MeterId) (n : MeterId) : Bool :=
  m == some n && s.monitor.state != .lockdown && ((s.meter n).state == .active || (s.meter n).state == .silent)

/-- The second step of the handling of a fault: the meter that it names is suspended, outside LOCKDOWN. -/
def suspendNamed (m : Option MeterId) : State :=
  match m with
  | some m => if s.monitor.state = .lockdown then s else suspendByFault m s
  | none => s

theorem suspendNamed_cases (m : Option MeterId) :
    (suspendNamed s m = s ∧ ∀ n, suspends s m n = false) ∨
      ∃ k, suspendNamed s m = enterSuspended k s ∧ ∀ n, suspends s m n = (n == k) := by
  cases m with
  | none => exact .inl ⟨rfl, fun _ => rfl⟩
  | some k =>
    by_cases hl : s.monitor.state = .lockdown
    · exact .inl ⟨if_pos hl, fun n => by simp [suspends, hl]⟩
    · by_cases ha : (s.meter k).state = .active ∨ (s.meter k).state = .silent
      · refine .inr ⟨k, (if_neg hl).trans (if_pos ha), fun n => ?_⟩
        by_cases hn : n = k
        · subst hn
          simpa [suspends, hl] using ha
        · have hkn : (k == n) = false := beq_eq_false_iff_ne.mpr (Ne.symm hn)
          have hnk : (n == k) = false := beq_eq_false_iff_ne.mpr hn
          simp [suspends, hkn, hnk]
      · refine .inl ⟨(if_neg hl).trans (if_neg ha), fun n => ?_⟩
        by_cases hn : n = k
        · subst hn
          simpa [suspends, hl] using ha
        · simp [suspends, Ne.symm hn]

/-- What the suspension leaves and what it changes. -/
theorem suspendNamed_frame (m : Option MeterId) : suspendNamed s m =
    { s with meters := (suspendNamed s m).meters, branches := (suspendNamed s m).branches } := by
  obtain ⟨h, -⟩ | ⟨k, h, -⟩ := suspendNamed_cases s m
  · rw [h]
  · rw [h]
    apply state_ext <;> simp

theorem suspendNamed_meter (m : Option MeterId) (n : MeterId) : (suspendNamed s m).meter n = { s.meter n with
    state := if suspends s m n then .suspended else (s.meter n).state
    pendingReq := if suspends s m n then none else (s.meter n).pendingReq
    supervision := if suspends s m n then none else (s.meter n).supervision } := by
  obtain ⟨h, hs⟩ | ⟨k, h, hs⟩ := suspendNamed_cases s m
  · rw [h, hs]
    rfl
  · rw [h, hs, enterSuspended, modMeter_meter, dropRequest_meter_fields, dropRequest_meter_fields]
    by_cases hn : n = k
    · subst hn
      simp
    · simp [hn]

theorem suspendNamed_branch (m : Option MeterId) (b : BranchId) : (suspendNamed s m).branch b = { s.branch b with
    order := (s.branch b).order.filter (fun n =>
      !(suspends s m n && (s.meter n).pendingReq.isSome && (s.meter n).branch == b)) } := by
  obtain ⟨h, hs⟩ | ⟨k, h, hs⟩ := suspendNamed_cases s m
  · rw [h]
    simp [hs]
  · rw [h]
    simp only [hs]
    exact dropRequest_branch_fields s k b

/-- A lockdown, but for the list and its condition. -/
theorem enterLockdown_frame : enterLockdown s = { s with
    monitor := { s.monitor with state := .lockdown }, engine := { s.engine with state := .stopped }
    meters := mapAll (fun r => { r with pendingReq := none }) s.meters
    branches := mapAll (fun b => { b with order := [] }) s.branches
    list := (enterLockdown s).list, notices := (enterLockdown s).notices } := by
  unfold enterLockdown
  apply state_ext <;> simp [dropAllRequests]

/-- A RUNNING or HALTING list is halted, with its condition. -/
theorem haltRunningList_list_bool : (haltRunningList s).list = { s.list with
    state := if s.list.state == .running || s.list.state == .halting then .halted else s.list.state } := by
  unfold haltRunningList
  by_cases h : s.list.state = .running ∨ s.list.state = .halting
  · rw [if_pos h, if_pos (by simpa using h)]
    rfl
  · rw [if_neg h, if_neg (by simpa using h)]

theorem haltRunningList_notices : (haltRunningList s).notices =
    { s.notices with classes := (haltRunningList s).notices.classes } := by
  unfold haltRunningList
  split <;> rfl

theorem haltRunningList_noticeClass (c : NoticeClass) : (haltRunningList s).noticeClass c = { s.noticeClass c with
    phase := if c = .list ∧ (s.list.state == .running || s.list.state == .halting) = true then
        (s.noticeClass c).phase.afterCondition
      else (s.noticeClass c).phase } := by
  unfold haltRunningList
  by_cases h : s.list.state = .running ∨ s.list.state = .halting
  · have hb : (s.list.state == .running || s.list.state == .halting) = true := by simpa using h
    have hl (x : ListUnit) (d : NoticeClass) : (s.setList x).noticeClass d = s.noticeClass d := rfl
    rw [if_pos h, hb, haltList, setCondition_noticeClass, hl, hl]
    by_cases hc : c = .list
    · subst hc
      simp
    · simp [hc]
  · have hb : (s.list.state == .running || s.list.state == .halting) = false := by simpa using h
    rw [if_neg h, hb]
    simp

theorem enterLockdown_list : (enterLockdown s).list = { s.list with
    state := if s.list.state == .running || s.list.state == .halting then .halted else s.list.state } :=
  haltRunningList_list_bool _

theorem enterLockdown_notices : (enterLockdown s).notices =
    { s.notices with classes := (enterLockdown s).notices.classes } :=
  haltRunningList_notices _

theorem enterLockdown_noticeClass (c : NoticeClass) : (enterLockdown s).noticeClass c = { s.noticeClass c with
    phase := if c = .list ∧ (s.list.state == .running || s.list.state == .halting) = true then
        (s.noticeClass c).phase.afterCondition
      else (s.noticeClass c).phase } :=
  haltRunningList_noticeClass _ c

/-- The first step of the handling of a fault: the log and its condition. -/
def logged (f : FaultRecord) : State :=
  setCondition .fault (s.setMonitor { s.monitor with log := s.monitor.log.raised f })

theorem raiseFault_eq (f : FaultRecord) : raiseFault f s =
    if needsLockdown s f.kind then enterLockdown (suspendNamed (logged s f) f.meter)
    else suspendNamed (logged s f) f.meter := by
  cases hm : f.meter with
  | none => simp only [raiseFault, hm]; rfl
  | some m => simp only [raiseFault, hm]; rfl

end Handling

/-- The blocks that a fault can reach. -/
theorem handFault_frame (f : FaultRecord) (s : State) : handFault f s = { s with
    monitor := (handFault f s).monitor, engine := (handFault f s).engine, list := (handFault f s).list
    meters := (handFault f s).meters, branches := (handFault f s).branches, notices := (handFault f s).notices } := by
  apply state_ext <;> simp

/-! ## Kinds and severities -/

section Kinds

theorem severity_breach (k : FaultKind) : (k.severity == .breach) = (k == .registerRegress || k == .retentionLost) := by
  cases k <;> rfl

theorem severity_discrepancy (k : FaultKind) :
    (k.severity == .discrepancy) = (k == .totalMismatch || k == .claimMismatch || k == .finalMismatch) := by
  cases k <;> rfl

theorem inconsistency_eq (k : FaultKind) :
    k.inconsistency = ((k == .totalMismatch || k == .claimMismatch || k == .finalMismatch) || k == .registerRegress) := by
  cases k <;> rfl

/-- The greater of the log's severity and that of a fault. -/
theorem greater_severity (x : Severity) (k : FaultKind) : x.greater k.severity =
    if k == .registerRegress || k == .retentionLost then .breach
    else if k == .totalMismatch || k == .claimMismatch || k == .finalMismatch then
      (if x = .breach then .breach else .discrepancy)
    else (if x = .none then .note else x) := by
  cases k <;> cases x <;> decide

end Kinds

/-- Settles O15: the log, then the suspension, then the lockdown. -/
theorem faultsAreHandled : Obligations.FaultsAreHandled := by
  unfold Obligations.FaultsAreHandled
  intro f s u breach discrepancy hushed locks suspends' halts
  have hmax : Config.maxTally = 65535 := rfl
  have hsuppressed : suppressed s f.kind = hushed := by
    unfold suppressed
    rw [inconsistency_eq]
  have hlocks : needsLockdown s f.kind = locks := by
    unfold needsLockdown
    rw [severity_breach, severity_discrepancy]
  refine ⟨fun h => ?_, fun h => ?_⟩
  · change handFault f s = _
    rw [handFault, hsuppressed, if_pos h, raiseTo_eq_min]
    rfl
  · have hu : u = if locks then enterLockdown (suspendNamed (logged s f) f.meter)
        else suspendNamed (logged s f) f.meter := by
      change handFault f s = _
      rw [handFault, hsuppressed, if_neg (by simp [h]), raiseFault_eq, hlocks]
    have hsuspends (n : MeterId) : suspends (logged s f) f.meter n = suspends' n := rfl
    let v := suspendNamed (logged s f) f.meter
    have hframe : v = { logged s f with meters := v.meters, branches := v.branches } := suspendNamed_frame ..
    have hmonitor : v.monitor = (logged s f).monitor := (congrArg State.monitor hframe :)
    have hlog : (logged s f).monitor.log =
        { severity := if breach then .breach
            else if discrepancy then (if s.monitor.log.severity = .breach then .breach else .discrepancy)
            else (if s.monitor.log.severity = .none then .note else s.monitor.log.severity)
          first := if s.monitor.log.severity = .none then some f else s.monitor.log.first
          later := if s.monitor.log.severity = .none then s.monitor.log.later else min (s.monitor.log.later + 1) 65535
          lastKind := some f.kind
          suppressed := s.monitor.log.suppressed } := by
      change FaultLog.raised s.monitor.log f = _
      rw [FaultLog.raised, greater_severity, raiseTo_eq_min]
      rfl
    have hlist : v.list = s.list := (congrArg State.list hframe :)
    have hnotices : v.notices = (logged s f).notices := (congrArg State.notices hframe :)
    have hclass (c : NoticeClass) : v.noticeClass c = { s.noticeClass c with
        phase := if c = .fault then (s.noticeClass c).phase.afterCondition else (s.noticeClass c).phase } := by
      rw [noticeClass_congr hnotices, logged, setCondition_noticeClass]
      split
      · next h => rw [h]; rfl
      · rfl
    have hmeter (n : MeterId) := suspendNamed_meter (logged s f) f.meter n
    have hbranch (b : BranchId) := suspendNamed_branch (logged s f) f.meter b
    have hengine : v.engine = s.engine := (congrArg State.engine hframe :)
    have hframed (hn : u.notices = { s.notices with classes := u.notices.classes }) : u = { s with
        monitor := u.monitor, engine := u.engine, list := u.list, meters := u.meters, branches := u.branches
        notices := { s.notices with classes := u.notices.classes } } := by
      rw [← hn]
      exact handFault_frame f s
    cases hl : locks with
    | false =>
      have hv : u = v := by rw [hu, hl]; rfl
      have hh : halts = false := by simp only [halts, hl, Bool.false_and]
      have hwhole := hframed (by rw [hv, hnotices]; rfl)
      rw [hv] at hwhole ⊢
      rw [hh]
      refine ⟨?_, hengine, hlist, fun n => ?_, fun b => ?_, fun c => ?_, hwhole⟩
      · rw [hmonitor, ← hlog]
        rfl
      · rw [hmeter, Bool.false_or]
        rfl
      · exact hbranch b
      · simp only [hclass, Bool.false_eq_true, and_false, or_false]
    | true =>
      have hv : u = enterLockdown v := by rw [hu, hl]; rfl
      have hh : halts = (s.list.state == .running || s.list.state == .halting) := by
        simp only [halts, hl, Bool.true_and]
      have hlocked := enterLockdown_frame v
      have hwhole := hframed (by rw [hv, enterLockdown_notices, hnotices]; rfl)
      rw [hv] at hwhole ⊢
      rw [hh]
      refine ⟨?_, ?_, ?_, fun n => ?_, fun b => ?_, fun c => ?_, hwhole⟩
      · rw [(congrArg State.monitor hlocked :), hmonitor, ← hlog]
        rfl
      · rw [(congrArg State.engine hlocked :), hengine]
        rfl
      · rw [enterLockdown_list, hlist]
      · rw [meter_congr (congrArg State.meters hlocked :)]
        refine (mapAll_get ..).trans ?_
        change { v.meter n with pendingReq := none } = _
        rw [hmeter]
        rfl
      · rw [branch_congr (congrArg State.branches hlocked :)]
        refine (mapAll_get ..).trans ?_
        change { v.branch b with order := [] } = _
        rw [hbranch]
        rfl
      · rw [enterLockdown_noticeClass, hlist, hclass]
        by_cases hc : c = .fault
        · subst hc
          simp
        · simp [hc]

end Sys2Proof.Proofs.Faults

namespace Sys2Proof.Proofs.Branches

open Sys2Proof.Machine Sys2Proof.Proofs.Steps Sys2Proof.Proofs.PoolUnit Sys2Proof.Proofs.Queries
  Sys2Proof.Proofs.Meters Sys2Proof.Proofs.Faults

/-! ## Refill requests -/

section Requests

theorem urgencyOf_of_lt {b : Byte} (h : b.toNat < 8) : urgencyOf b = some ⟨b.toNat, h⟩ := dif_pos h
theorem urgencyOf_of_not_lt {b : Byte} (h : ¬ b.toNat < 8) : urgencyOf b = none := dif_neg h

/-- An update of one branch depends on what it makes of that branch. -/
theorem modBranch_congr {b : BranchId} {f g : Branch → Branch} {s : State} (h : f (s.branch b) = g (s.branch b)) :
    modBranch b f s = modBranch b g s := by
  have h' : f (s.branches.get b) = g (s.branches.get b) := h
  unfold modBranch modifyAt
  rw [h']

theorem modBranch_same {b : BranchId} {f : Branch → Branch} {s : State} (h : f (s.branch b) = s.branch b) :
    modBranch b f s = s := by
  have hb : modifyAt s.branches b f = s.branches := vector_ext_get fun c => by
    rw [modifyAt_get]
    split
    · next e => subst e; exact h
    · rfl
  unfold modBranch
  rw [hb]
  rfl

/-- A request that is accepted, new or not: it stands in the record, and the order is as it should be (R55, R56). -/
theorem acceptRequest_eq (n : MeterId) (r : PendingRequest) (t : State) : acceptRequest n r t =
    let b := (t.meter n).branch
    let isNew := (t.meter n).pendingReq.isNone
    let order := if isNew then (t.branch b).order ++ [n] else (t.branch b).order
    { status := .queued
      body := [.u8 n.val, .u8 b.val, .u8 (order.idxOf n + 1), .u8 order.length, .u8 (if isNew then 1 else 0),
        .u32 (timerLeft t.timeBase (t.meter n).holdOff)]
      state := modBranch b (fun k => { k with order := order }) (modMeter n (fun x => { x with pendingReq := some r }) t) } := by
  have hbranch (x : Meter → Meter) (b : BranchId) : (modMeter n x t).branch b = t.branch b := rfl
  unfold acceptRequest
  cases h : (t.meter n).pendingReq with
  | none =>
    simp only [Option.isSome_none, Bool.false_eq_true, if_false, Option.isNone_none, if_true]
    have hstate : joinOrder n r t = modBranch (t.meter n).branch
        (fun k => { k with order := (t.branch (t.meter n).branch).order ++ [n] })
        (modMeter n (fun x => { x with pendingReq := some r }) t) := modBranch_congr rfl
    have hmeter : (joinOrder n r t).meter n = { t.meter n with pendingReq := some r } := modMeter_meter_self ..
    have horder : ((joinOrder n r t).branch (t.meter n).branch).order = (t.branch (t.meter n).branch).order ++ [n] := by
      rw [hstate, modBranch_branch_self]
    simp only [queuedBody, positionOf, hmeter, horder, ← hstate]
    rfl
  | some q =>
    simp only [Option.isSome_some, if_true, Option.isNone_some, Bool.false_eq_true, if_false]
    have hmeter : (replaceRequest n r t).meter n = { t.meter n with pendingReq := some r } := modMeter_meter_self ..
    have hstate : modBranch (t.meter n).branch (fun k => { k with order := (t.branch (t.meter n).branch).order })
        (modMeter n (fun x => { x with pendingReq := some r }) t) = replaceRequest n r t := modBranch_same rfl
    simp only [queuedBody, positionOf, hmeter, hstate]
    rfl

end Requests

/-- Settles O16: the checks of R54 in order. -/
theorem refillRequestsAreQueued : Obligations.RefillRequestsAreQueued := by
  unfold Obligations.RefillRequestsAreQueued
  intro tag m s t ht hs refused
  refine next_inService answerRefillRequest ht rfl hs ?_
  unfold answerRefillRequest
  by_cases hn : m.meter.toNat < 192
  · rw [meterOf_of_lt hn, dif_pos hn]
    dsimp only
    refine reply_if Iff.rfl (fun _ => rfl) fun hout => ?_
    by_cases hu : m.urgency.toNat < 8
    · rw [urgencyOf_of_lt hu, dif_pos hu]
      dsimp only
      refine reply_if Iff.rfl (fun _ => rfl) fun _ => ?_
      unfold refillOn
      cases h : (t.meter ⟨m.meter.toNat, hn⟩).state with
      | vacant => exact absurd (.inl h) hout
      | retired => exact absurd (.inr h) hout
      | active =>
        refine reply_if Option.isSome_iff_ne_none (fun _ => rfl) fun _ => ?_
        rw [acceptRequest_eq]
        rfl
      | _ => rfl
    · rw [urgencyOf_of_not_lt hu, dif_neg hu]
      rfl
  · rw [meterOf_of_not_lt hn, dif_neg hn]
    rfl

/-! ## The configuration of a branch -/

section Configuration

theorem priorityOf_of_bit {b : Byte} (h : b = 0 ∨ b = 1) : priorityOf b = some (if b = 1 then .high else .low) := by
  obtain rfl | rfl := h <;> rfl

theorem priorityOf_of_not_bit {b : Byte} (h : ¬ (b = 0 ∨ b = 1)) : priorityOf b = none :=
  Option.isNone_iff_eq_none.mp ((priorityOf_isNone_iff b).mpr h)

/-- The period allowance of a request is absent, or in range. -/
def AllowanceGood (m : ConfigureBranchMsg) : Prop :=
  m.allowancePresent = 0 ∨ (m.allowancePresent = 1 ∧ 1 ≤ m.allowance.toNat ∧ m.allowance.toNat < 10 ^ 12)

theorem allowanceOf_good {m : ConfigureBranchMsg} (h : AllowanceGood m) :
    allowanceOf m.allowancePresent m.allowance.toNat =
      some (if m.allowancePresent = 0 then none else some m.allowance.toNat) := by
  obtain h0 | ⟨h1, hlow, hhigh⟩ := h
  · rw [h0]
    rfl
  · have hrange : ¬ (m.allowance.toNat = 0 ∨ Config.maxLimit < m.allowance.toNat) := by
      change ¬ (_ ∨ 999999999999 < _)
      omega
    rw [h1]
    exact if_neg hrange

theorem allowanceOf_bad {m : ConfigureBranchMsg} (h : ¬ AllowanceGood m) :
    allowanceOf m.allowancePresent m.allowance.toNat = none := by
  unfold allowanceOf
  by_cases h1 : m.allowancePresent = 1
  · have hrange : m.allowance.toNat = 0 ∨ Config.maxLimit < m.allowance.toNat := by
      by_contra hr
      refine h (.inr ⟨h1, ?_⟩)
      change ¬ (_ ∨ 999999999999 < _) at hr
      omega
    rw [h1]
    exact if_pos hrange
  · rw [boolOf_of_not_bit fun hb => hb.elim (fun h0 => h (.inl h0)) h1]

/-- Every field of a request but the branch is in range. -/
def FieldsGood (m : ConfigureBranchMsg) : Prop :=
  (m.cls = 0 ∨ m.cls = 1) ∧ 1 ≤ m.weight.toNat ∧ m.weight.toNat ≤ 64 ∧ (m.batch = 0 ∨ m.batch = 1) ∧
    (m.suspended = 0 ∨ m.suspended = 1) ∧ AllowanceGood m

theorem branchConfigOf_good {m : ConfigureBranchMsg} (h : FieldsGood m) : branchConfigOf m = some
    { cls := if m.cls = 1 then .high else .low, weight := m.weight.toNat, batch := m.batch == 1
      suspended := m.suspended == 1
      allowance := if m.allowancePresent = 0 then none else some m.allowance.toNat } := by
  obtain ⟨hcls, hlow, hhigh, hbatch, hsuspended, hallowance⟩ := h
  rw [branchConfigOf, priorityOf_of_bit hcls, boolOf_of_bit hbatch, boolOf_of_bit hsuspended,
    allowanceOf_good hallowance]
  exact if_neg (by omega)

theorem branchConfigOf_bad {m : ConfigureBranchMsg} (h : ¬ FieldsGood m) : branchConfigOf m = none := by
  unfold branchConfigOf
  by_cases hcls : m.cls = 0 ∨ m.cls = 1
  · by_cases hbatch : m.batch = 0 ∨ m.batch = 1
    · by_cases hsuspended : m.suspended = 0 ∨ m.suspended = 1
      · by_cases hallowance : AllowanceGood m
        · rw [priorityOf_of_bit hcls, boolOf_of_bit hbatch, boolOf_of_bit hsuspended, allowanceOf_good hallowance]
          refine if_pos ?_
          by_contra hw
          exact h ⟨hcls, by omega, by omega, hbatch, hsuspended, hallowance⟩
        · rw [allowanceOf_bad hallowance, priorityOf_of_bit hcls, boolOf_of_bit hbatch, boolOf_of_bit hsuspended]
      · rw [boolOf_of_not_bit hsuspended, priorityOf_of_bit hcls, boolOf_of_bit hbatch]
    · rw [boolOf_of_not_bit hbatch, priorityOf_of_bit hcls]
  · rw [priorityOf_of_not_bit hcls]

/-- A branch with the configuration that a request carries (R48). -/
theorem configure_eq (x : Branch) (cls : Priority) (w : Nat) (batch suspended : Bool) (present : Byte) (a : Nat) :
    x.configure { cls := cls, weight := w, batch := batch, suspended := suspended
                  allowance := if present = 0 then none else some a } =
      { configured := true, cls := cls, weight := w, batch := batch, suspended := suspended
        allowance := if present = 0 then none
          else some { period := a
                      remaining := match x.allowance with
                        | none => a
                        | some k => min k.remaining a }
        pace := x.pace, order := x.order } := by
  unfold Branch.configure
  by_cases h : present = 0
  · simp only [h, if_true]
    rfl
  · simp only [h, if_false, allowanceAfter]
    cases x.allowance <;> rfl

end Configuration

/-- Settles O17: a request is accepted exactly when every field is in range. -/
theorem branchConfigurationIsReplaced : Obligations.BranchConfigurationIsReplaced := by
  unfold Obligations.BranchConfigurationIsReplaced
  intro tag m s t ht
  refine next_always answerConfigureBranch ht rfl rfl rfl ?_
  unfold answerConfigureBranch
  by_cases hb : m.branch.toNat < 48
  · by_cases hgood : FieldsGood m
    · rw [dif_pos (by exact ⟨hb, hgood⟩), branchOf_of_lt hb, branchConfigOf_good hgood]
      dsimp only
      rw [modBranch_branch_self, configure_eq, modBranch_congr (g := fun _ => _) (configure_eq ..)]
      rfl
    · rw [dif_neg fun h => hgood h.2, branchOf_of_lt hb, branchConfigOf_bad hgood]
      rfl
  · rw [dif_neg fun h => hb h.1, branchOf_of_not_lt hb]
    rfl

end Sys2Proof.Proofs.Branches

/-!
The statements about the engine: restarts and the expiry of a slot.
-/

namespace Sys2Proof.Proofs.Engine

open Sys2Proof.Machine Sys2Proof.Proofs.Steps Sys2Proof.Proofs.PoolUnit Sys2Proof.Proofs.Faults

theorem occupiedSlots_eq_zero_iff (s : State) : occupiedSlots s = 0 ↔ ∀ k : SlotId, s.engine.slots.get k = none := by
  rw [occupiedSlots, toList_countP, Finset.card_eq_zero, Finset.filter_eq_empty_iff]
  simp

/-! ## Restarts -/

section Restarts

variable (s : State)

theorem setStarted_noticeClass (cause : StartedCause) (completed : Bool) (c : NoticeClass) :
    (setStarted cause completed s).noticeClass c = { s.noticeClass c with
      phase := if c = .started then (s.noticeClass c).phase.afterCondition else (s.noticeClass c).phase } := by
  rw [setStarted, setCondition_noticeClass]
  split
  · next h => rw [h]; rfl
  · rfl

theorem restartTakesEffect_noticeClass (c : NoticeClass) :
    (restartTakesEffect s).noticeClass c = { s.noticeClass c with
      phase := if c = .started ∨ (c = .list ∧ (s.list.state == .running || s.list.state == .halting) = true) then
          (s.noticeClass c).phase.afterCondition
        else (s.noticeClass c).phase } := by
  let t := clearPaceAndHoldOff ((dropAllRequests s).setArbiter Arbiter.cleared)
  have ht (x : Engine) (c : NoticeClass) : ((haltRunningList t).setEngine x).noticeClass c = { s.noticeClass c with
      phase := if c = .list ∧ (s.list.state == .running || s.list.state == .halting) = true then
          (s.noticeClass c).phase.afterCondition
        else (s.noticeClass c).phase } := haltRunningList_noticeClass t c
  change (setStarted .restart false _).noticeClass c = _
  rw [setStarted_noticeClass, ht]
  by_cases hc : c = .started
  · subst hc
    simp
  · simp [hc]

theorem restartTakesEffect_frame : restartTakesEffect s = { s with
    meters := (restartTakesEffect s).meters
    branches := (restartTakesEffect s).branches
    arbiter := { high := 0, low := 0, holder := none, counter := 0 }
    engine := { s.engine with state := .active }
    list := { s.list with state := if s.list.state == .running || s.list.state == .halting then .halted else s.list.state }
    notices := { classes := (restartTakesEffect s).notices.classes, cause := .restart, completed := false } } := by
  have hlist : (restartTakesEffect s).list = _ :=
    haltRunningList_list_bool (clearPaceAndHoldOff ((dropAllRequests s).setArbiter Arbiter.cleared))
  apply state_ext
  case hlist => exact hlist
  case hengine => simp [restartTakesEffect, clearPaceAndHoldOff, dropAllRequests]
  case harbiter =>
    simp [restartTakesEffect, clearPaceAndHoldOff, dropAllRequests]
    rfl
  case hnotices => rfl
  all_goals simp

end Restarts

/-- Settles O21: the restart at once, or QUIESCING, and the effect field by field. -/
theorem engineRestarts : Obligations.EngineRestarts := by
  unfold Obligations.EngineRestarts
  refine ⟨fun tag s t ht hs => next_inService (m := ()) answerEngineRestart ht rfl hs ?_, fun s =>
    ⟨restartTakesEffect_meter s, restartTakesEffect_branch s, restartTakesEffect_noticeClass s,
      restartTakesEffect_frame s⟩⟩
  unfold answerEngineRestart
  cases h : t.engine.state with
  | active =>
    dsimp only
    rw [if_pos rfl]
    by_cases ho : occupiedSlots t = 0
    · have hnone := (occupiedSlots_eq_zero_iff t).mp ho
      have hengine : (restartTakesEffect t).engine = { t.engine with state := .active } :=
        (congrArg State.engine (restartTakesEffect_frame t) :)
      have hbody : restartBody (restartTakesEffect t) = [.u8 0, .u8 0] := by
        have hslots : occupiedSlots (restartTakesEffect t) = 0 := by
          unfold occupiedSlots
          rw [hengine]
          exact ho
        rw [restartBody, hslots, hengine]
        rfl
      rw [if_pos ho, if_pos hnone, ← hbody]
      rfl
    · rw [if_neg ho, if_neg fun h => ho ((occupiedSlots_eq_zero_iff t).mpr h)]
      rfl
  | quiescing =>
    dsimp only
    have hbody : restartBody t = [.u8 EngineState.quiescing.code, .u8 (occupiedSlots t)] := by rw [restartBody, h]
    rw [if_neg (by decide), ← hbody]
    rfl
  | stopped =>
    dsimp only
    have hbody : restartBody t = [.u8 EngineState.stopped.code, .u8 (occupiedSlots t)] := by rw [restartBody, h]
    rw [if_neg (by decide), ← hbody]
    rfl

/-! ## Expiry -/

section Expiry

variable (s : State)

theorem reachTime_eq (e : Word32) : reachTime e s = { s with
    timeBase := if (s.timeBase - e).toNat < 2 ^ 31 then s.timeBase else e } := by
  change (if decide ((s.timeBase - e).toNat < 2 ^ 31) = true then s else s.setTime e) = _
  by_cases h : (s.timeBase - e).toNat < 2 ^ 31
  · rw [if_pos (decide_eq_true h), if_pos h]
  · rw [if_neg (by simpa using h), if_neg h]
    rfl

/-- An offer leaves a queue, but for the frame being sent (R101). -/
theorem withdrawOffer_eq (serial : Word16) (l : LineIf) : withdrawOffer serial l = { l with
    queue := if l.sending = none then l.queue.filter (fun f => !f.offers serial)
      else l.queue.take 1 ++ (l.queue.drop 1).filter (fun f => !f.offers serial) } := by
  unfold withdrawOffer
  cases l.sending <;> rfl

end Expiry

/-- Settles O22: the expiry of an occupied slot, and the restart that it may complete. -/
theorem grantsExpire : Obligations.GrantsExpire := by
  unfold Obligations.GrantsExpire
  intro k s
  have hexec : exec (.grantExpiry k) s = .next (whenPowered (fun s =>
    match s.engine.slots.get k with
    | some slot => expireSlot k slot (reachTime slot.expiry s)
    | none => s) s) := rfl
  rw [hexec]
  refine ⟨fun h => ?_, fun e hp he => ?_⟩
  · obtain hp | hk := h
    · rw [whenPowered, if_neg (by simp [hp])]
    · rw [whenPowered, hk]
      split <;> rfl
  · intro offer v
    rw [whenPowered, if_pos hp, he]
    have hoffer (f : OutFrame) : f.offers e.serial = offer f := by cases f <;> rfl
    change Host.Outcome.next (settleRestart _) = _
    have hv : leaveDraining e.meter (modLineIf .operations (withdrawOffer e.serial) (freeSlot k
        (modMeter e.meter (fun r => { r with grant := r.grant.map (fun g => { g with phase := .doubtful }) })
          (reachTime e.expiry s)))) = v := by
      rw [reachTime_eq, leaveDraining]
      apply state_ext
      case hmeters =>
        exact modifyAt_modifyAt s.meters e.meter
          (fun r => { r with grant := r.grant.map (fun g => { g with phase := .doubtful }) })
          (fun r => { r with state := if r.state = .draining then .awaitingReading else r.state })
      case hop =>
        change withdrawOffer e.serial s.operations = _
        rw [withdrawOffer_eq]
        simp only [hoffer]
        rfl
      all_goals rfl
    rw [hv, settleRestart]
    simp only [occupiedSlots_eq_zero_iff]

end Sys2Proof.Proofs.Engine

/-!
The statements about the stock lines: configuration, receipts, sales and spoilage, and counts.
-/

namespace Sys2Proof.Proofs.Stock

open Sys2Proof.Machine Sys2Proof.Proofs.Steps Sys2Proof.Proofs.PoolUnit Sys2Proof.Proofs.Queries

/-! ## The line that a message names -/

section Lines

variable {p : Port} {kind tag : Byte} {branch line : Byte} {s : State}

/-- A pair of numbers names a line, or is refused (R144). -/
theorem reply_lineNamed {found : BranchId → LineNo → Answer} {f : branch.toNat < 48 ∧ line.toNat < 12 → State}
    (h : ∀ h, reply p kind tag (found ⟨branch.toNat, h.1⟩ ⟨line.toNat, h.2⟩) = f h) :
    reply p kind tag (match branchOf branch, lineOf line with
      | some b, some l => found b l
      | _, _ => refuse .outOfRange s) =
      if h : branch.toNat < 48 ∧ line.toNat < 12 then f h else replied p kind tag .outOfRange [] s := by
  by_cases hb : branch.toNat < 48
  · by_cases hl : line.toNat < 12
    · rw [branchOf_of_lt hb, lineOf_of_lt hl, dif_pos ⟨hb, hl⟩]
      exact h ⟨hb, hl⟩
    · rw [branchOf_of_lt hb, lineOf_of_not_lt hl, dif_neg fun h => hl h.2]
      rfl
  · rw [branchOf_of_not_lt hb, dif_neg fun h => hb h.1]
    rfl

/-- The line checks of R144, and the checks that an owner adds to them. -/
theorem reply_withStockLine {k : BranchId → LineNo → State → Answer} {f : branch.toNat < 48 ∧ line.toNat < 12 → State}
    (hin : ∀ h, (s.stockLine ⟨branch.toNat, h.1⟩ ⟨line.toNat, h.2⟩).configured = true →
      reply p kind tag (k ⟨branch.toNat, h.1⟩ ⟨line.toNat, h.2⟩ s) = f h)
    (hout : ∀ h, (s.stockLine ⟨branch.toNat, h.1⟩ ⟨line.toNat, h.2⟩).configured = false →
      replied p kind tag .outOfRange [] s = f h) :
    reply p kind tag (withStockLine branch line k s) =
      if h : branch.toNat < 48 ∧ line.toNat < 12 then f h else replied p kind tag .outOfRange [] s := by
  refine reply_lineNamed (found := fun b l => if (s.stockLine b l).configured then k b l s else refuse .outOfRange s)
    fun h => ?_
  by_cases hc : (s.stockLine ⟨branch.toNat, h.1⟩ ⟨line.toNat, h.2⟩).configured = true
  · rw [if_pos hc]
    exact hin h hc
  · rw [if_neg hc]
    exact hout h (by simpa using hc)

end Lines

/-- What the evaluation leaves of the line evaluated (R156). -/
theorem evaluateReorder_modStockLine (b : BranchId) (l : LineNo) (f : StockLine → StockLine) (s : State) :
    (evaluateReorder b l (modStockLine b l f s)).stockLine b l = { f (s.stockLine b l) with
      raised := decide ((f (s.stockLine b l)).onHand < (f (s.stockLine b l)).level) } := by
  rw [evaluateReorder_stockLine, if_pos ⟨rfl, rfl⟩, modStockLine_stockLine, if_pos ⟨rfl, rfl⟩]

/-! ## Configuration -/

theorem stockKindOf_of_le {k : Byte} (h : ¬ 2 < k.toNat) :
    stockKindOf k = some (if k = 0 then .adhesive else if k = 1 then .label else .other) ∧
      (if k = 0 then StockKind.adhesive else if k = 1 then .label else .other).code = k.toNat := by
  have hk : k = 0 ∨ k = 1 ∨ k = 2 := by bv_omega
  obtain rfl | rfl | rfl := hk <;> exact ⟨rfl, rfl⟩

theorem stockKindOf_of_lt {k : Byte} (h : 2 < k.toNat) : stockKindOf k = none := by
  have h0 : k ≠ 0 := by bv_omega
  have h1 : k ≠ 1 := by bv_omega
  have h2 : k ≠ 2 := by bv_omega
  rw [stockKindOf, if_neg h0, if_neg h1, if_neg h2]

/-- Settles O27: the evaluation by on hand, level and mark, and the configuration that it follows. -/
theorem stockLinesAreConfiguredAndReordered : Obligations.StockLinesAreConfiguredAndReordered := by
  unfold Obligations.StockLinesAreConfiguredAndReordered
  refine ⟨fun b l s => ?_, fun tag m s t ht => next_always answerConfigureStockLine ht rfl rfl rfl ?_⟩
  · intro x mark
    obtain h | ⟨hbelow, hraised⟩ | ⟨hbelow, hraised⟩ := evaluateReorder_cases s b l
    · have hup : ¬ (x.onHand < x.level ∧ x.raised = false) := fun ⟨ho, hr⟩ => by simp_all [x]
      have hdown : ¬ (x.level ≤ x.onHand ∧ x.raised = true) := fun ⟨ho, hr⟩ => by
        rw [show x.raised = decide (x.onHand < x.level) from h, decide_eq_true_iff] at hr
        omega
      rw [evaluateReorder_of_standing s b l h, if_neg hup, if_neg hdown]
    · rw [evaluateReorder_of_fallen s b l hbelow hraised, if_pos ⟨hbelow, hraised⟩]
      rfl
    · rw [evaluateReorder_of_restored s b l hbelow hraised, if_neg fun h => hbelow h.1,
        if_pos ⟨not_lt.mp hbelow, hraised⟩]
      rfl
  · refine reply_lineNamed (found := fun b l => _) fun h => ?_
    obtain ⟨hb, hl⟩ := h
    set b : BranchId := ⟨m.branch.toNat, hb⟩
    set l : LineNo := ⟨m.line.toNat, hl⟩
    have hface : Config.maxFace = 9999999 := rfl
    have hpieces : Config.maxPieces = 999999 := rfl
    dsimp only
    cases hc : (t.branch b).configured with
    | false =>
      rw [if_pos (by simp : (!false) = true), if_pos (.inl rfl)]
      rfl
    | true =>
      rw [if_neg (by simp : ¬ (!true) = true)]
      by_cases hk : 2 < m.kind.toNat
      · rw [if_pos (.inr (.inl hk)), stockKindOf_of_lt hk]
        rfl
      · obtain ⟨hkind, hcode⟩ := stockKindOf_of_le hk
        simp only [hkind, hface, hpieces]
        refine reply_if (by simp [hk]) (fun _ => rfl) fun _ => ?_
        refine reply_if Iff.rfl (fun _ => rfl) fun _ => ?_
        rw [answerOk, linkedTo, evaluateReorder_meters, evaluateReorder_modStockLine, ← hcode]
        rfl

/-! ## Receipts -/

theorem payFor_eq (cost : Nat) (t : State) : payFor cost t = recheckPool { t with
    pool := { t.pool with p := t.pool.p - cost, k := min (t.pool.k + cost) (2 ^ 48 - 1) }
    periods := { t.periods with current := { t.periods.current with
      purchases := min (t.periods.current.purchases + cost) (2 ^ 48 - 1)
      saturated := t.periods.current.saturated ||
        decide (2 ^ 48 - 1 < t.periods.current.purchases + cost ∨ 2 ^ 48 - 1 < t.pool.p ∨
          t.pool.p < cost ∨ 2 ^ 48 - 1 < t.pool.k + cost) } } } := by
  refine congrArg recheckPool ?_
  have hhit : ((t.periods.current.saturated || passes Config.maxFigure t.periods.current.purchases cost) ||
      (figureHeld t.pool.p 0 cost || figureHeld t.pool.k cost 0)) = (t.periods.current.saturated ||
        decide (2 ^ 48 - 1 < t.periods.current.purchases + cost ∨ 2 ^ 48 - 1 < t.pool.p ∨
          t.pool.p < cost ∨ 2 ^ 48 - 1 < t.pool.k + cost)) := by
    rw [figureHeld_rise, figureHeld, passes, passes, maxFigure_eq, Nat.add_zero, Bool.decide_or, Bool.decide_or,
      Bool.decide_or]
    simp only [Bool.or_assoc]
  rw [← hhit, ← raiseFigure_eq, ← raiseFigure_eq]
  rfl

theorem payFor_stockLine (cost : Nat) (t : State) (b : BranchId) (l : LineNo) :
    (payFor cost t).stockLine b l = t.stockLine b l := by
  have hstock : (payFor cost t).stock = t.stock := by simp [payFor, poolPurchase, bankPurchase]
  rw [State.stockLine, hstock]
  rfl

/-- The reply of a receipt (R147). -/
theorem reply_received (tag : Byte) (b : BranchId) (l : LineNo) (n cost : Nat) (s : State) :
    reply .operations 0x1B tag (answerOk (receiptBody b l cost (receivePieces b l n s)) (receivePieces b l n s)) =
      replied .operations 0x1B tag .ok [.u8 b.val, .u8 l.val, .u32 ((s.stockLine b l).onHand + n), .u48 cost,
        flag ((receivePieces b l n s).stockLine b l).raised] (receivePieces b l n s) := by
  have honHand : ((receivePieces b l n s).stockLine b l).onHand = (s.stockLine b l).onHand + n := by
    rw [receivePieces, evaluateReorder_modStockLine]
  rw [receiptBody, honHand]
  rfl

theorem receivePieces_eq (b : BranchId) (l : LineNo) (n : Nat) (s : State) : receivePieces b l n s =
    evaluateReorder b l (modStockLine b l (fun y => { y with
      onHand := y.onHand + n, receipts := min (y.receipts + n) (2 ^ 32 - 1) }) s) := by
  simp only [receivePieces, raiseTo_eq_min]
  rfl

/-- Settles O28: the refusals in order, and the receipt with and without its payment. -/
theorem receiptsAddPieces : Obligations.ReceiptsAddPieces := by
  unfold Obligations.ReceiptsAddPieces
  intro tag m s t ht hs
  refine next_answer answerStockReceipt ht rfl (fun h => absurd h hs) (fun _ => rfl) ?_
  refine reply_withStockLine (fun h hc => ?_) fun h hc => (if_pos (.inl hc)).symm
  set b : BranchId := ⟨m.branch.toNat, h.1⟩
  set l : LineNo := ⟨m.line.toNat, h.2⟩
  have hpieces : Config.maxPieces = 999999 := rfl
  dsimp only [receiptOn]
  rw [hpieces]
  by_cases hpaid : m.paid = 0 ∨ m.paid = 1
  · rw [boolOf_of_bit hpaid]
    dsimp only
    refine reply_if_or (by simp [hc]; tauto) (fun _ => rfl) (fun _ _ => rfl) fun _ _ => ?_
    by_cases hp : m.paid = 1
    · rw [if_pos (beq_iff_eq.mpr hp), if_pos hp, if_pos hp]
      refine reply_if (by simp [hp]; rfl) (fun _ => rfl) fun _ => ?_
      refine (reply_received tag b l _ _ _).trans ?_
      rw [payFor_stockLine, receivePieces_eq, payFor_eq]
    · rw [if_neg (by simpa using hp), if_neg hp, if_neg hp, if_neg fun h => hp h.1]
      refine (reply_received tag b l _ _ _).trans ?_
      rw [receivePieces_eq]
  · rw [boolOf_of_not_bit hpaid]
    dsimp only
    rw [if_pos (.inr (.inl (not_or.mp hpaid)))]
    rfl

/-! ## Sales and spoilage -/

/-- The reply of a decrement, and the line after it (R149). -/
theorem reply_decrement {kind tag : Byte} {b : BranchId} {l : LineNo} {n : Nat} {t u : State}
    (h : (u.stockLine b l).onHand = (t.stockLine b l).onHand - n) :
    reply .operations kind tag (answerOk (decrementBody b l n (t.stockLine b l) u) u) =
      replied .operations kind tag .ok [.u8 b.val, .u8 l.val, .u32 (min n (t.stockLine b l).onHand),
        .u32 (n - (t.stockLine b l).onHand), .u32 ((t.stockLine b l).onHand - n), .u48 (n * (t.stockLine b l).face),
        flag (u.stockLine b l).raised] u := by
  rw [decrementBody, h]
  rfl

/-- A change of the current bank leaves what the evaluation reads. -/
theorem evaluated_onHand {b : BranchId} {l : LineNo} {f : StockLine → StockLine} {t u : State}
    (hu : u.stock = (modStockLine b l f t).stock) :
    ((evaluateReorder b l u).stockLine b l).onHand = (f (t.stockLine b l)).onHand := by
  have hline : u.stockLine b l = f (t.stockLine b l) := by
    rw [State.stockLine, hu]
    exact (modStockLine_stockLine t b b l l f).trans (if_pos ⟨rfl, rfl⟩)
  rw [evaluateReorder_stockLine, if_pos ⟨rfl, rfl⟩, hline]

theorem sellPieces_onHand (b : BranchId) (l : LineNo) (n : Nat) (t : State) :
    ((sellPieces b l n t).stockLine b l).onHand = (t.stockLine b l).onHand - n :=
  evaluated_onHand (f := fun x => { x.less n with issues := raiseTo Config.maxCount x.issues n }) rfl

theorem spoilPieces_onHand (b : BranchId) (l : LineNo) (n : Nat) (t : State) :
    ((spoilPieces b l n t).stockLine b l).onHand = (t.stockLine b l).onHand - n :=
  evaluated_onHand (f := fun x => { x.less n with spoilage := raiseTo Config.maxCount x.spoilage n }) rfl

theorem sellPieces_eq (b : BranchId) (l : LineNo) (n : Nat) (t : State) : sellPieces b l n t =
    evaluateReorder b l { modStockLine b l (fun y => { y with
        onHand := y.onHand - n
        shortfall := min (y.shortfall + (n - y.onHand)) (2 ^ 32 - 1)
        issues := min (y.issues + n) (2 ^ 32 - 1) }) t with
      periods := { t.periods with current := { t.periods.current with
        branches := modifyAt t.periods.current.branches b (fun k => { k with
          sales := min (k.sales + n * (t.stockLine b l).face) (2 ^ 48 - 1) })
        saturated := t.periods.current.saturated || decide
          (2 ^ 48 - 1 < (t.periods.current.branches.get b).sales + n * (t.stockLine b l).face) } } } := by
  simp only [sellPieces, bankSales, StockLine.less, raiseTo_eq_min, passes]
  rfl

theorem spoilPieces_eq (b : BranchId) (l : LineNo) (n : Nat) (t : State) : spoilPieces b l n t =
    evaluateReorder b l { modStockLine b l (fun y => { y with
        onHand := y.onHand - n
        shortfall := min (y.shortfall + (n - y.onHand)) (2 ^ 32 - 1)
        spoilage := min (y.spoilage + n) (2 ^ 32 - 1) }) t with
      periods := { t.periods with current := { t.periods.current with
        branches := modifyAt t.periods.current.branches b (fun k => { k with
          spoilage := min (k.spoilage + n * (t.stockLine b l).face) (2 ^ 48 - 1) })
        saturated := t.periods.current.saturated || decide
          (2 ^ 48 - 1 < (t.periods.current.branches.get b).spoilage + n * (t.stockLine b l).face) } } } := by
  simp only [spoilPieces, bankSpoilage, StockLine.less, raiseTo_eq_min, passes]
  rfl

/-- Settles O29: one argument for the two kinds, the counters and the bank's value apart. -/
theorem salesAndSpoilageTakePieces : Obligations.SalesAndSpoilageTakePieces := by
  unfold Obligations.SalesAndSpoilageTakePieces
  have hpieces : Config.maxPieces = 999999 := rfl
  refine ⟨fun tag m s t ht hs => ?_, fun tag m s t ht hs => ?_⟩
  · refine next_answer answerStockSale ht rfl (fun h => absurd h hs) (fun _ => rfl) ?_
    refine reply_withStockLine (fun h hc => ?_) fun h hc => (if_pos (.inl hc)).symm
    dsimp only [saleOn]
    rw [hpieces]
    refine reply_if (by simp [hc]) (fun _ => rfl) fun _ => ?_
    refine (reply_decrement (sellPieces_onHand _ _ _ _)).trans ?_
    rw [sellPieces_eq]
    rfl
  · refine next_answer answerStockSpoil ht rfl (fun h => absurd h hs) (fun _ => rfl) ?_
    refine reply_withStockLine (fun h hc => ?_) fun h hc => (if_pos (.inl hc)).symm
    dsimp only [spoilOn]
    rw [hpieces]
    refine reply_if (by simp [hc]) (fun _ => rfl) fun _ => ?_
    refine (reply_decrement (spoilPieces_onHand _ _ _ _)).trans ?_
    rw [spoilPieces_eq]
    rfl

/-! ## Counts -/

theorem raiseSigned_eq (x d : Int) : raiseSigned x d = max (-2 ^ 47) (min (2 ^ 47 - 1) (x + d)) := by
  have hmax : Config.maxSigned = 2 ^ 47 - 1 := rfl
  have hmin : Config.minSigned = -2 ^ 47 := rfl
  rw [raiseSigned, hmax, hmin]
  omega

theorem passesSigned_eq (x d : Int) : passesSigned x d = decide (2 ^ 47 - 1 < x + d ∨ x + d < -2 ^ 47) :=
  (Bool.decide_or _ _).symm

theorem countPieces_eq (b : BranchId) (l : LineNo) (n : Nat) (value : Int) (t : State) : countPieces b l n value t =
    evaluateReorder b l { modStockLine b l (fun y => { y with onHand := n, shortfall := 0 }) t with
      periods := { t.periods with current := { t.periods.current with
        branches := modifyAt t.periods.current.branches b
          (fun k => { k with variance := max (-2 ^ 47) (min (2 ^ 47 - 1) (k.variance + value)) })
        saturated := t.periods.current.saturated || decide
          (2 ^ 47 - 1 < (t.periods.current.branches.get b).variance + value ∨
            (t.periods.current.branches.get b).variance + value < -2 ^ 47) } } } := by
  simp only [countPieces, bankVariance, raiseSigned_eq, passesSigned_eq]
  rfl

/-- Settles O30: the line, the bank's variance and the fault above tolerance. -/
theorem countsSetTheLine : Obligations.CountsSetTheLine := by
  unfold Obligations.CountsSetTheLine
  intro tag m s t ht hs
  refine next_answer answerStockCount ht rfl (fun h => absurd h hs) (fun _ => rfl) ?_
  refine reply_withStockLine (fun h hc => ?_) fun h hc => (if_pos (.inl hc)).symm
  set b : BranchId := ⟨m.branch.toNat, h.1⟩
  set l : LineNo := ⟨m.line.toNat, h.2⟩
  have hpieces : Config.maxPieces = 999999 := rfl
  dsimp only [countOn]
  rw [hpieces]
  refine reply_if (by simp [hc]) (fun _ => rfl) fun _ => ?_
  set value : Int := ((m.count.toNat : Int) - ((t.stockLine b l).onHand : Int)) * ((t.stockLine b l).face : Int)
  have hlarge : decide (t.stock.tolerance < value.natAbs) =
      decide ((t.stock.tolerance : Int) < value ∨ value < -(t.stock.tolerance : Int)) := by
    rw [decide_eq_decide]
    omega
  have htime : (countPieces b l m.count.toNat value t).timeBase = t.timeBase := by simp [countPieces, bankVariance]
  have hline : (if decide (t.stock.tolerance < value.natAbs) = true then
      handFault (stockVarianceFault (countPieces b l m.count.toNat value t)) (countPieces b l m.count.toNat value t)
      else countPieces b l m.count.toNat value t).stock = (countPieces b l m.count.toNat value t).stock := by
    split <;> simp
  simp only [State.stockLine] at hline ⊢
  rw [hline, stockVarianceFault, htime, hlarge, countPieces_eq]
  rfl

end Sys2Proof.Proofs.Stock

/-!
The statements about the accounting periods and about the auditor's requests.
-/

namespace Sys2Proof.Proofs.Periods

open Sys2Proof.Machine Sys2Proof.Proofs.Steps Sys2Proof.Proofs.PoolUnit Sys2Proof.Proofs.Stock

/-! ## The merge of two banks -/

section Merge

theorem any_zipAll_iff {α β : Type} {n : Nat} (f : α → β → Bool) (v : Vector α n) (w : Vector β n) :
    (zipAll f v w).toList.any id = true ↔ ∃ i : Fin n, f (v.get i) (w.get i) = true := by
  rw [toList_eq_map_get]
  simp [zipAll_get]

theorem BranchBank.merge_eq (x y : BranchBank) : x.merge y =
    { used := min (x.used + y.used) (2 ^ 48 - 1)
      appliedCount := min (x.appliedCount + y.appliedCount) (2 ^ 32 - 1)
      appliedAmount := min (x.appliedAmount + y.appliedAmount) (2 ^ 48 - 1)
      reversed := min (x.reversed + y.reversed) (2 ^ 32 - 1)
      short := min (x.short + y.short) (2 ^ 32 - 1)
      sales := min (x.sales + y.sales) (2 ^ 48 - 1)
      spoilage := min (x.spoilage + y.spoilage) (2 ^ 48 - 1)
      variance := max (-2 ^ 47) (min (2 ^ 47 - 1) (x.variance + y.variance)) } := by
  simp only [BranchBank.merge, raiseTo_eq_min, raiseSigned_eq]
  rfl

theorem passes_iff (top x d : Nat) : passes top x d = true ↔ top < x + d := decide_eq_true_iff

theorem passesSigned_iff (x d : Int) : passesSigned x d = true ↔ 2 ^ 47 - 1 < x + d ∨ x + d < -2 ^ 47 := by
  rw [passesSigned_eq, decide_eq_true_iff]

theorem maxCount_eq : Config.maxCount = 2 ^ 32 - 1 := rfl

theorem BranchBank.mergeHits_iff (x y : BranchBank) : x.mergeHits y = true ↔
    2 ^ 48 - 1 < x.used + y.used ∨ 2 ^ 32 - 1 < x.appliedCount + y.appliedCount ∨
      2 ^ 48 - 1 < x.appliedAmount + y.appliedAmount ∨ 2 ^ 32 - 1 < x.reversed + y.reversed ∨
      2 ^ 32 - 1 < x.short + y.short ∨ 2 ^ 48 - 1 < x.sales + y.sales ∨
      2 ^ 48 - 1 < x.spoilage + y.spoilage ∨ 2 ^ 47 - 1 < x.variance + y.variance ∨
      x.variance + y.variance < -2 ^ 47 := by
  simp only [BranchBank.mergeHits, Bool.or_eq_true, passes_iff, passesSigned_iff, maxFigure_eq, maxCount_eq, or_assoc]

theorem Bank.merge_saturated_iff (old new : Bank) (p : Nat) : (old.merge new p).saturated = true ↔
    old.saturated = true ∨ new.saturated = true ∨
      (∃ b : BranchId,
        let x := old.branches.get b
        let y := new.branches.get b
        2 ^ 48 - 1 < x.used + y.used ∨ 2 ^ 32 - 1 < x.appliedCount + y.appliedCount ∨
          2 ^ 48 - 1 < x.appliedAmount + y.appliedAmount ∨ 2 ^ 32 - 1 < x.reversed + y.reversed ∨
          2 ^ 32 - 1 < x.short + y.short ∨ 2 ^ 48 - 1 < x.sales + y.sales ∨
          2 ^ 48 - 1 < x.spoilage + y.spoilage ∨ 2 ^ 47 - 1 < x.variance + y.variance ∨
          x.variance + y.variance < -2 ^ 47) ∨
      2 ^ 48 - 1 < old.deposits + new.deposits ∨ 2 ^ 48 - 1 < old.refunds + new.refunds ∨
      2 ^ 48 - 1 < old.purchases + new.purchases ∨ 2 ^ 48 - 1 < old.sweeps + new.sweeps ∨
      2 ^ 47 - 1 < old.adjustments + new.adjustments ∨ old.adjustments + new.adjustments < -2 ^ 47 := by
  simp only [Bank.merge, Bank.mergeHits, Bool.or_eq_true, passes_iff, passesSigned_iff, any_zipAll_iff,
    BranchBank.mergeHits_iff, maxFigure_eq, or_assoc]

end Merge

/-- The reply of a close (R165). -/
theorem reply_closed {tag : Byte} {result : Result} {code : Nat} {k : Bank} {stamp : Word32} {u : State}
    (hcode : result.code = code) (hk : u.periods.closing = k) (hstamp : u.periods.current.stamp = stamp) :
    reply .operations 0x25 tag (answerOk (closeBody result u) u) = replied .operations 0x25 tag .ok
      ([.u8 code, .u32 k.stamp.toNat, .u8 k.spanned, flag k.saturated] ++
        (match k.poolAtClose with
        | none => [.u8 0]
        | some p => [.u8 1, .u48 p]) ++ [.u32 stamp.toNat]) u := by
  have hpool (b : Bank) : poolAtCloseFields b = match b.poolAtClose with
      | none => [.u8 0]
      | some p => [.u8 1, .u48 p] := by
    unfold poolAtCloseFields Machine.optional
    cases b.poolAtClose <;> rfl
  rw [closeBody, hpool, hcode, hk, hstamp]
  rfl

/-- Settles O34: the repeated stamp, the bank moved, the bank merged field by field, and the collection. -/
theorem periodsAreClosedAndCollected : Obligations.PeriodsAreClosedAndCollected := by
  unfold Obligations.PeriodsAreClosedAndCollected
  refine ⟨fun tag m s t ht hs => ?_, fun tag m s t ht hs =>
    next_answer answerCollectPeriod ht rfl (fun h => absurd h hs) (fun _ => rfl) ?_⟩
  · have hnext {u : State} (h : reply .operations Kind.closePeriod.code tag (answerClosePeriod m t) = u) :=
      next_answer answerClosePeriod ht rfl (fun h => absurd h hs) (fun _ => rfl) h
    by_cases hstamp : m.stamp = t.periods.current.stamp
    · refine ⟨t, t.periods.closing, hnext ?_, rfl, fun _ => rfl, fun h => absurd hstamp h⟩
      unfold answerClosePeriod
      rw [if_pos hstamp, if_pos hstamp, hstamp]
      exact reply_closed rfl rfl rfl
    · refine ⟨closePeriod m.stamp t, (closePeriod m.stamp t).periods.closing, hnext ?_, rfl,
        fun h => absurd h hstamp, fun _ => ⟨?_, fun hc => ?_, fun hc => ⟨?_, ?_, ?_, fun b => ?_, ?_, ?_, ?_, ?_, ?_, ?_⟩⟩⟩
      · unfold answerClosePeriod
        rw [if_neg hstamp, if_neg hstamp]
        refine reply_closed ?_ rfl rfl
        cases t.periods.collected <;> rfl
      · rfl
      · exact if_pos hc
      all_goals
        have hk : (closePeriod m.stamp t).periods.closing = t.periods.closing.merge t.periods.current t.pool.p :=
          if_neg (by simp [hc])
        rw [hk]
      · rfl
      · exact raiseTo_eq_min ..
      · rfl
      · exact (zipAll_get ..).trans (BranchBank.merge_eq ..)
      · exact raiseTo_eq_min ..
      · exact raiseTo_eq_min ..
      · exact raiseTo_eq_min ..
      · exact raiseTo_eq_min ..
      · exact raiseSigned_eq ..
      · exact Bank.merge_saturated_iff ..
  · unfold answerCollectPeriod
    by_cases hh : t.periods.held = true
    · rw [if_neg (by simp [hh])]
      by_cases hc : m.stamp = t.periods.closing.stamp
      · rw [if_neg (not_not.mpr hc), if_pos ⟨hh, hc⟩, hc]
        rfl
      · rw [if_pos hc, if_neg fun h => hc h.2]
        rfl
    · rw [if_pos (by simpa using hh), if_neg fun h => hh h.1]
      rfl

end Sys2Proof.Proofs.Periods

namespace Sys2Proof.Proofs.OperatingStates

open Sys2Proof.Machine Sys2Proof.Proofs.Steps Sys2Proof.Proofs.PoolUnit

/-- A kind that UNCOMMISSIONED does not take (R197, check 4). -/
theorem next_uncommissioned {α : Type} {p : Port} {k : Kind} {tag : Byte} {m : α} {enc : α → List Byte} {s t : State}
    (owner : α → State → Answer) (ht : Taken p k.code tag (enc m) s t) (hp : k.permitted p = true)
    (hs : t.monitor.state = .uncommissioned) (hk : k.takenUncommissioned = false) :
    (.next (request p k tag (.fields m) enc owner s) : Host.Outcome State Fault Refusal) =
      .next (replied p k.code tag .badState [] t) := by
  rw [request_of_taken owner (b := .fields m) ht, answerTo, if_neg Bool.false_ne_true, judge, if_neg (by simp [hp]),
    if_pos ⟨hs, hk⟩]
  rfl

theorem enrolledMeters_commissionPart (t : State) : enrolledMeters (commissionPart t) = enrolledMeters t := by
  have hmeter (n : MeterId) : ((commissionPart t).meters.get n).state = (t.meters.get n).state := by
    have hm : (commissionPart t).meters = mapAll (Meter.commissioned t) t.meters := rfl
    rw [hm, mapAll_get, Meter.commissioned]
    split <;> rfl
  simp only [enrolledMeters, toList_countP, hmeter]

theorem commissionPart_eq (t : State) : commissionPart t = setCondition .started { t with
    monitor := { t.monitor with state := .inService }
    engine := { t.engine with state := .active }
    meters := mapAll (fun r =>
      if r.state = .active then
        { r with supervision := some (t.timeBase + BitVec.ofNat 32 (3600 * r.settings.hours)) }
      else r) t.meters
    notices := { t.notices with cause := .commission, completed := false } } := by
  have hcommissioned : Meter.commissioned t = fun r => if r.state = .active then
      { r with supervision := some (t.timeBase + BitVec.ofNat 32 (3600 * r.settings.hours)) } else r :=
    funext fun r => by
      rw [Nat.mul_comm]
      rfl
  rw [commissionPart, hcommissioned]
  rfl

/-- Settles O35: the three requests, by the part state. -/
theorem auditorsChangeTheOperatingState : Obligations.AuditorsChangeTheOperatingState := by
  unfold Obligations.AuditorsChangeTheOperatingState
  refine ⟨fun tag s t ht => ?_, fun tag s t ht => ?_, fun tag s t ht => ?_⟩
  · refine next_always (m := ()) answerCommission ht rfl rfl rfl ?_
    unfold answerCommission
    cases h : t.monitor.state with
    | uncommissioned =>
      dsimp only
      have hbranches : (commissionPart t).branches = t.branches := rfl
      rw [if_pos rfl, configuredBranches, hbranches, enrolledMeters_commissionPart, commissionPart_eq]
      rfl
    | inService => rfl
    | lockdown => rfl
  · cases h : t.monitor.state with
    | uncommissioned => exact next_uncommissioned (m := ()) answerRelease ht rfl h rfl
    | inService =>
      refine next_inService (m := ()) answerRelease ht rfl h ?_
      rw [answerRelease, h]
      rfl
    | lockdown =>
      refine next_answer (m := ()) answerRelease ht rfl (by simp [h]) (fun _ => rfl) ?_
      rw [answerRelease, h]
      rfl
  · cases h : t.monitor.state with
    | uncommissioned => exact next_uncommissioned (m := ()) answerClearFaults ht rfl h rfl
    | inService =>
      refine next_inService (m := ()) answerClearFaults ht rfl h ?_
      rw [answerClearFaults, h]
      rfl
    | lockdown =>
      refine next_answer (m := ()) answerClearFaults ht rfl (by simp [h]) (fun _ => rfl) ?_
      rw [answerClearFaults, h]
      rfl

end Sys2Proof.Proofs.OperatingStates

/-!
The statements about the List Unit's requests: loading, starting, halting, aborting and clearing.
-/

namespace Sys2Proof.Proofs.Lists

open Sys2Proof.Machine Sys2Proof.Proofs.Steps Sys2Proof.Proofs.PoolUnit Sys2Proof.Proofs.Queries

/-! ## The entries of a LOAD-LIST -/

/-- An entry whose fields are in range (R116, check 3). -/
def EntryGood (e : ListEntryMsg) : Prop :=
  e.meter.toNat < 192 ∧ 1 ≤ e.q.toNat ∧ e.q.toNat ≤ 99999999 ∧ e.flags.toNat ≤ 3

/-- The entry that a good one of a LOAD-LIST makes (R116). -/
def EntryMakes (e : ListEntryMsg) (x : Entry) : Prop :=
  EntryGood e ∧ x.meter.val = e.meter.toNat ∧
    x = { meter := x.meter, q := e.q.toNat, quiet := e.flags.getLsbD 0, stopOnShort := e.flags.getLsbD 1,
          outcome := .waiting, serial := none }

section Entries

variable {e : ListEntryMsg} {x : Entry}

theorem entryOf_of_makes (h : EntryMakes e x) : entryOf e = some x := by
  obtain ⟨⟨hm, hq, hq', hf⟩, hmeter, hx⟩ := h
  have hmax : Config.maxGrant = 99999999 := rfl
  have hid : (⟨e.meter.toNat, hm⟩ : MeterId) = x.meter := Fin.ext hmeter.symm
  rw [entryOf, meterOf_of_lt hm, hx, hid, hmax]
  dsimp only
  rw [if_neg (by omega)]

theorem entryOf_of_not_good (h : ¬ EntryGood e) : entryOf e = none := by
  have hmax : Config.maxGrant = 99999999 := rfl
  unfold entryOf
  by_cases hm : e.meter.toNat < 192
  · rw [meterOf_of_lt hm, hmax]
    dsimp only
    rw [if_pos]
    by_contra hc
    exact h ⟨hm, by omega⟩
  · rw [meterOf_of_not_lt hm]

theorem entriesOf_of_makes {ms : List ListEntryMsg} {new : List Entry} (h : List.Forall₂ EntryMakes ms new) :
    entriesOf ms = some new := by
  induction h with
  | nil => rfl
  | cons h _ ih => rw [entriesOf, entryOf_of_makes h, ih]

theorem entriesOf_of_not_good {ms : List ListEntryMsg} (h : ∃ e ∈ ms, ¬ EntryGood e) : entriesOf ms = none := by
  induction ms with
  | nil => simp at h
  | cons m ms ih =>
    obtain ⟨e, he, hbad⟩ := h
    rw [entriesOf]
    obtain rfl | he := List.mem_cons.mp he
    · rw [entryOf_of_not_good hbad]
    · rw [ih ⟨e, he, hbad⟩]
      cases entryOf m <;> rfl

end Entries

/-- The loading onto a list, or onto the list emptied (R116). -/
def loadOnto (m : LoadListMsg) (s base : State) : Answer :=
  if m.entries.length = 0 ∨ Config.listEntries < m.entries.length then refuse .outOfRange s
  else
    match entriesOf m.entries with
    | none => refuse .outOfRange s
    | some new =>
        if Config.listEntries < base.list.entries.length + new.length then refuse .full s
        else answerOk (loadBody base.list.entries.length (appendEntries new base)) (appendEntries new base)

theorem answerLoadList_eq (m : LoadListMsg) (s : State) : answerLoadList m s =
    match s.list.state with
    | .running | .halting | .halted | .drainingList => refuse .badState s
    | .empty | .loaded => loadOnto m s s
    | .done | .aborted => loadOnto m s (emptyList s) := rfl

/-- Settles O31: the refusals, and the entries appended to the list as it stands or emptied. -/
theorem listsAreLoaded : Obligations.ListsAreLoaded := by
  unfold Obligations.ListsAreLoaded
  intro tag m s t ht hs
  have hnext {u : State} (h : reply .operations Kind.loadList.code tag (answerLoadList m t) = u) :=
    next_inService answerLoadList ht rfl hs h
  have hmax : Config.listEntries = 32 := rfl
  refine ⟨fun hfresh hfin => hnext ?_, fun h => ⟨fun hbad => hnext ?_, fun base new hb hb' h0 h32 hnew => hnext ?_⟩⟩
  · rw [answerLoadList_eq]
    cases h : t.list.state with
    | empty => exact absurd (.inl h) hfresh
    | loaded => exact absurd (.inr h) hfresh
    | done => exact absurd (.inl h) hfin
    | aborted => exact absurd (.inr h) hfin
    | _ => rfl
  · have hrefused (base : State) : loadOnto m t base = refuse .outOfRange t := by
      rw [loadOnto, hmax]
      by_cases hlen : m.entries.length = 0 ∨ 32 < m.entries.length
      · rw [if_pos hlen]
      · have hentry : ∃ e ∈ m.entries, ¬ EntryGood e := (or_assoc.mpr hbad).resolve_left hlen
        rw [if_neg hlen, entriesOf_of_not_good hentry]
    rw [answerLoadList_eq, hrefused, hrefused]
    obtain (h | h) | h | h := h <;> rw [h] <;> rfl
  · have hloaded : answerLoadList m t = loadOnto m t base := by
      rw [answerLoadList_eq]
      obtain (h | h) | h | h := h
      · rw [h, hb (.inl h)]
      · rw [h, hb (.inr h)]
      · rw [h, hb' (.inl h)]
      · rw [h, hb' (.inr h)]
    have hbody : loadBody base.list.entries.length (appendEntries new base) =
        [.u8 1, .u8 (base.list.entries.length + new.length), .u8 base.list.entries.length] := by
      rw [← List.length_append]
      rfl
    rw [hloaded, loadOnto, hmax, if_neg (by omega), entriesOf_of_makes hnew]
    refine reply_if Iff.rfl (fun _ => rfl) fun _ => ?_
    rw [hbody]
    rfl

/-! ## The start of a run -/

theorem all_ne_waiting (s : State) : s.list.entries.all (fun e => e.outcome != .waiting) = !anyWaiting s := by
  rw [anyWaiting, List.not_any_eq_all_not]
  rfl

/-- The state that a start leaves a list in (R117, R122). -/
def startedState (s : State) : ListState :=
  if (s.list.state == .loaded || s.list.state == .halted) && s.list.entries.all (fun e => e.outcome != .waiting) then
    (if s.list.entries.any (fun e => e.outcome == .offered) then .drainingList else .done)
  else .running

/-- A list with its state, class and batch setting replaced. -/
def relisted (x : ListState) (cls : Priority) (batch : Bool) (s : State) : State :=
  { s with list := { s.list with state := x, cls := cls, batch := batch } }

/-- A run that ends at once where no entry is WAITING (R122). -/
theorem endRun_relisted (cls : Priority) (batch : Bool) (s : State) : endRun (relisted .running cls batch s) =
    if anyWaiting s then relisted .running cls batch s
    else if anyOffered s then relisted .drainingList cls batch s
    else setCondition .list (relisted .done cls batch s) := rfl

theorem startList_eq (cls : Priority) (batch : Bool) (s : State) : startList cls batch s =
    if startedState s = .done then setCondition .list (relisted (startedState s) cls batch s)
    else relisted (startedState s) cls batch s := by
  have hstart : startList cls batch s =
      if (s.list.state == .loaded || s.list.state == .halted) = true then endRun (relisted .running cls batch s)
      else relisted .running cls batch s := by
    unfold startList
    cases s.list.state <;> rfl
  have hoffered : s.list.entries.any (fun e => e.outcome == .offered) = anyOffered s := rfl
  rw [hstart, endRun_relisted, startedState, all_ne_waiting, hoffered]
  cases s.list.state == .loaded || s.list.state == .halted <;> cases anyWaiting s <;> cases anyOffered s <;> rfl

theorem startBody_startList (cls : Priority) (batch : Bool) (s : State) : startBody (startList cls batch s) =
    [.u8 (startedState s).code, .u8 cls.code, flag batch, .u8 s.list.next] := by
  rw [startList_eq]
  split <;> rfl

theorem priority_code {b : Byte} (h : b = 0 ∨ b = 1) : (if b = 1 then Priority.high else .low).code = b.toNat := by
  obtain rfl | rfl := h <;> rfl

theorem flag_bit {b : Byte} (h : b = 0 ∨ b = 1) : flag (b == 1) = .u8 b.toNat := by
  obtain rfl | rfl := h <;> rfl

/-- Settles O32: the two fields, the list state, and the run that may end at once. -/
theorem listsAreStarted : Obligations.ListsAreStarted := by
  unfold Obligations.ListsAreStarted
  intro tag m s t ht hs
  refine next_inService answerStartList ht rfl hs ?_
  unfold answerStartList
  by_cases hc : m.cls = 0 ∨ m.cls = 1
  · by_cases hb : m.batch = 0 ∨ m.batch = 1
    · have hgood : ¬ ((m.cls ≠ 0 ∧ m.cls ≠ 1) ∨ (m.batch ≠ 0 ∧ m.batch ≠ 1)) := by tauto
      rw [Branches.priorityOf_of_bit hc, boolOf_of_bit hb, if_neg hgood]
      by_cases hidle : t.list.state = .empty ∨ t.list.state = .drainingList ∨ t.list.state = .done ∨
          t.list.state = .aborted
      · rw [if_pos hidle]
        obtain h | h | h | h := hidle <;> rw [h] <;> rfl
      · rw [if_neg hidle]
        trans reply .operations Kind.startList.code tag
          (answerOk (startBody (startList (if m.cls = 1 then .high else .low) (m.batch == 1) t))
            (startList (if m.cls = 1 then .high else .low) (m.batch == 1) t))
        · cases h : t.list.state with
          | empty => exact absurd (.inl h) hidle
          | drainingList => exact absurd (.inr (.inl h)) hidle
          | done => exact absurd (.inr (.inr (.inl h))) hidle
          | aborted => exact absurd (.inr (.inr (.inr h))) hidle
          | _ => rfl
        · rw [startBody_startList, priority_code hc, flag_bit hb, startList_eq]
          rfl
    · rw [boolOf_of_not_bit hb, if_pos (.inr (not_or.mp hb))]
      cases priorityOf m.cls <;> rfl
  · rw [Branches.priorityOf_of_not_bit hc, if_pos (.inl (not_or.mp hc))]
    rfl

/-! ## Halt, abort and clear -/

theorem listHoldsBatch_iff (s : State) : listHoldsBatch s = true ↔ s.arbiter.holder.map Prod.fst = some 48 := by
  have hlist : listRequester = 48 := rfl
  rw [listHoldsBatch, hlist]
  cases s.arbiter.holder <;> simp

theorem abandoned_eq : Entry.abandoned = fun e => { e with
    outcome := if e.outcome = .waiting then .abandoned else e.outcome } :=
  funext fun e => by
    unfold Entry.abandoned
    split <;> rfl

theorem detached_eq : Grant.detached = fun g => { g with
    source := if g.source = .request then .request else .list none } :=
  funext fun g => by
    unfold Grant.detached
    obtain ⟨serial, amount, phase, source⟩ := g
    cases source <;> rfl

/-- Settles O33: the three requests, by the list state. -/
theorem listsAreHaltedAbortedAndCleared : Obligations.ListsAreHaltedAbortedAndCleared := by
  unfold Obligations.ListsAreHaltedAbortedAndCleared
  refine ⟨fun tag s t ht hs => next_answer (m := ()) answerHaltList ht rfl (fun h => absurd h hs) (fun _ => rfl) ?_,
    fun tag s t ht hs => next_answer (m := ()) answerAbortList ht rfl (fun h => absurd h hs) (fun _ => rfl) ?_,
    fun tag s t ht hs => next_answer (m := ()) answerClearList ht rfl (fun h => absurd h hs) (fun _ => rfl) ?_⟩
  · unfold answerHaltList
    have hbody : haltBody t = [.u8 t.list.state.code, .u8 t.list.next] := rfl
    cases h : t.list.state with
    | running =>
      by_cases hb : t.arbiter.holder.map Prod.fst = some 48
      · dsimp only
        rw [if_pos ((listHoldsBatch_iff t).mpr hb), if_pos rfl, if_pos hb]
        rfl
      · dsimp only
        rw [if_neg (mt (listHoldsBatch_iff t).mp hb), if_pos rfl, if_neg hb]
        rfl
    | halting =>
      rw [hbody, h]
      rfl
    | halted =>
      rw [hbody, h]
      rfl
    | _ => rfl
  · unfold answerAbortList abortList
    rw [abandoned_eq]
    cases t.list.state <;> rfl
  · unfold answerClearList emptyList
    rw [detached_eq]
    cases t.list.state <;> rfl

end Sys2Proof.Proofs.Lists

/-!
The statements about the line interfaces: bytes, silences and breaks, and transmission.
-/

namespace Sys2Proof.Proofs.Lines

open Sys2Proof.Machine Sys2Proof.Proofs.Steps Sys2Proof.Proofs.PoolUnit

/-! ## The line as an event finds it -/

section Events

variable {s : State} {p : Port} {l : LineIf} {cond : LineIf → Bool} {f : LineIf → LineIf}

theorem settled_breakNow (l : LineIf) (now : Word32) : (l.settled now).breakNow = l.breakNow := by
  unfold LineIf.settled
  split <;> rfl

theorem settled_of_fresh {last now : Word32} (hl : l.receiver.last = some last) (h : (now - last).toNat < 3) :
    l.settled now = l := by
  have hs : silent now last = false := decide_eq_false (Nat.not_le.mpr h)
  simp [LineIf.settled, hl, hs]

theorem settled_of_late {last now : Word32} (hl : l.receiver.last = some last) (h : 3 ≤ (now - last).toNat) :
    l.settled now = l.truncate := by
  have hs : silent now last = true := decide_eq_true h
  simp [LineIf.settled, hl, hs]

/-- An event at a receive line has no effect without power or during a break (R201). -/
theorem next_idle (h : s.powered = false ∨ (s.line p).breakNow = true) :
    (.next (whenPowered (receive p cond f) s) : Host.Outcome State Fault Refusal) = .next s := by
  obtain h | h := h
  · rw [whenPowered, if_neg (by simp [h])]
  · rw [whenPowered, receive]
    simp [settled_breakNow, h]

variable (hp : s.powered = true) (hb : (s.line p).breakNow = false) (hl : (s.line p).settled s.timeBase = l)
include hp hb hl

/-- The event acts on the line as it finds it. -/
theorem next_received {c : Prop} [Decidable c] {u : LineIf} (hc : cond l = true ↔ c) (hu : c → f l = u) :
    (.next (whenPowered (receive p cond f) s) : Host.Outcome State Fault Refusal) =
      .next (if c then s.setLine p u else s) := by
  have hbreak : l.breakNow = false := by rw [← hl, settled_breakNow, hb]
  have hcond : (!l.breakNow && cond l) = true ↔ c := by simp [hbreak, hc]
  rw [whenPowered, if_pos hp]
  unfold receive
  simp only [hl, hcond]
  by_cases h : c
  · rw [if_pos h, if_pos h, hu h]
  · rw [if_neg h, if_neg h]

/-- The event does not act on the line as it finds it. -/
theorem next_ignored (hc : cond l = false) :
    (.next (whenPowered (receive p cond f) s) : Host.Outcome State Fault Refusal) = .next s :=
  (next_received (c := False) (u := l) hp hb hl (by simp [hc]) (fun h => h.elim)).trans (by rw [if_neg not_false])

/-- The event acts on the line unless a condition stands. -/
theorem next_unless {c : Prop} [Decidable c] {u : LineIf} (hc : cond l = true ↔ ¬ c) (hu : ¬ c → f l = u) :
    (.next (whenPowered (receive p cond f) s) : Host.Outcome State Fault Refusal) =
      .next (if c then s else s.setLine p u) := by
  rw [next_received hp hb hl hc hu, ite_not]

end Events

section Markers

variable {s : State} {p : Port} {l : LineIf}

theorem isWaiting_of_waiting (hw : l.receiver = .waiting) : l.isWaiting = true := by rw [LineIf.isWaiting, hw]

variable (hp : s.powered = true) (hb : (s.line p).breakNow = false) (hl : (s.line p).settled s.timeBase = l)
  (hw : l.receiver = .waiting)
include hp hb hl hw

/-- The three events between frames, on the line as they find it. -/
theorem betweenFrames (b : Byte) (stop : Bool) :
    exec (.discardedByte p b stop) s = .next
      (if b = 0xA5 ∧ stop = true then s
      else s.setLine p { l with counters := { l.counters with discarded := min (l.counters.discarded + 1) 65535 } }) ∧
    exec (.startMarkerReceived p) s = .next
      (if l.buffer = none then
        s.setLine p { l with receiver := .frame {
          lMax := s.engine.lMax, kept := [0xA5], count := 1, length := 0, crc := 0xFFFF, check := 0,
          badStop := false, last := s.timeBase } }
      else s) ∧
    exec (.overrun p) s = .next
      (if l.buffer = none then s
      else s.setLine p { l with
        receiver := .overrun { count := 1, length := 0, last := s.timeBase }
        counters := { l.counters with overruns := min (l.counters.overruns + 1) 65535 } }) := by
  have hwait := isWaiting_of_waiting hw
  have hmarker : Config.startMarker = 0xA5 := rfl
  refine ⟨next_unless hp hb hl ?_ fun _ => ?_, next_received hp hb hl ?_ fun _ => rfl,
    next_unless hp hb hl ?_ fun _ => ?_⟩
  · simp [hwait, hmarker]
    tauto
  · rw [LineIf.countDiscarded, tally_eq]
  · simp [hwait]
  · simp [hwait, Option.isSome_iff_ne_none]
  · rw [LineIf.countOverrun, tally_eq]

/-- No byte of a frame is received between frames. -/
theorem noFrame (b : Byte) (stop : Bool) :
    exec (.frameByteReceived p b stop) s = .next s ∧ exec (.shortLength p b stop) s = .next s ∧
      exec (.frameCheck p b stop) s = .next s :=
  ⟨next_ignored hp hb hl (by rw [LineIf.takesByte, hw]), next_ignored hp hb hl (by rw [LineIf.shortNow, hw]),
    next_ignored hp hb hl (by rw [LineIf.endsNow, hw])⟩

end Markers

/-- Settles O36: the three events between frames, and the events that no frame waits for. -/
theorem bytesBetweenFrames : Obligations.BytesBetweenFrames := by
  unfold Obligations.BytesBetweenFrames
  intro p b stop s hw
  have hl : (s.line p).settled s.timeBase = s.line p := settled_waiting _ hw
  refine ⟨fun hp hb => betweenFrames hp hb hl hw b stop, fun h => ⟨next_idle h, next_idle h, next_idle h⟩, ?_⟩
  by_cases h : s.powered = false ∨ (s.line p).breakNow = true
  · exact ⟨next_idle h, next_idle h, next_idle h⟩
  · simp only [not_or, Bool.not_eq_false, Bool.not_eq_true] at h
    exact noFrame h.1 h.2 hl hw b stop

/-! ## Within a frame -/

section Frames

variable (l : LineIf) (stop : Bool)

/-- A missing stop bit is counted discarded (R192). -/
theorem countStop_eq : l.countStop stop = { l with counters := if stop then l.counters else
    { l.counters with discarded := min (l.counters.discarded + 1) 65535 } } := by
  rw [LineIf.countStop, LineIf.countDiscarded, tally_eq]
  cases stop <;> rfl

theorem abandonShort_eq : l.abandonShort stop = { l with
    receiver := .waiting
    counters := if stop then { l.counters with shortLength := min (l.counters.shortLength + 1) 65535 } else
      { l.counters with
        shortLength := min (l.counters.shortLength + 1) 65535
        discarded := min (l.counters.discarded + 1) 65535 } } := by
  rw [LineIf.abandonShort, LineIf.countShort, tally_eq, countStop_eq]

theorem push_length {f : RxProgress} (h : f.atLast = true) (b : Byte) (now : Word32) :
    (f.push b stop now).length = f.length := by
  simp only [RxProgress.atLast, Bool.and_eq_true, decide_eq_true_iff] at h
  rw [RxProgress.push]
  dsimp only
  rw [if_neg (by omega), if_neg (by omega)]

/-- The end of a frame: garbled, or the frame in the receive buffer, an oversize one counted (R195). -/
theorem endFrame_eq {f : RxProgress} {b : Byte} {now : Word32} (hl : l.receiver = .frame f) (h : f.atLast = true) :
    l.endFrame b stop now =
      if (f.push b stop now).crc ≠ (f.push b stop now).check ∨ f.badStop = true ∨ stop = false then
        ({ l with receiver := .waiting, counters := { l.counters with
            garbled := min (l.counters.garbled + 1) 65535 } } : LineIf).countStop stop
      else { l with
        receiver := .waiting, buffer := some (f.push b stop now).frame
        counters := if f.lMax < f.length + 5 then
          { l.counters with oversize := min (l.counters.oversize + 1) 65535 } else l.counters } := by
  have hgood : (f.push b stop now).good = false ↔
      (f.push b stop now).crc ≠ (f.push b stop now).check ∨ f.badStop = true ∨ stop = false := by
    have hbad : (f.push b stop now).badStop = (f.badStop || !stop) := rfl
    rw [RxProgress.good, hbad, Bool.and_eq_false_iff, beq_eq_false_iff_ne, Bool.not_eq_false', Bool.or_eq_true,
      Bool.not_eq_true']
  have hover : (f.push b stop now).frame.oversize = decide (f.lMax < f.length + 5) := by
    rw [← push_length stop h b now]
    rfl
  rw [LineIf.endFrame, hl]
  dsimp only
  rw [LineIf.judgeFrame, hover]
  by_cases hg : (f.push b stop now).good = false
  · rw [if_pos (hgood.mp hg), if_pos (by simp [hg]), LineIf.countGarbled, tally_eq]
  · have hstop : stop = true := by
      cases stop with
      | true => rfl
      | false => exact absurd (hgood.mpr (.inr (.inr rfl))) hg
    rw [if_neg (mt hgood.mpr hg), if_neg (by simpa using hg), LineIf.countStop, if_pos hstop]
    by_cases ho : f.lMax < f.length + 5
    · rw [if_pos (decide_eq_true ho), if_pos ho, LineIf.countOversize, tally_eq]
    · rw [if_neg (by simpa using ho), if_neg ho]

end Frames

section Reception

variable {s : State} {p : Port} (hp : s.powered = true) (hb : (s.line p).breakNow = false)
include hp hb

/-- A byte, a short length and a frame's end, while the frame stands (R193 to R195). -/
theorem withinFrame {f : RxProgress} (hr : (s.line p).receiver = .frame f) (hn : (s.timeBase - f.last).toNat < 3)
    (b : Byte) (stop : Bool) :
    exec (.frameByteReceived p b stop) s = .next
      (if f.atLast then s
      else if f.shortBy b then s.setLine p ((s.line p).abandonShort stop)
      else s.setLine p (({ s.line p with receiver := .frame (f.push b stop s.timeBase) } : LineIf).countStop stop)) ∧
    exec (.shortLength p b stop) s = .next (if f.shortBy b then s.setLine p ((s.line p).abandonShort stop) else s) ∧
    exec (.frameCheck p b stop) s = .next
      (if f.atLast then s.setLine p ((s.line p).endFrame b stop s.timeBase) else s) := by
  have hl : (s.line p).settled s.timeBase = s.line p := settled_of_fresh (by rw [hr]; rfl) hn
  refine ⟨?_, next_received hp hb hl (by rw [LineIf.shortNow, hr]) fun _ => rfl,
    next_received hp hb hl (by rw [LineIf.endsNow, hr]) fun _ => rfl⟩
  refine (next_unless (c := f.atLast = true) (u := (s.line p).takeByte b stop s.timeBase) hp hb hl
    (by simp [LineIf.takesByte, hr]) fun _ => rfl).trans ?_
  rw [LineIf.takeByte, hr]
  dsimp only
  by_cases hs : f.shortBy b = true
  · rw [if_pos hs, if_pos hs]
  · rw [if_neg hs, if_neg hs]

/-- A byte of an overrun frame (R196). -/
theorem withinOverrun {o : OverrunProgress} (hr : (s.line p).receiver = .overrun o)
    (hn : (s.timeBase - o.last).toNat < 3) (b : Byte) (stop : Bool) :
    exec (.frameByteReceived p b stop) s = .next
      (s.setLine p (({ s.line p with receiver := o.push b s.timeBase } : LineIf).countStop stop)) ∧
    exec (.shortLength p b stop) s = .next s ∧ exec (.frameCheck p b stop) s = .next s := by
  have hl : (s.line p).settled s.timeBase = s.line p := settled_of_fresh (by rw [hr]; rfl) hn
  refine ⟨?_, next_ignored hp hb hl (by rw [LineIf.shortNow, hr]), next_ignored hp hb hl (by rw [LineIf.endsNow, hr])⟩
  refine (next_received (c := True) hp hb hl (by simp [LineIf.takesByte, hr]) fun _ => ?_).trans (by rw [if_pos trivial])
  rw [LineIf.takeByte, hr]

/-- No event between frames takes place while something is received. -/
theorem noMarker {last : Word32} (hr : (s.line p).receiver.last = some last) (hn : (s.timeBase - last).toNat < 3)
    (b : Byte) (stop : Bool) :
    exec (.discardedByte p b stop) s = .next s ∧ exec (.startMarkerReceived p) s = .next s ∧
      exec (.overrun p) s = .next s := by
  have hl : (s.line p).settled s.timeBase = s.line p := settled_of_fresh hr hn
  have hwait : (s.line p).isWaiting = false := by
    unfold LineIf.isWaiting
    cases h : (s.line p).receiver with
    | waiting => simp [h, Receiver.last] at hr
    | _ => rfl
  exact ⟨next_ignored hp hb hl (by simp [hwait]), next_ignored hp hb hl (by simp [hwait]),
    next_ignored hp hb hl (by simp [hwait])⟩

end Reception

theorem receiver_last {r : Receiver} {last : Word32}
    (h : (∃ f, r = .frame f ∧ f.last = last) ∨ ∃ o, r = .overrun o ∧ o.last = last) : r.last = some last := by
  obtain ⟨f, rfl, rfl⟩ | ⟨o, rfl, rfl⟩ := h <;> rfl

/-- Settles O37: by what the receiver holds, and by the silence since the latest byte. -/
theorem bytesWithinFrames : Obligations.BytesWithinFrames := by
  unfold Obligations.BytesWithinFrames
  intro p b stop s hp hb l up late
  refine ⟨fun f hr hn => ?_, fun o hr hn => ?_, fun last hr => ?_⟩
  · obtain ⟨hbyte, hshort, hcheck⟩ := withinFrame hp hb hr hn b stop
    refine ⟨hbyte.trans ?_, hshort.trans ?_, hcheck.trans ?_⟩
    · rw [abandonShort_eq, countStop_eq]
      rfl
    · rw [abandonShort_eq]
      rfl
    · by_cases hat : f.atLast = true
      · rw [if_pos hat, endFrame_eq (s.line p) stop hr hat, countStop_eq]
        refine Eq.trans ?_ (congrArg _ (if_pos hat).symm)
        rw [apply_ite (s.setLine p)]
      · rw [if_neg hat]
        exact congrArg _ (if_neg hat).symm
  · obtain ⟨hbyte, hshort, hcheck⟩ := withinOverrun hp hb hr hn b stop
    refine ⟨hbyte.trans ?_, hshort, hcheck⟩
    rw [countStop_eq]
    rfl
  · have hlast := receiver_last hr
    refine ⟨fun hn => noMarker hp hb hlast hn b stop, fun hn => ?_⟩
    have hl : (s.line p).settled s.timeBase = (s.line p).truncate := settled_of_late hlast hn
    intro cut
    have hcut : (s.line p).truncate = { s.line p with receiver := .waiting, counters := cut } := by
      rw [LineIf.truncate, tally_eq]
    rw [hcut] at hl
    obtain ⟨hbyte, hshort, hcheck⟩ := noFrame hp hb hl rfl b stop
    exact ⟨hbyte, hshort, hcheck, betweenFrames hp hb hl rfl b stop⟩

/-! ## Silences and breaks -/

theorem whenPowered_on {s : State} (f : State → State) (h : s.powered = true) : whenPowered f s = f s := if_pos h

theorem whenPowered_off {s : State} (f : State → State) (h : s.powered = false) : whenPowered f s = s :=
  if_neg (by simp [h])

theorem afterBreak_eq (p : Port) : NoticePhase.afterBreak p = fun ph =>
    if ph = .queued p ∨ ph = .queuedAgain p then .pending else ph :=
  funext fun ph => by
    unfold NoticePhase.afterBreak
    cases ph <;> simp [NoticePhase.holder]

/-- A break empties the line; a silence that has passed is counted first (R194, R201). -/
theorem broken_settled (s : State) (p : Port) : ((s.line p).settled s.timeBase).broken =
    { rate := (s.line p).rate, readyIn := (s.line p).readyIn, breakNow := true, receiver := .waiting, buffer := none,
      queue := [], sending := none
      counters := { (s.line p).counters with
        breaks := min ((s.line p).counters.breaks + 1) 65535, truncated := truncatedNow s p } } := by
  rw [settled_eq, LineIf.broken, LineIf.countBreak, tally_eq]
  by_cases hd : silenceDue s p = true
  · rw [if_pos hd]
    rfl
  · rw [if_neg hd, truncatedNow, if_neg hd]

/-- Settles O38: the silence that ends a frame, the break and its end. -/
theorem silencesAndBreaksAbandonFrames : Obligations.SilencesAndBreaksAbandonFrames := by
  unfold Obligations.SilencesAndBreaksAbandonFrames
  intro p s l up unqueued
  have hsilence : exec (.silence p) s = .next (whenPowered (fun s => match (s.line p).receiver.last with
    | some last => modLineIf p LineIf.truncate (reachTime (last + BitVec.ofNat 32 Config.silenceSeconds) s)
    | none => s) s) := rfl
  refine ⟨fun hp => ⟨fun last hr => ?_, fun hw => ?_, ?_, ?_⟩, fun hp => ⟨?_, ?_, ?_⟩⟩
  · have hlast : (s.line p).receiver.last = some last := receiver_last hr
    rw [hsilence, whenPowered_on _ hp, hlast]
    dsimp only
    rw [Engine.reachTime_eq, modLineIf, LineIf.truncate, tally_eq]
    cases p <;> rfl
  · have hlast : (s.line p).receiver.last = none := congrArg Receiver.last hw
    rw [hsilence, whenPowered_on _ hp, hlast]
  · have hbreak : exec (.lineBreak p) s = .next (whenPowered (fun s =>
        if (s.line p).breakNow then s else modLineIf p LineIf.broken (settleLine p (unqueueNotices p s))) s) := rfl
    rw [hbreak, whenPowered_on _ hp]
    by_cases hb : l.breakNow = true
    · rw [if_pos hb, if_pos hb]
    · rw [if_neg hb, if_neg hb, modLineIf, settleLine, modLineIf, setLine_line_self, setLine_setLine]
      change Host.Outcome.next ((unqueueNotices p s).setLine p ((s.line p).settled s.timeBase).broken) = _
      rw [broken_settled, unqueueNotices, afterBreak_eq]
      rfl
  · exact congrArg _ (whenPowered_on _ hp)
  · exact congrArg _ (whenPowered_off _ hp)
  · exact congrArg _ (whenPowered_off _ hp)
  · exact congrArg _ (whenPowered_off _ hp)

/-! ## Transmission -/

theorem startTransmission_eq (readyIn : Bool) (l : LineIf) : l.startTransmission readyIn = { l with
    readyIn := readyIn
    sending := if l.sending = none ∧ readyIn = true then l.queue.head?.map OutFrame.bytes else l.sending } := by
  unfold LineIf.startTransmission
  cases l.sending with
  | some bytes => simp
  | none =>
    cases l.queue <;> cases readyIn <;> simp

/-- A class at the end of its frame's transmission (R203). -/
def phaseSent (c : NoticeClass) (s : State) : State :=
  { s with notices := { s.notices with classes := modifyAt s.notices.classes c.idx (fun e => { e with
    phase := match e.phase with
      | .queued _ => .idle
      | .queuedAgain _ => .pending
      | ph => ph }) } }

theorem noticeSent_notice (c : NoticeClass) (body : List WireField) (carried : Carried) (s : State) :
    noticeSent (.notice c body carried) s = pageReported c carried (phaseSent c s) := by
  have hphase : NoticePhase.afterTransmission = fun ph => match ph with
      | .queued _ => .idle
      | .queuedAgain _ => .pending
      | ph => ph := funext fun ph => by cases ph <;> rfl
  rw [noticeSent, hphase]
  rfl

/-- The condition is set again while entries remain (R203). -/
theorem again_eq {α : Type} {c : NoticeClass} (left : List α) (s : State) :
    (if left.isEmpty then s else setCondition c s) = if !left.isEmpty then setCondition c s else s := by
  cases left <;> rfl

/-- The retirements that stay once a page is reported (R141). -/
theorem afterReport_eq (ms : List MeterId) (es : List RetireEntry) : es.filterMap (RetireEntry.afterReport ms) =
    (es.filter (fun e => !(ms.contains e.meter && e.sampled))).map
      (fun e => { e with unreported := e.unreported && !ms.contains e.meter }) := by
  rw [← List.filterMap_eq_map, List.filterMap_filter]
  refine congrArg (List.filterMap · es) (funext fun e => ?_)
  unfold RetireEntry.afterReport
  obtain ⟨meter, branch, finalAr, swept, delta, time, unreported, sampled⟩ := e
  by_cases hc : meter ∈ ms <;> cases sampled <;> simp [hc]

/-- Settles O39: the start of a transmission, its end, and what the end of a notice reports. -/
theorem framesAreTransmitted : Obligations.FramesAreTransmitted := by
  unfold Obligations.FramesAreTransmitted
  intro p s hp l
  have hsent : exec (.fullyTransmitted p) s = .next (match l.sending, l.queue with
      | some _, f :: _ => noticeSent f (modLineIf p LineIf.sent s)
      | _, _ => s) := congrArg Host.Outcome.next (whenPowered_on _ hp)
  refine ⟨fun readyIn => ?_, fun hn => ?_, fun f rest hs hq => ?_⟩
  · refine (congrArg Host.Outcome.next (whenPowered_on _ hp)).trans ?_
    rw [modLineIf, startTransmission_eq]
  · rw [hsent, hn]
  · rw [hsent, hq]
    obtain ⟨bytes, hbytes⟩ := Option.isSome_iff_exists.mp hs
    have hline : modLineIf p LineIf.sent s = s.setLine p { l with queue := rest, sending := none } := by
      rw [modLineIf, LineIf.sent, hq]
      rfl
    rw [hbytes]
    dsimp only
    rw [hline]
    refine ⟨fun hf => ?_, fun c body hf => ?_, fun body ms hf => ?_, fun body ps hf => ?_, fun body ms hf => ?_⟩
    · cases f with
      | notice c body carried => exact absurd rfl (hf c body carried)
      | _ => rfl
    all_goals
      subst hf
      rw [noticeSent_notice]
    · cases c <;> rfl
    · cases p <;> exact congrArg _ (again_eq _ _)
    · cases p <;> exact congrArg _ (again_eq _ _)
    · rw [pageReported, afterReport_eq]
      cases p <;> exact congrArg _ (again_eq _ _)

end Sys2Proof.Proofs.Lines

/-!
The statements about the timers and about power.
-/

namespace Sys2Proof.Proofs.Power

open Sys2Proof.Machine Sys2Proof.Proofs.Steps Sys2Proof.Proofs.PoolUnit Sys2Proof.Proofs.Faults
  Sys2Proof.Proofs.Lines Sys2Proof.Proofs.Meters

/-! ## The two timers -/

section Timers

variable (m : MeterId) (s : State)

/-- A meter joins the silent list unless it stands there (R33). -/
theorem joinSilentList_eq {l : List SilentEntry} {now : Word32} (hl : s.silentList = l) (hnow : s.timeBase = now) :
    joinSilentList m s = { s with
      silentList := if ∃ y ∈ l, y.meter = m then l else l ++ [{ meter := m, time := now }] } := by
  subst hl hnow
  have hany : s.silentList.any (fun e => e.meter == m) = true ↔ ∃ y ∈ s.silentList, y.meter = m := by
    simp [List.any_eq_true]
  unfold joinSilentList
  by_cases h : ∃ y ∈ s.silentList, y.meter = m
  · rw [if_pos (hany.mpr h), if_pos h]
  · rw [if_neg (mt hany.mp h), if_neg h]
    rfl

theorem outOfOrder_silentList : (outOfOrder m s).silentList = s.silentList := by
  unfold outOfOrder
  split <;> rfl

theorem outOfOrder_timeBase : (outOfOrder m s).timeBase = s.timeBase := by
  unfold outOfOrder
  split <;> rfl

theorem becomeSilent_eq : becomeSilent m s = setCondition .silent
    { modMeter m (fun r => { r with state := .silent, supervision := none, pendingReq := none }) (outOfOrder m s) with
      silentList := if ∃ y ∈ s.silentList, y.meter = m then s.silentList
        else s.silentList ++ [{ meter := m, time := s.timeBase }] } := by
  rw [becomeSilent, modMeter_dropRequest
    (f' := fun r => { r with state := .silent, supervision := none, pendingReq := none }) fun _ => rfl]
  exact congrArg (setCondition .silent) (joinSilentList_eq m _ (outOfOrder_silentList m s) (outOfOrder_timeBase m s))

end Timers

/-- Settles O46: the two expiries, and what does not expire. -/
theorem timersExpire : Obligations.TimersExpire := by
  unfold Obligations.TimersExpire
  intro n s at_
  have hsupervision : exec (.supervisionExpiry n) s = .next (whenPowered (fun s => match (s.meter n).supervision with
    | some expiry => becomeSilent n (reachTime expiry s)
    | none => s) s) := rfl
  have hholdOff : exec (.holdOffExpiry n) s = .next (whenPowered (fun s => match (s.meter n).holdOff with
    | some expiry => modMeter n (fun r => { r with holdOff := none }) (reachTime expiry s)
    | none => s) s) := rfl
  refine ⟨fun e hp he => ?_, fun e hp he => ?_, fun h => ?_, fun h => ?_⟩
  · rw [hsupervision, whenPowered_on _ hp, he]
    dsimp only
    rw [becomeSilent_eq, Engine.reachTime_eq]
    rfl
  · rw [hholdOff, whenPowered_on _ hp, he]
    dsimp only
    rw [Engine.reachTime_eq]
  · obtain hp | hn := h
    · rw [hsupervision, whenPowered_off _ hp]
    · rw [hsupervision, whenPowered, hn]
      split <;> rfl
  · obtain hp | hn := h
    · rw [hholdOff, whenPowered_off _ hp]
    · rw [hholdOff, whenPowered, hn]
      split <;> rfl

/-! ## Power-on -/

section PowerOn

theorem rate_eq (x : StrapPins) : x.rate =
    if x.second then (if x.first then .r115200 else .r57600) else (if x.first then .r19200 else .r9600) := by
  obtain ⟨first, second⟩ := x
  cases first <;> cases second <;> rfl

/-- A condition set where a test stands. -/
theorem setConditionIf_noticeClass (b : Bool) (c d : NoticeClass) (s : State) :
    (if b then setCondition c s else s).noticeClass d = { s.noticeClass d with
      phase := if d = c ∧ b = true then (s.noticeClass d).phase.afterCondition else (s.noticeClass d).phase } := by
  cases b
  · simp
  · rw [if_pos rfl, setCondition_noticeClass]
    by_cases h : d = c
    · subst h
      simp
    · simp [h]

/-- The conditions that a power-on sets (R160, R172, R175, R203). -/
def announced (s : State) (c : NoticeClass) : Bool :=
  match c with
  | .started => true
  | .fault => s.monitor.state == .lockdown
  | .reorder => s.stock.reorder != []
  | .period => s.periods.held && !s.periods.collected
  | _ => false

theorem announce_eq (completed : Bool) (s : State) : announce completed s =
    let t := setStarted .power completed s
    let u := if s.monitor.state == .lockdown then setCondition .fault t else t
    let v := if s.stock.reorder != [] then setCondition .reorder u else u
    if s.periods.held && !s.periods.collected then setCondition .period v else v := by
  have hfault : (s.monitor.state == .lockdown) = true ↔ s.monitor.state = .lockdown := beq_iff_eq
  unfold announce
  simp only [hfault]
  cases s.stock.reorder <;> rfl

theorem announce_noticeClass (completed : Bool) (s : State) (c : NoticeClass) (h : (s.noticeClass c).phase = .idle) :
    (announce completed s).noticeClass c = { s.noticeClass c with
      phase := if announced s c then .pending else .idle } := by
  rw [announce_eq]
  dsimp only
  rw [setConditionIf_noticeClass, setConditionIf_noticeClass, setConditionIf_noticeClass,
    Engine.setStarted_noticeClass, h]
  cases c <;> simp [announced] <;> rfl

theorem announce_frame (completed : Bool) (s : State) : announce completed s = { s with
    notices := { classes := (announce completed s).notices.classes, cause := .power, completed := completed } } := by
  have hif (b : Bool) (c : NoticeClass) (t : State) : (if b then setCondition c t else t) = { t with
      notices := { t.notices with classes := (if b then setCondition c t else t).notices.classes } } := by
    cases b <;> rfl
  rw [announce_eq]
  dsimp only
  rw [hif, hif (s.stock.reorder != []), hif (s.monitor.state == .lockdown)]
  rfl

/-- The state restored at a power-on, before the conditions are set. -/
def restored (straps : Straps) (s : State) : State :=
  let up := { clearReports (startLines straps.operations.rate straps.audit.rate s) with powered := true }
  if restartCompletes s then clearPaceAndHoldOff (restoreBlocks up) else restoreBlocks up

theorem powerOn_eq (straps : Straps) (s : State) :
    powerOn straps s = announce (restartCompletes s) (restored straps s) := rfl

theorem restored_meter (straps : Straps) (s : State) (n : MeterId) : (restored straps s).meter n = { s.meter n with
    pendingReq := none
    grant := (s.meter n).grant.map (fun g => { g with phase := .doubtful })
    state := if (s.meter n).state = .draining then .awaitingReading else (s.meter n).state
    holdOff := if restartCompletes s then none else (s.meter n).holdOff } := by
  have hm : (mapAll Meter.poweredOn s.meters).get n = (s.meter n).poweredOn := mapAll_get ..
  unfold restored
  cases restartCompletes s
  · exact hm
  · refine (mapAll_get (fun r : Meter => { r with holdOff := none }) (mapAll Meter.poweredOn s.meters) n).trans ?_
    rw [hm]
    rfl

theorem restored_branch (straps : Straps) (s : State) (b : BranchId) : (restored straps s).branch b = { s.branch b with
    order := [], pace := if restartCompletes s then 0 else (s.branch b).pace } := by
  have hb : (mapAll (fun b : Branch => { b with order := [] }) s.branches).get b = { s.branch b with order := [] } :=
    mapAll_get ..
  unfold restored
  cases restartCompletes s
  · exact hb
  · refine (mapAll_get (fun b : Branch => { b with pace := 0 })
      (mapAll (fun b : Branch => { b with order := [] }) s.branches) b).trans ?_
    rw [hb]
    rfl

theorem restored_noticeClass (straps : Straps) (s : State) (c : NoticeClass) :
    (restored straps s).noticeClass c = { s.noticeClass c with phase := .idle } := by
  have hc : (mapAll (fun e : NoticeEntry => { e with phase := .idle }) s.notices.classes).get c.idx =
      { s.noticeClass c with phase := .idle } := mapAll_get ..
  unfold restored
  cases restartCompletes s <;> exact hc

/-- A Line Interface as a power-on starts it (R192, R196, R202). -/
def startedLine (x : StrapPins) (l : LineIf) : LineIf :=
  { rate := if x.second then (if x.first then .r115200 else .r57600) else (if x.first then .r19200 else .r9600)
    readyIn := l.readyIn, breakNow := false, receiver := .waiting, buffer := none, queue := [], sending := none
    counters := { discarded := 0, shortLength := 0, truncated := 0, garbled := 0, oversize := 0, overruns := 0,
                  breaks := 0 } }

theorem started_eq (x : StrapPins) (l : LineIf) : LineIf.started x.rate l.readyIn = startedLine x l := by
  rw [LineIf.started, rate_eq]
  rfl

theorem restored_frame (straps : Straps) (s : State) : restored straps s = { s with
    powered := true
    operations := startedLine straps.operations s.operations
    audit := startedLine straps.audit s.audit
    silentList := []
    retireList := []
    meters := (restored straps s).meters
    branches := (restored straps s).branches
    arbiter := { high := 0, low := 0, holder := none, counter := 0 }
    engine := { s.engine with
      slots := Vector.replicate 8 none
      state := if s.monitor.state = .inService then .active else .stopped }
    list := { s.list with
      state := if s.list.state = .running ∨ s.list.state = .halting then .halted else s.list.state }
    notices := { s.notices with classes := (restored straps s).notices.classes } } := by
  rw [← started_eq, ← started_eq]
  unfold restored
  cases restartCompletes s <;> rfl

end PowerOn

/-- Settles O47: the state restored, field by field, and the conditions set on it. -/
theorem powerOnKeepsRetainedState : Obligations.PowerOnKeepsRetainedState := by
  unfold Obligations.PowerOnKeepsRetainedState
  intro straps s completes rate line set
  have hframe := announce_frame (restartCompletes s) (restored straps s)
  have hmeters : (powerOn straps s).meters = (restored straps s).meters := (congrArg State.meters hframe :)
  have hbranches : (powerOn straps s).branches = (restored straps s).branches := (congrArg State.branches hframe :)
  refine ⟨powerOn straps s, rfl, fun n => ?_, fun b => ?_, fun c => ?_, ?_⟩
  · rw [meter_congr hmeters, restored_meter]
    rfl
  · rw [branch_congr hbranches, restored_branch]
    rfl
  · have hset : announced (restored straps s) c = set c := by
      have hr := restored_frame straps s
      have hmonitor : (restored straps s).monitor = s.monitor := (congrArg State.monitor hr :)
      have hstock : (restored straps s).stock = s.stock := (congrArg State.stock hr :)
      have hperiods : (restored straps s).periods = s.periods := (congrArg State.periods hr :)
      calc announced (restored straps s) c = announced s c := by
            unfold announced
            rw [hmonitor, hstock, hperiods]
        _ = set c := by cases c <;> rfl
    rw [powerOn_eq, announce_noticeClass _ _ _ (by rw [restored_noticeClass]), hset, restored_noticeClass]
  · rw [hmeters, hbranches]
    refine hframe.trans ?_
    rw [powerOn_eq]
    generalize (announce (restartCompletes s) (restored straps s)).notices.classes = classes
    rw [restored_frame straps s]
    rfl

/-! ## Loss of power and of retention -/

theorem replicate_get {α : Type} {n : Nat} (a : α) (i : Fin n) : (Vector.replicate n a).get i = a := by
  simp [get_eq_getElem]

/-- Settles O48: what a loss of power clears, and every field after a loss of retention. -/
theorem powerLossAndRetentionLoss : Obligations.PowerLossAndRetentionLoss := by
  unfold Obligations.PowerLossAndRetentionLoss
  refine ⟨fun s => ⟨fun hp => ?_, fun hp => ?_⟩, fun straps s => ?_⟩
  · exact congrArg Host.Outcome.next (whenPowered_off _ hp)
  · refine ⟨_, congrArg Host.Outcome.next (whenPowered_on _ hp), fun p => ?_, fun c => mapAll_get .., rfl⟩
    cases p <;> rfl
  · intro rate line emptied
    have hbank : emptied (Bank.opened 0) := ⟨fun b => replicate_get BranchBank.zero b, rfl⟩
    refine ⟨_, rfl, fun n => replicate_get Meter.lost n, fun b => replicate_get Branch.lost b, fun x => ?_,
      fun k => replicate_get none k, fun b l => ?_, hbank, hbank, fun c => ?_, ?_⟩
    · exact (by decide : ∀ x : Urgency, defaultUrgencyMap.get x = if 6 ≤ x.val then .high else .low) x
    · change ((Vector.replicate 48 (Vector.replicate 12 StockLine.lost)).get b).get l = _
      rw [replicate_get, replicate_get]
      rfl
    · cases c <;> rfl
    · have hline (x : StrapPins) (readyIn : Bool) : LineIf.started x.rate readyIn = line x readyIn := by
        rw [LineIf.started, rate_eq]
        rfl
      rw [← hline, ← hline]
      rfl

end Sys2Proof.Proofs.Power

/-!
The statements about the messages that carry a meter's registers: status reports and outcome messages.
-/

namespace Sys2Proof.Proofs.Readings

open Sys2Proof.Machine Sys2Proof.Proofs.Steps Sys2Proof.Proofs.PoolUnit Sys2Proof.Proofs.Queries

/-! ## The meter of a message, and tests side by side -/

theorem meterOf_of_eq {b : Byte} {n : MeterId} (h : b.toNat = n.val) : meterOf b = some n := by
  have hn : b.toNat < 192 := by omega
  rw [meterOf_of_lt hn]
  exact congrArg some (Fin.ext h)

theorem meterOf_of_le {b : Byte} (h : 192 ≤ b.toNat) : meterOf b = none :=
  meterOf_of_not_lt (Nat.not_lt.mpr h)

/-- One test within a function against the same test of a statement. -/
theorem map_ite {α β : Type} (f : α → β) {c : Prop} [Decidable c] {a b : α} {x y : β} (ha : f a = x)
    (hb : f b = y) : f (if c then a else b) = if c then x else y := by
  rw [apply_ite f, ha, hb]

/-! ## What the registers show -/

section Registers

variable {α : Type} (r : Meter) (amount : Nat) (rd : Report)

theorem showsApplied_iff : showsApplied r amount rd = true ↔ rd.total = r.ct + amount ∧ rd.total < 2 ^ 48 := by
  have hmax : Config.maxFigure = 2 ^ 48 - 1 := rfl
  rw [showsApplied, Bool.and_eq_true, decide_eq_true_iff, decide_eq_true_iff, hmax]
  omega

/-- What follows each verdict (R93). -/
def following (regress notApplied applied mismatch : α) : Verdict → α
  | .regress => regress
  | .notApplied => notApplied
  | .applied => applied
  | .mismatch => mismatch

theorem following_judgeOutcome (w x y z : α) : following w x y z (judgeOutcome r amount rd) =
    if rd.ar < r.arMirror then w
    else if rd.total = r.ct then x
    else if rd.total = r.ct + amount ∧ rd.total < 2 ^ 48 then y
    else z := by
  simp only [judgeOutcome, showsApplied_iff]
  rw [apply_ite (following w x y z), apply_ite (following w x y z), apply_ite (following w x y z)]
  rfl

theorem following_judgeOffered (w x y z : α) : following w x y z (judgeOffered r amount rd) =
    if rd.ar < r.arMirror then w
    else if rd.total = r.ct + amount ∧ rd.total < 2 ^ 48 then y
    else if rd.total = r.ct then x
    else z := by
  simp only [judgeOffered, showsApplied_iff]
  rw [apply_ite (following w x y z), apply_ite (following w x y z), apply_ite (following w x y z)]
  rfl

end Registers

/-! ## Status reports -/

section Status

variable (n : MeterId) (g : Grant) (claim : Claim) (rd : Report) (s : State)

/-- A consistent report that leaves a state. -/
def consistentWith (u : State) : Judged :=
  { result := .consistent, found := none, raised := none, state := u }

theorem statusWhileOffered_eq : statusWhileOffered n g rd s =
    following (inconsistentReading .registerRegress n rd s) (consistentReading n rd s)
      (consistentWith (confirmGrant n g .none rd s)) (inconsistentReading .totalMismatch n rd s)
      (judgeOffered (s.meter n) g.amount rd) := by
  unfold statusWhileOffered
  cases judgeOffered (s.meter n) g.amount rd <;> rfl

theorem statusWhileDoubtful_eq : statusWhileDoubtful n g rd s =
    following (inconsistentReading .registerRegress n rd s) (consistentWith (releaseGrant n g .none (some rd) s))
      (consistentWith (confirmGrant n g .none rd s)) (inconsistentReading .totalMismatch n rd s)
      (judgeOutcome (s.meter n) g.amount rd) := by
  unfold statusWhileDoubtful
  cases judgeOutcome (s.meter n) g.amount rd <;> rfl

theorem statusReport_of_none (h : (s.meter n).grant = none) : statusReport n rd s =
    if rd.ar < (s.meter n).arMirror then inconsistentReading .registerRegress n rd s
    else if rd.total = (s.meter n).ct then consistentWith (acceptReading n rd s)
    else inconsistentReading .totalMismatch n rd s := by
  rw [statusReport, h]
  rfl

/-- The tests of R103 and R104 in one order. -/
theorem statusReport_of_some (h : (s.meter n).grant = some g) : statusReport n rd s =
    if rd.ar < (s.meter n).arMirror then inconsistentReading .registerRegress n rd s
    else if rd.total = (s.meter n).ct + g.amount ∧ rd.total < 2 ^ 48 ∧
        (rd.total = (s.meter n).ct → g.isOffered = true) then
      consistentWith (confirmGrant n g .none rd s)
    else if rd.total = (s.meter n).ct then
      if g.isOffered then consistentWith (acceptReading n rd s)
      else consistentWith (releaseGrant n g .none (some rd) s)
    else inconsistentReading .totalMismatch n rd s := by
  rw [statusReport, h]
  dsimp only
  rw [statusWhileOffered_eq, statusWhileDoubtful_eq, following_judgeOffered, following_judgeOutcome]
  cases g.isOffered with
  | true => simp; rfl
  | false =>
    by_cases ht : rd.total = (s.meter n).ct <;> simp [ht]

end Status

/-- An inconsistent reading kept, and the fault handed over (R40). -/
theorem inconsistentReading_state (k : FaultKind) (n : MeterId) (rd : Report) (s : State) :
    (inconsistentReading k n rd s).state = handFault
      { kind := k, time := s.timeBase, ct := (s.meter n).ct, meter := some n
        serial := (s.meter n).grant.elim 0 Grant.serial, amount := (s.meter n).grant.elim 0 Grant.amount
        grantValid := (s.meter n).grant.isSome, reading := some { ar := rd.ar, dr := rd.dr } }
      (modMeter n (fun x => { x with rejected := some { ar := rd.ar, dr := rd.dr } }) s) := by
  have hfault (g : Option Grant) : readingFault k n (s.meter n).ct rd g s =
      { kind := k, time := s.timeBase, ct := (s.meter n).ct, meter := some n
        serial := g.elim 0 Grant.serial, amount := g.elim 0 Grant.amount
        grantValid := g.isSome, reading := some { ar := rd.ar, dr := rd.dr } } := by
    cases g <;> rfl
  rw [inconsistentReading, hfault]
  rfl

/-- The reply of an inconsistent report (R40). -/
theorem reply_inconsistent (kind tag : Byte) (k : FaultKind) (n : MeterId) (rd : Report) (s : State) :
    reply .operations kind tag
      (answerOk (statusBody n (inconsistentReading k n rd s)) (inconsistentReading k n rd s).state) =
      let u := handFault
        { kind := k, time := s.timeBase, ct := (s.meter n).ct, meter := some n
          serial := (s.meter n).grant.elim 0 Grant.serial, amount := (s.meter n).grant.elim 0 Grant.amount
          grantValid := (s.meter n).grant.isSome, reading := some { ar := rd.ar, dr := rd.dr } }
        (modMeter n (fun x => { x with rejected := some { ar := rd.ar, dr := rd.dr } }) s)
      replied .operations kind tag .ok
        [.u8 2, .u8 k.code, .u8 (u.meter n).state.code, .u48 (u.meter n).ct, .u48 (u.meter n).arMirror,
         .u48 (u.meter n).drMirror] u := by
  dsimp only
  rw [← inconsistentReading_state]
  rfl

/-- Settles O14: the refusals, and the report judged by the grant that the meter holds. -/
theorem statusReportsAreJudged : Obligations.StatusReportsAreJudged := by
  unfold Obligations.StatusReportsAreJudged
  intro tag m s t ht hs refused
  have hnext {u : State} (h : reply .operations Kind.meterStatus.code tag (answerMeterStatus m t) = u) :=
    next_answer answerMeterStatus ht rfl (fun h => absurd h hs) (fun _ => rfl) h
  refine ⟨fun h => hnext ?_, fun n hn => ?_⟩
  · rw [answerMeterStatus, meterOf_of_le h]
    rfl
  · intro r rd total consistent inconsistent
    refine ⟨fun hr => hnext ?_, fun hr => hnext ?_⟩
    · rw [answerMeterStatus, meterOf_of_eq hn]
      dsimp only
      rw [statusOn]
      obtain h | h := hr <;> rw [h] <;> rfl
    · have hstatus : statusOn n rd t = answerOk (statusBody n (statusReport n rd t)) (statusReport n rd t).state := by
        rw [statusOn]
        obtain h | h | h | h := hr <;> rw [h]
      let told (j : Judged) : State := reply .operations Kind.meterStatus.code tag (answerOk (statusBody n j) j.state)
      have hinconsistent (k : FaultKind) : told (inconsistentReading k n rd t) = inconsistent k :=
        reply_inconsistent _ _ k n rd t
      rw [answerMeterStatus, meterOf_of_eq hn]
      change reply .operations Kind.meterStatus.code tag (statusOn n rd t) = _
      rw [hstatus]
      change told (statusReport n rd t) = _
      cases hg : (t.meter n).grant with
      | none =>
        rw [statusReport_of_none n rd t hg]
        exact map_ite told (hinconsistent _) (map_ite told rfl (hinconsistent _))
      | some g =>
        rw [statusReport_of_some n g rd t hg]
        exact map_ite told (hinconsistent _) (map_ite told rfl (map_ite told (map_ite told rfl rfl) (hinconsistent _)))

/-! ## Outcome messages in service -/

section Outcomes

variable (n : MeterId) (g : Grant) (claim : Claim) (rd : Report) (s : State)

theorem disagrees_reversed (h : claim ≠ .none) : claim.disagrees .reversed = (claim == .applied) := by
  cases claim with
  | none => exact absurd rfl h
  | applied => rfl
  | rejected reason => rfl

theorem disagrees_applied (h : claim ≠ .none) : claim.disagrees .applied = (claim != .applied) := by
  cases claim with
  | none => exact absurd rfl h
  | applied => rfl
  | rejected reason => rfl

theorem namesGrant_of_named {r : Meter} {serial : Word16} (hg : r.grant = some g) (hs : g.serial = serial) :
    namesGrant r serial = some g := by
  rw [namesGrant, hg]
  exact Option.filter_some_pos (by simp [hs])

theorem namesGrant_of_unnamed {r : Meter} {serial : Word16} (h : ∀ g, r.grant = some g → g.serial ≠ serial) :
    namesGrant r serial = none := by
  rw [namesGrant]
  cases hg : r.grant with
  | none => rfl
  | some g => exact Option.filter_some_neg (by simp [h g hg])

theorem outcomeNamed_eq : outcomeNamed n g claim rd s =
    if rd.ar < (s.meter n).arMirror then outcomeInconsistent .registerRegress n g rd s
    else if rd.total = (s.meter n).ct then
      compareClaim n g claim .reversed rd (s.meter n).ct (releaseGrant n g claim (some rd) s)
    else if rd.total = (s.meter n).ct + g.amount ∧ rd.total < 2 ^ 48 then
      compareClaim n g claim .applied rd (s.meter n).ct (confirmGrant n g claim rd s)
    else outcomeInconsistent .totalMismatch n g rd s := by
  rw [← following_judgeOutcome]
  unfold outcomeNamed
  cases judgeOutcome (s.meter n) g.amount rd <;> rfl

theorem freeGrantSlot_modMeter (f : Meter → Meter) :
    freeGrantSlot g (modMeter n f s) = modMeter n f (freeGrantSlot g s) := by
  unfold freeGrantSlot
  cases g.phase <;> rfl

/-- A grant that stays unresolved and becomes DOUBTFUL, with the reading kept (R96). -/
def leftDoubtful : State :=
  modMeter n (fun x => { x with
      grant := some { g with phase := .doubtful }, rejected := some { ar := rd.ar, dr := rd.dr }
      state := if x.state = .draining then .awaitingReading else x.state })
    (freeGrantSlot g s)

/-- The restart that the freed slot may complete (R105). -/
def afterDoubtful : State :=
  if g.isOffered = true ∧ (leftDoubtful n g rd s).engine.state = .quiescing ∧ occupiedSlots (leftDoubtful n g rd s) = 0
  then restartTakesEffect (leftDoubtful n g rd s) else leftDoubtful n g rd s

theorem afterSlotFreed_eq : afterSlotFreed g s =
    if g.isOffered = true ∧ s.engine.state = .quiescing ∧ occupiedSlots s = 0 then restartTakesEffect s else s := by
  unfold afterSlotFreed settleRestart
  by_cases h : g.isOffered = true <;> simp [h]

theorem doubtful_eq :
    afterSlotFreed g (leaveDraining n (rejectReading n rd (makeDoubtful n g s))) = afterDoubtful n g rd s := by
  have hleft : leaveDraining n (rejectReading n rd (makeDoubtful n g s)) = leftDoubtful n g rd s := by
    rw [leaveDraining, rejectReading, makeDoubtful, freeGrantSlot_modMeter, modMeter_modMeter, modMeter_modMeter]
    rfl
  rw [afterSlotFreed_eq, hleft]
  rfl

theorem raisedKind_eq {k : FaultKind} (h : k.inconsistency = true) :
    raisedKind s k = if s.monitor.state = .lockdown then none else some k := by
  simp [raisedKind, suppressed, h]

/-- The reply of an outcome message (R100). -/
theorem reply_outcome (kind tag : Byte) (o : OutcomeAnswer) :
    reply .operations kind tag (answerOk (outcomeBody n o) o.state) = replied .operations kind tag .ok
      ([.u8 o.result.code, flag o.unknownSerial, flag o.claimMismatch, .u8 (o.raised.elim 0 FaultKind.code),
        .u8 (o.state.meter n).state.code, .u48 (o.state.meter n).ct, .u48 (o.state.meter n).arMirror,
        .u48 (o.state.meter n).drMirror] ++
        match (o.state.meter n).grant with
        | none => [.u8 0]
        | some g => [.u8 1, .u8 g.phase.code]) o.state := by
  unfold outcomeBody Machine.optional
  cases (o.state.meter n).grant <;> rfl

end Outcomes

/-- Settles O20: one argument for the two messages; the serial names the grant or does not. -/
theorem outcomesFollowTheRegisters : Obligations.OutcomesFollowTheRegisters := by
  unfold Obligations.OutcomesFollowTheRegisters
  intro judged
  have hjudged {c : Instr} {kind tag : Byte} {bytes : List Byte} {claim : Claim} {meter : Byte} {serial : Word16}
      {rd : Report} (owner : State → Answer) (hclaim : claim ≠ .none)
      (hexec : ∀ s t, Taken .operations kind tag bytes s t → t.monitor.state ≠ .uncommissioned →
        ∀ u, reply .operations kind tag (owner t) = u → exec c s = .next u)
      (hnone : ∀ t, meterOf meter = none → owner t = refuse .outOfRange t)
      (hsome : ∀ t n, meterOf meter = some n → owner t = outcomeOn n serial claim rd t) :
      judged c kind tag bytes claim meter serial rd := by
    intro s t ht hs refused
    have hnext := hexec s t ht hs
    refine ⟨fun h => hnext _ ?_, fun n hn => ?_⟩
    · rw [hnone t (meterOf_of_le h)]
      rfl
    · intro r total answer shown fault
      have howner := hsome t n (meterOf_of_eq hn)
      refine ⟨fun hr => hnext _ ?_, fun hr => ?_⟩
      · rw [howner, outcomeOn]
        obtain h | h := hr <;> rw [h] <;> rfl
      · have hservice : owner t = outcomeInService n serial claim rd t := by
          rw [howner, outcomeOn]
          obtain h | h | h | h := hr <;> rw [h]
        let told (o : OutcomeAnswer) : State := reply .operations kind tag (answerOk (outcomeBody n o) o.state)
        have htold (o : OutcomeAnswer) :
            told o = answer o.result.code o.unknownSerial o.claimMismatch o.raised o.state :=
          reply_outcome n kind tag o
        refine ⟨fun g hg hserial => hnext _ ?_, fun hunnamed => hnext _ ?_⟩
        · let w := afterDoubtful n g rd t
          have hunresolved (k : FaultKind) (hk : k.inconsistency = true) : told (outcomeInconsistent k n g rd t) =
              answer 5 false false (shown k w) (handFault (fault k g.serial g.amount r.ct true w) w) := by
            rw [htold, outcomeInconsistent, doubtful_eq]
            dsimp only
            rw [raisedKind_eq _ hk]
            rfl
          have hresolved (x : GrantResult) (w : State) : told (compareClaim n g claim x rd r.ct w) =
              if claim.disagrees x then
                answer x.asResult.code false true (shown .claimMismatch w)
                  (handFault (fault .claimMismatch g.serial g.amount r.ct true w) w)
              else answer x.asResult.code false false none w := by
            rw [htold, compareClaim]
            cases claim.disagrees x with
            | false => rfl
            | true =>
              rw [if_pos rfl, raisedKind_eq _ rfl]
              rfl
          rw [hservice, outcomeInService, namesGrant_of_named g hg hserial]
          change told (outcomeNamed n g claim rd t) = _
          rw [outcomeNamed_eq]
          refine map_ite told (hunresolved _ rfl) (map_ite told ?_ (map_ite told ?_ (hunresolved _ rfl)))
          · rw [hresolved, disagrees_reversed _ hclaim]
            rfl
          · rw [hresolved, disagrees_applied _ hclaim]
            rfl
        · rw [hservice, outcomeInService, namesGrant_of_unnamed hunnamed]
          exact htold (outcomeUnknown n serial rd t)
  refine ⟨fun tag m => ?_, fun tag m => ?_⟩
  · refine hjudged (answerGrantApplied m) (by decide)
      (fun s t ht hs u h => next_answer answerGrantApplied ht rfl (fun h => absurd h hs) (fun _ => rfl) h)
      (fun t h => ?_) fun t n h => ?_
    · rw [answerGrantApplied, h]
    · rw [answerGrantApplied, h]
  · refine hjudged (answerGrantRejected m) (fun h => by cases h)
      (fun s t ht hs u h => next_answer answerGrantRejected ht rfl (fun h => absurd h hs) (fun _ => rfl) h)
      (fun t h => ?_) fun t n h => ?_
    · rw [answerGrantRejected, h]
    · rw [answerGrantRejected, h]

end Sys2Proof.Proofs.Readings

/-!
The statements about final readings, retirements and resumption.
-/

namespace Sys2Proof.Proofs.Retirement

open Sys2Proof.Machine Sys2Proof.Proofs.Steps Sys2Proof.Proofs.PoolUnit Sys2Proof.Proofs.Queries
  Sys2Proof.Proofs.Stock Sys2Proof.Proofs.Readings

/-! ## The adjustment and the sweep -/

section Adjustment

variable (n : MeterId) (delta : Int) (total : Nat) (s : State)

theorem poolAdjust_bankAdjustment_eq : poolAdjust delta (bankAdjustment delta s) = recheckPool { s with
    pool := { s.pool with
      p := min (s.pool.p - delta.toNat + (-delta).toNat) (2 ^ 48 - 1)
      i := min (s.pool.i + delta.toNat) (2 ^ 48 - 1) - (-delta).toNat }
    periods := { s.periods with current := { s.periods.current with
      adjustments := max (-2 ^ 47) (min (2 ^ 47 - 1) (s.periods.current.adjustments + delta))
      saturated := s.periods.current.saturated ||
        decide (2 ^ 47 - 1 < s.periods.current.adjustments + delta ∨
          s.periods.current.adjustments + delta < -2 ^ 47 ∨ s.pool.p < delta.toNat ∨
          2 ^ 48 - 1 < s.pool.p + (-delta).toNat ∨ s.pool.i < (-delta).toNat ∨
          2 ^ 48 - 1 < s.pool.i + delta.toNat) } } } := by
  refine congrArg recheckPool ?_
  have hhit : ((s.periods.current.saturated || passesSigned s.periods.current.adjustments delta) ||
      (figureHeld s.pool.p (-delta).toNat delta.toNat || figureHeld s.pool.i delta.toNat (-delta).toNat)) =
      (s.periods.current.saturated ||
        decide (2 ^ 47 - 1 < s.periods.current.adjustments + delta ∨
          s.periods.current.adjustments + delta < -2 ^ 47 ∨ s.pool.p < delta.toNat ∨
          2 ^ 48 - 1 < s.pool.p + (-delta).toNat ∨ s.pool.i < (-delta).toNat ∨
          2 ^ 48 - 1 < s.pool.i + delta.toNat)) := by
    rw [Bool.eq_iff_iff]
    simp only [Bool.or_eq_true, decide_eq_true_iff, Periods.passesSigned_iff, figureHeld, Periods.passes_iff, maxFigure_eq]
    tauto
  rw [← hhit, ← raiseSigned_eq, ← raiseFigure_eq, ← raiseFigure_eq]
  rfl

theorem poolSweep_bankSweep_eq (x : Nat) : poolSweep x (bankSweep x s) = recheckPool { s with
    pool := { s.pool with p := min (s.pool.p + x) (2 ^ 48 - 1), r := min (s.pool.r + x) (2 ^ 48 - 1) }
    periods := { s.periods with current := { s.periods.current with
      sweeps := min (s.periods.current.sweeps + x) (2 ^ 48 - 1)
      saturated := s.periods.current.saturated ||
        decide (2 ^ 48 - 1 < s.periods.current.sweeps + x ∨ 2 ^ 48 - 1 < s.pool.p + x ∨
          2 ^ 48 - 1 < s.pool.r + x) } } } := by
  refine congrArg recheckPool ?_
  have hhit : ((s.periods.current.saturated || passes Config.maxFigure s.periods.current.sweeps x) ||
      (figureHeld s.pool.p x 0 || figureHeld s.pool.r x 0)) = (s.periods.current.saturated ||
        decide (2 ^ 48 - 1 < s.periods.current.sweeps + x ∨ 2 ^ 48 - 1 < s.pool.p + x ∨
          2 ^ 48 - 1 < s.pool.r + x)) := by
    rw [figureHeld_rise, figureHeld_rise, passes, maxFigure_eq, Bool.or_assoc, Bool.decide_or, Bool.decide_or]
  rw [← hhit, ← raiseFigure_eq, ← raiseFigure_eq, ← raiseFigure_eq]
  rfl

/-- The entry of a retirement, with the mark of one that replaces an entry (R141). -/
def entryReported : RetireEntry :=
  { meter := n, branch := (s.meter n).branch, finalAr := (s.meter n).arMirror, swept := (s.meter n).drMirror
    delta := delta, time := s.timeBase, unreported := s.retireList.any (fun y => y.meter == n), sampled := false }

theorem reportRetirement_eq {u : State} (h : u.retireList = s.retireList) :
    reportRetirement (retireEntry n delta s) u = { u with
      retireList := if (entryReported n delta s).unreported then
          s.retireList.map (fun y => if y.meter = n then entryReported n delta s else y)
        else s.retireList ++ [entryReported n delta s] } := by
  have hmark : (retireEntry n delta s).meter = n := rfl
  rw [reportRetirement, h, hmark]
  cases hany : s.retireList.any (fun y => y.meter == n) <;>
    simp only [entryReported, hany, if_true, Bool.false_eq_true, if_false] <;> rfl

/-- The sweep, RETIRED and the report (R136, R141). -/
theorem completeRetirement_eq : completeRetirement n delta s = setCondition .retire
    (modMeter n (fun y => { y with state := .retired })
      { poolSweep (s.meter n).drMirror (bankSweep (s.meter n).drMirror s) with
        retireList := if (entryReported n delta s).unreported then
            s.retireList.map (fun y => if y.meter = n then entryReported n delta s else y)
          else s.retireList ++ [entryReported n delta s] }) := by
  rw [completeRetirement]
  dsimp only
  rw [reportRetirement_eq (h := by simp [bankSweep])]
  rfl

theorem adjustMeter_eq : adjustMeter n delta total s = if delta = 0 then s
    else modMeter n (fun r => { r with credited := r.credited + delta, ct := total })
      (poolAdjust delta (bankAdjustment delta s)) := rfl

/-- The two conditions of R13. -/
theorem adjustmentCovered_iff (back : Nat) : (!adjustmentCovered s back delta) = true ↔
    (0 < delta ∧ ((s.pool.p + back : Nat) : Int) < delta) ∨ (delta < 0 ∧ (s.pool.i : Int) < -delta) := by
  simp [adjustmentCovered]

end Adjustment

/-! ## Final readings -/

section Final

variable (n : MeterId) (g : Grant) (claim : Claim) (rd : Report) (s : State)

theorem finalReading_of_none (h : (s.meter n).grant = none) : finalReading n claim rd s =
    if rd.ar < (s.meter n).arMirror then finalInconsistent .registerRegress n rd s
    else if rd.total = (s.meter n).ct then finalConsistent n .none 0 (acceptReading n rd s)
    else finalInconsistent .finalMismatch n rd s := by
  rw [finalReading, h]
  rfl

theorem finalReading_of_some (h : (s.meter n).grant = some g) : finalReading n claim rd s =
    if rd.ar < (s.meter n).arMirror then finalInconsistent .registerRegress n rd s
    else if rd.total = (s.meter n).ct then finalConsistent n .reversed 0 (releaseGrant n g claim (some rd) s)
    else if rd.total = (s.meter n).ct + g.amount ∧ rd.total < 2 ^ 48 then
      finalConsistent n .applied 0 (confirmGrant n g claim rd s)
    else finalInconsistent .finalMismatch n rd s := by
  rw [finalReading, h, ← following_judgeOutcome]
  dsimp only
  unfold finalWithGrant
  cases judgeOutcome (s.meter n) g.amount rd <;> rfl

/-- A final reading that halts the retirement (R137). -/
theorem finalInconsistent_eq {k : FaultKind} (hk : k.inconsistency = true) : finalInconsistent k n rd s =
    { retired := false
      raised := if s.monitor.state = .lockdown then none else some k
      grantResult := if (s.meter n).grant.isSome then .unresolved else .none
      delta := 0, swept := 0
      state := handFault
        { kind := k, time := s.timeBase, ct := (s.meter n).ct, meter := some n
          serial := (s.meter n).grant.elim 0 Grant.serial, amount := (s.meter n).grant.elim 0 Grant.amount
          grantValid := (s.meter n).grant.isSome, reading := some { ar := rd.ar, dr := rd.dr } }
        (modMeter n (fun x => { x with rejected := some { ar := rd.ar, dr := rd.dr } }) s) } := by
  have hraised : (inconsistentReading k n rd s).raised = raisedKind s k := rfl
  rw [finalInconsistent, inconsistentReading_state, hraised, raisedKind_eq _ hk]

theorem unresolvedCode (x : Option Grant) :
    (if x.isSome then Result.unresolved else .none).code = if x = none then 0 else 5 := by
  cases x <;> rfl

/-- The reply of such a final reading (R140). -/
theorem reply_finalInconsistent (kind tag : Byte) {k : FaultKind} (hk : k.inconsistency = true) :
    reply .operations kind tag (answerOk (finalBody n (finalInconsistent k n rd s)) (finalInconsistent k n rd s).state) =
      let u := handFault
        { kind := k, time := s.timeBase, ct := (s.meter n).ct, meter := some n
          serial := (s.meter n).grant.elim 0 Grant.serial, amount := (s.meter n).grant.elim 0 Grant.amount
          grantValid := (s.meter n).grant.isSome, reading := some { ar := rd.ar, dr := rd.dr } }
        (modMeter n (fun x => { x with rejected := some { ar := rd.ar, dr := rd.dr } }) s)
      replied .operations kind tag .ok
        [.u8 2, .u8 ((if s.monitor.state = .lockdown then none else some k : Option FaultKind).elim 0 FaultKind.code),
         .u8 (if (s.meter n).grant = none then 0 else 5), .s64 0, .u48 0, .u8 (u.meter n).state.code,
         .u48 (u.meter n).ct, .u48 (u.meter n).arMirror, .u48 (u.meter n).drMirror] u := by
  rw [finalInconsistent_eq n rd s hk, ← unresolvedCode]
  rfl

end Final

/-- Settles O23: one argument for the two messages, by the grant that the meter holds. -/
theorem finalReadingsRetireTheMeter : Obligations.FinalReadingsRetireTheMeter := by
  unfold Obligations.FinalReadingsRetireTheMeter
  intro retired judged
  have hretired (n : MeterId) (v : State) : completeRetirement n 0 v = retired n v := by
    rw [completeRetirement_eq, poolSweep_bankSweep_eq]
    rfl
  have hjudged {c : Instr} {kind tag : Byte} {m : ReadingMsg}
      (hexec : ∀ n s t, m.meter.toNat = n.val → Taken .operations kind tag m.bytes s t →
        t.monitor.state ≠ .uncommissioned → (t.meter n).state = .awaitingReading →
        ∀ u, reply .operations kind tag (answerOk (finalBody n (finalReading n .none (reportOf m) t))
          (finalReading n .none (reportOf m) t).state) = u → exec c s = .next u) :
      judged c kind tag m := by
    intro n s t hn ht hs hr
    refine hexec n s t hn ht hs hr _ ?_
    let told (f : Final) : State := reply .operations kind tag (answerOk (finalBody n f) f.state)
    change told (finalReading n .none (reportOf m) t) = _
    have hhalted (k : FaultKind) (hk : k.inconsistency = true) := 
      reply_finalInconsistent n (reportOf m) t kind tag hk
    have hdone (x : Result) (v : State) : told (finalConsistent n x 0 v) = replied .operations kind tag .ok
        [.u8 6, .u8 0, .u8 x.code, .s64 0, .u48 (v.meter n).drMirror, .u8 ((retired n v).meter n).state.code,
         .u48 ((retired n v).meter n).ct, .u48 ((retired n v).meter n).arMirror,
         .u48 ((retired n v).meter n).drMirror] (retired n v) := by
      rw [← hretired]
      rfl
    cases hg : (t.meter n).grant with
    | none =>
      rw [finalReading_of_none n .none (reportOf m) t hg]
      refine map_ite told (hhalted _ rfl) ?_
      rw [hg] at hhalted ⊢
      exact (map_ite told (hdone ..) (hhalted _ rfl))
    | some g =>
      rw [finalReading_of_some n g .none (reportOf m) t hg]
      refine map_ite told (hhalted _ rfl) ?_
      rw [hg] at hhalted ⊢
      exact (map_ite told (hdone ..) (map_ite told (hdone ..) (hhalted _ rfl)))
  refine ⟨fun tag m => hjudged fun n s t hn ht hs hr u h => ?_, fun tag m => hjudged fun n s t hn ht hs hr u h => ?_,
    fun tag m s t ht hs => ⟨fun h => ?_, fun n hn hr => ?_⟩⟩
  · refine next_answer answerMeterStatus ht rfl (fun h => absurd h hs) (fun _ => rfl) ?_
    have howner : answerMeterStatus m t = answerOk (finalBody n (finalReading n .none (reportOf m) t))
        (finalReading n .none (reportOf m) t).state := by
      rw [answerMeterStatus, meterOf_of_eq hn]
      simp only [statusOn, hr]
    rw [howner]
    exact h
  · refine next_answer (p := .operations) answerFinalReading ht rfl (fun h => absurd h hs) (fun _ => rfl) ?_
    have howner : answerFinalReading m t = answerOk (finalBody n (finalReading n .none (reportOf m) t))
        (finalReading n .none (reportOf m) t).state := by
      rw [answerFinalReading, meterOf_of_eq hn]
      simp only [plainFinalOn, hr]
    rw [howner]
    exact h
  · refine next_answer (p := .operations) answerFinalReading ht rfl (fun h => absurd h hs) (fun _ => rfl) ?_
    rw [answerFinalReading, meterOf_of_le h]
    rfl
  · refine next_answer (p := .operations) answerFinalReading ht rfl (fun h => absurd h hs) (fun _ => rfl) ?_
    rw [answerFinalReading, meterOf_of_eq hn]
    dsimp only
    rw [plainFinalOn]
    cases h : (t.meter n).state with
    | awaitingReading => exact absurd h hr
    | _ => rfl

/-! ## Outcome messages as final readings -/

/-- The answer of an outcome message from what its final reading gives, its serial naming the grant (R92, R97). -/
def namedAnswer (n : MeterId) (g : Grant) (claim : Claim) (rd : Report) (ct : Nat) (f : Final) : Answer :=
  if f.resolved.any claim.disagrees then
    answerOk (finalOutcomeBody n { f with
        raised := raisedKind f.state .claimMismatch, state := handFault (claimFault n ct g rd f.state) f.state }
        true false)
      (handFault (claimFault n ct g rd f.state) f.state)
  else answerOk (finalOutcomeBody n f false false) f.state

/-- The answer with a serial that names no grant (R92, R99). -/
def unnamedAnswer (n : MeterId) (serial : Word16) (rd : Report) (f : Final) : Answer :=
  answerOk (finalOutcomeBody n { f with state := handFault (serialFault n serial rd f.state) f.state } false true)
    (handFault (serialFault n serial rd f.state) f.state)

/-- Settles O24: one argument for the two messages; the serial names the grant or does not. -/
theorem outcomesCanBeFinalReadings : Obligations.OutcomesCanBeFinalReadings := by
  unfold Obligations.OutcomesCanBeFinalReadings
  intro judged
  have hjudged {c : Instr} {kind tag : Byte} {bytes : List Byte} {claim : Claim} {meter : Byte} {serial : Word16}
      {rd : Report} (owner : State → Answer) (hclaim : claim ≠ .none)
      (hexec : ∀ s t, Taken .operations kind tag bytes s t → t.monitor.state ≠ .uncommissioned →
        ∀ u, reply .operations kind tag (owner t) = u → exec c s = .next u)
      (hsome : ∀ t n, meterOf meter = some n → owner t = outcomeOn n serial claim rd t) :
      judged c kind tag bytes claim meter serial rd := by
    intro n s t hn ht hs hr r total fault shown answer halted
    have hnext := hexec s t ht hs
    have howner := hsome t n (meterOf_of_eq hn)
    refine ⟨fun g hg hserial => hnext _ ?_, fun hunnamed => hnext _ ?_⟩
    · have hnamed : owner t = namedAnswer n g claim rd r.ct (finalReading n claim rd t) := by
        rw [howner, outcomeOn, hr, namesGrant_of_named g hg hserial]
        rfl
      let told (f : Final) : State := reply .operations kind tag (namedAnswer n g claim rd r.ct f)
      have hhalted (k : FaultKind) (hk : k.inconsistency = true) : told (finalInconsistent k n rd t) =
          answer 2 5 (shown k t) 0 false false (halted k) := by
        have hsome : (t.meter n).grant.isSome = true := Option.isSome_iff_exists.mpr ⟨g, hg⟩
        have hfinal : finalInconsistent k n rd t = { retired := false, raised := shown k t, grantResult := .unresolved
                                                     delta := 0, swept := 0, state := halted k } := by
          rw [finalInconsistent_eq n rd t hk, if_pos hsome]
          rfl
        change reply .operations kind tag (namedAnswer n g claim rd r.ct (finalInconsistent k n rd t)) = _
        rw [hfinal]
        rfl
      have hdone (x : GrantResult) (v : State) : told (finalConsistent n x.asResult 0 v) =
          if claim.disagrees x then
            answer 6 x.asResult.code (shown .claimMismatch (completeRetirement n 0 v)) (v.meter n).drMirror true false
              (fault .claimMismatch g.serial g.amount r.ct true (completeRetirement n 0 v))
          else
            answer 6 x.asResult.code none (v.meter n).drMirror false false (completeRetirement n 0 v) := by
        have hresolved : (finalConsistent n x.asResult 0 v).resolved = some x := by cases x <;> rfl
        change reply .operations kind tag (namedAnswer n g claim rd r.ct (finalConsistent n x.asResult 0 v)) = _
        rw [namedAnswer, hresolved, Option.any_some]
        cases claim.disagrees x with
        | false => rfl
        | true =>
          rw [if_pos rfl, raisedKind_eq _ rfl]
          rfl
      rw [hnamed]
      change told (finalReading n claim rd t) = _
      rw [finalReading_of_some n g claim rd t hg]
      refine map_ite told (hhalted _ rfl) (map_ite told ?_ (map_ite told ?_ (hhalted _ rfl)))
      · refine (hdone .reversed _).trans ?_
        rw [disagrees_reversed _ hclaim]
        rfl
      · refine (hdone .applied _).trans ?_
        rw [disagrees_applied _ hclaim]
        rfl
    · have hunknown : owner t = unnamedAnswer n serial rd (finalReading n .none rd t) := by
        rw [howner, outcomeOn, hr, namesGrant_of_unnamed hunnamed]
        rfl
      let told (f : Final) : State := reply .operations kind tag (unnamedAnswer n serial rd f)
      have hhalted (k : FaultKind) (hk : k.inconsistency = true) : told (finalInconsistent k n rd t) =
          answer 2 (if r.grant = none then 0 else 5) (shown k t) 0 false true
            (fault .serialUnknown serial 0 ((halted k).meter n).ct false (halted k)) := by
        change reply .operations kind tag (unnamedAnswer n serial rd (finalInconsistent k n rd t)) = _
        rw [finalInconsistent_eq n rd t hk, ← unresolvedCode]
        rfl
      have hdone (x : Result) (v : State) : told (finalConsistent n x 0 v) =
          answer 6 x.code none (v.meter n).drMirror false true
            (fault .serialUnknown serial 0 ((completeRetirement n 0 v).meter n).ct false
              (completeRetirement n 0 v)) := rfl
      rw [hunknown]
      change told (finalReading n .none rd t) = _
      obtain hg | ⟨g, hg⟩ : r.grant = none ∨ ∃ g, r.grant = some g := by
        cases r.grant <;> simp
      · rw [finalReading_of_none n .none rd t hg]
        refine map_ite told (hhalted _ rfl) ?_
        rw [hg] at hhalted ⊢
        exact map_ite told (hdone ..) (hhalted _ rfl)
      · rw [finalReading_of_some n g .none rd t hg]
        refine map_ite told (hhalted _ rfl) ?_
        rw [hg] at hhalted ⊢
        exact map_ite told (hdone ..) (map_ite told (hdone ..) (hhalted _ rfl))
  refine ⟨fun tag m => ?_, fun tag m => ?_⟩
  · refine hjudged (answerGrantApplied m) (by decide)
      (fun s t ht hs u h => next_answer answerGrantApplied ht rfl (fun h => absurd h hs) (fun _ => rfl) h)
      fun t n h => ?_
    rw [answerGrantApplied, h]
  · refine hjudged (answerGrantRejected m) (fun h => by cases h)
      (fun s t ht hs u h => next_answer answerGrantRejected ht rfl (fun h => absurd h hs) (fun _ => rfl) h)
      fun t n h => ?_
    rw [answerGrantRejected, h]

/-! ## Audit actions -/

section Audit

variable (n : MeterId) (s : State)

theorem grantAmount_eq (r : Meter) : grantAmount r = r.grant.elim 0 Grant.amount := by
  unfold grantAmount
  cases r.grant <;> rfl

theorem auditGrantResult_code (r : Meter) : (auditGrantResult r).code = if r.grant = none then 0 else 4 := by
  unfold auditGrantResult
  cases r.grant <;> rfl

theorem maxFigure_lt_iff (x : Nat) : Config.maxFigure < x ↔ 2 ^ 48 ≤ x := by
  rw [maxFigure_eq]
  omega

end Audit

/-- The reply of an adjusting final reading (R140). -/
theorem reply_adjusted (tag : Byte) (n : MeterId) (x : Result) (delta : Int) (v : State) :
    reply .audit Kind.finalReading.code tag
      (answerOk (finalBody n (finalConsistent n x delta v)) (finalConsistent n x delta v).state) =
      replied .audit 0x15 tag .ok
        [.u8 6, .u8 0, .u8 x.code, .s64 delta, .u48 (v.meter n).drMirror,
         .u8 ((completeRetirement n delta v).meter n).state.code, .u48 ((completeRetirement n delta v).meter n).ct,
         .u48 ((completeRetirement n delta v).meter n).arMirror,
         .u48 ((completeRetirement n delta v).meter n).drMirror] (completeRetirement n delta v) := rfl

/-- Settles O25: the refusals in order, and the retirement; the adjustment and the sweep in full. -/
theorem adjustingReadingsRetireTheMeter : Obligations.AdjustingReadingsRetireTheMeter := by
  unfold Obligations.AdjustingReadingsRetireTheMeter
  refine ⟨fun tag m s t ht hs => ?_, fun n delta total s => ?_, fun n delta s => ?_⟩
  · refine next_inService (p := .audit) answerAdjustingFinalReading ht rfl hs ?_
    unfold answerAdjustingFinalReading
    by_cases hn : m.meter.toNat < 192
    · rw [meterOf_of_lt hn, dif_pos hn]
      dsimp only
      unfold adjustingFinalOn
      cases h : (t.meter ⟨m.meter.toNat, hn⟩).state with
      | awaitingReading =>
        dsimp only
        rw [if_neg (by decide), if_neg (by decide)]
        unfold adjustOn
        dsimp only
        refine reply_if (maxFigure_lt_iff _) (fun _ => rfl) fun _ => ?_
        rw [grantAmount_eq]
        refine reply_if (adjustmentCovered_iff _ _ _) (fun _ => rfl) fun _ => ?_
        rw [← auditGrantResult_code]
        refine (reply_adjusted ..).trans ?_
        unfold releaseByAudit
        cases (t.meter ⟨m.meter.toNat, hn⟩).grant <;> rfl
      | _ => rfl
    · rw [meterOf_of_not_lt hn, dif_neg hn]
      rfl
  · rw [adjustMeter_eq, poolAdjust_bankAdjustment_eq]
  · rw [completeRetirement_eq, poolSweep_bankSweep_eq]
    rfl

/-! ## Resumption -/

section Resumption

variable (n : MeterId) (s : State)

/-- A meter made ACTIVE with its supervision timer started (R190, R191). -/
theorem reactivate_eq : reactivate n s = modMeter n (fun x => { x with
    state := .active
    supervision := some (s.timeBase + BitVec.ofNat 32 (3600 * (s.meter n).settings.hours)) }) s := by
  have hexpiry : supervisionExpiry (modMeter n (fun r => { r with state := .active }) s) n =
      s.timeBase + BitVec.ofNat 32 (3600 * (s.meter n).settings.hours) := by
    rw [supervisionExpiry, modMeter_meter_self, Nat.mul_comm]
    rfl
  rw [reactivate, startSupervision, hexpiry, modMeter_modMeter]

theorem recordUsage_eq (b : BranchId) (used : Nat) : recordUsage b used s = if used = 0 then s
    else { s with periods := { s.periods with current := { s.periods.current with
      branches := modifyAt s.periods.current.branches b (fun k => { k with used := min (k.used + used) (2 ^ 48 - 1) })
      saturated := s.periods.current.saturated ||
        decide (2 ^ 48 - 1 < (s.periods.current.branches.get b).used + used) } } } := by
  by_cases hu : used = 0
  · rw [recordUsage, if_neg (by omega), if_pos hu]
  · rw [recordUsage, if_pos (by omega), if_neg hu]
    simp only [bankUsed, raiseTo_eq_min, passes]
    rfl

theorem afterSlotFreed_cases (g : Grant) : afterSlotFreed g s = s ∨ afterSlotFreed g s = restartTakesEffect s := by
  rw [afterSlotFreed_eq]
  split
  · exact .inr rfl
  · exact .inl rfl

/-- What the release of an audit action leaves of the record and of the time base (R139, R190). -/
theorem releaseByAudit_kept : ((releaseByAudit n s).meter n).branch = (s.meter n).branch ∧
    ((releaseByAudit n s).meter n).arMirror = (s.meter n).arMirror ∧
    ((releaseByAudit n s).meter n).settings = (s.meter n).settings ∧ (releaseByAudit n s).timeBase = s.timeBase := by
  unfold releaseByAudit
  split
  · next g _ =>
    have hreleased : (released s n g .none none).meter n =
        Meter.resolved (s.meter n) { serial := g.serial, result := .reversed, claim := .none } :=
      (released_meter ..).trans (if_pos rfl)
    have htime : (released s n g .none none).timeBase = s.timeBase := by
      simp only [released, acceptOptional, restoreAllowance]
      split <;> simp
    rw [releaseGrant_eq]
    obtain h | h := afterSlotFreed_cases (released s n g .none none) g
    · rw [h, hreleased]
      exact ⟨rfl, rfl, rfl, htime⟩
    · rw [h, restartTakesEffect_meter, hreleased, restartTakesEffect_timeBase]
      exact ⟨rfl, rfl, rfl, htime⟩
  · exact ⟨rfl, rfl, rfl, rfl⟩

theorem recordUsage_meter (b : BranchId) (used : Nat) (m : MeterId) : (recordUsage b used s).meter m = s.meter m := by
  rw [recordUsage_eq]
  split <;> rfl

/-- What a release and an adjustment leave of the record and of the time base (R139, R190). -/
theorem settled_kept (delta : Int) (total : Nat) :
    ((adjustMeter n delta total (releaseByAudit n s)).meter n).branch = (s.meter n).branch ∧
      ((adjustMeter n delta total (releaseByAudit n s)).meter n).arMirror = (s.meter n).arMirror ∧
      ((adjustMeter n delta total (releaseByAudit n s)).meter n).settings = (s.meter n).settings ∧
      (adjustMeter n delta total (releaseByAudit n s)).timeBase = s.timeBase := by
  obtain ⟨hbranch, har, hsettings, htime⟩ := releaseByAudit_kept n s
  have hadjusted : (adjustMeter n delta total (releaseByAudit n s)).timeBase = (releaseByAudit n s).timeBase := by
    rw [adjustMeter_eq]
    split
    · rfl
    · simp [bankAdjustment]
  rw [adjustMeter_meter, hadjusted]
  split <;> exact ⟨hbranch, har, hsettings, htime⟩

/-- The re-baselining as one change of the record (R190). -/
theorem rebaseline_eq (x : Reading) (delta : Int) : rebaseline n x delta s = modMeter n (fun y => { y with
      arMirror := x.ar, drMirror := x.dr, rejected := none, state := .active
      supervision := some (s.timeBase + BitVec.ofNat 32 (3600 * (s.meter n).settings.hours)) })
    (recordUsage (s.meter n).branch (x.ar - (s.meter n).arMirror)
      (adjustMeter n delta (x.ar + x.dr) (releaseByAudit n s))) := by
  obtain ⟨hbranch, har, hsettings, htime⟩ := settled_kept n s delta (x.ar + x.dr)
  rw [rebaseline, reactivate_eq, modMeter_modMeter, modMeter_meter_self, modMeter_timeBase, recordUsage_meter,
    recordUsage_timeBase, hbranch, har, hsettings, htime]

end Resumption

/-- The reply of a resumption, the meter being ACTIVE after it (R190, R191). -/
theorem reply_resumed {tag : Byte} {n : MeterId} (x : Result) (delta : Int) (f : Meter → Meter) (s : State)
    (hf : ∀ r, (f r).state = .active) :
    reply .audit Kind.resumeMeter.code tag (answerOk (resumeBody n x delta (modMeter n f s)) (modMeter n f s)) =
      replied .audit 0x35 tag .ok
        [.u8 n.val, .u8 x.code, .s64 delta, .u8 1, .u48 ((modMeter n f s).meter n).ct,
         .u48 ((modMeter n f s).meter n).arMirror, .u48 ((modMeter n f s).meter n).drMirror] (modMeter n f s) := by
  have hactive : ((modMeter n f s).meter n).state = .active := by rw [modMeter_meter_self, hf]
  rw [resumeBody, standingFields, hactive]
  rfl

/-- Settles O26: the refusals in order, and the resumption with and without a rejected reading. -/
theorem resumptionRebaselines : Obligations.ResumptionRebaselines := by
  unfold Obligations.ResumptionRebaselines
  intro tag m s t ht hs
  refine next_inService answerResumeMeter ht rfl hs ?_
  unfold answerResumeMeter
  by_cases hn : m.meter.toNat < 192
  · rw [meterOf_of_lt hn, dif_pos hn]
    dsimp only
    unfold resumeOn
    cases h : (t.meter ⟨m.meter.toNat, hn⟩).state with
    | suspended =>
      dsimp only
      rw [if_neg (by decide), if_neg (by decide)]
      unfold resumeSuspended
      dsimp only
      cases (t.meter ⟨m.meter.toNat, hn⟩).rejected with
      | none =>
        dsimp only
        rw [reactivate_eq]
        exact reply_resumed _ _ _ _ fun _ => rfl
      | some x =>
        dsimp only
        refine reply_if Iff.rfl (fun _ => rfl) fun _ => ?_
        refine reply_if (maxFigure_lt_iff _) (fun _ => rfl) fun _ => ?_
        rw [grantAmount_eq]
        refine reply_if (adjustmentCovered_iff _ _ _) (fun _ => rfl) fun _ => ?_
        rw [rebaseline_eq, recordUsage_eq, ← auditGrantResult_code]
        refine (reply_resumed _ _ _ _ fun _ => rfl).trans ?_
        unfold releaseByAudit
        cases (t.meter ⟨m.meter.toNat, hn⟩).grant <;> rfl
    | _ => rfl
  · rw [meterOf_of_not_lt hn, dif_neg hn]
    rfl

end Sys2Proof.Proofs.Retirement

/-!
The statements about the confirmation and the release of a grant: each block of the state after it.
-/

namespace Sys2Proof.Proofs.Resolution

open Sys2Proof.Machine Sys2Proof.Proofs.Steps Sys2Proof.Proofs.PoolUnit Sys2Proof.Proofs.Faults
  Sys2Proof.Proofs.Readings Sys2Proof.Proofs.Retirement

/-! ## The entry that a grant names -/

section Entry

variable (source : GrantSource) (result : GrantResult) (s : State)

/-- The entry of the list that a grant names (R123). -/
def namedEntry (source : GrantSource) : Option Nat :=
  match source with
  | .list i => i
  | .request => none

/-- The resolution ends the run: the list drains, and no entry stays OFFERED (R123). -/
def runEnds (l : ListUnit) : Bool :=
  (namedEntry source).isSome && l.state == .drainingList &&
    (entriesAfter source result l.entries).all (fun e => e.outcome != .offered)

/-- The entry resolved is not quiet (R127). -/
def entrySpoken (l : ListUnit) : Bool :=
  (namedEntry source).any (fun i => l.entries[i]?.any (fun e => !e.quiet))

theorem anyOffered_eq_false_iff : anyOffered s = false ↔ s.list.entries.all (fun e => e.outcome != .offered) = true := by
  simp [anyOffered]

theorem afterCondition_idem (ph : NoticePhase) : ph.afterCondition.afterCondition = ph.afterCondition := by
  cases ph <;> rfl

theorem finishEntry_noticeClass (i : Nat) (outcome : EntryOutcome) (c : NoticeClass) :
    (finishEntry i outcome s).noticeClass c = { s.noticeClass c with
      phase := if c = .list ∧ (s.list.entries[i]?).any (fun e : Entry => !e.quiet) = true then
        (s.noticeClass c).phase.afterCondition else (s.noticeClass c).phase } :=
  Power.setConditionIf_noticeClass ((s.list.entries[i]?).any (fun e : Entry => !e.quiet)) .list c
    (modEntry i (fun e => { e with outcome := outcome }) s)

theorem listDone_noticeClass (c : NoticeClass) : (listDone s).noticeClass c = { s.noticeClass c with
    phase := if c = .list then (s.noticeClass c).phase.afterCondition else (s.noticeClass c).phase } := by
  have h : (listDone s).noticeClass c = { s.noticeClass c with phase := if c = .list ∧ true = true then
      (s.noticeClass c).phase.afterCondition else (s.noticeClass c).phase } :=
    Power.setConditionIf_noticeClass true .list c (setListState .done s)
  simpa using h

/-- What the resolution of an entry's grant does to the list, and when it ends the run (R123). -/
theorem entryResolved_named (i : Nat) : entryResolved (.list (some i)) result s =
    if runEnds (.list (some i)) result s.list then listDone (finishEntry i result.asOutcome s)
    else finishEntry i result.asOutcome s := by
  have hends : ((finishEntry i result.asOutcome s).list.state = .drainingList ∧
      anyOffered (finishEntry i result.asOutcome s) = false) ↔
      runEnds (.list (some i)) result s.list = true := by
    rw [anyOffered_eq_false_iff, finishEntry_list, runEnds, Bool.and_eq_true, Bool.and_eq_true, beq_iff_eq]
    exact ⟨fun h => ⟨⟨rfl, h.1⟩, h.2⟩, fun h => ⟨h.1.2, h.2⟩⟩
  unfold entryResolved
  dsimp only
  exact if_congr hends rfl rfl

theorem entriesAfter_eq (es : List Entry) : entriesAfter source result es =
    match namedEntry source with
    | some i => es.modify i (fun e => { e with outcome := result.asOutcome })
    | none => es := by
  obtain _ | _ | i := source <;> rfl

/-- A resolution sets the entry that the grant names, and may end the run (R123). -/
theorem entryResolved_list : (entryResolved source result s).list = { s.list with
    entries := entriesAfter source result s.list.entries
    state := if runEnds source result s.list then .done else s.list.state } := by
  obtain _ | _ | i := source
  · rfl
  · rfl
  · rw [entryResolved_named]
    cases runEnds (.list (some i)) result s.list
    · exact finishEntry_list ..
    · exact congrArg (fun l : ListUnit => { l with state := .done }) (finishEntry_list s i result.asOutcome)

/-- The end of the run and a non-quiet entry set the LIST condition (R127). -/
theorem entryResolved_noticeClass (c : NoticeClass) : (entryResolved source result s).noticeClass c =
    { s.noticeClass c with
      phase := if c = .list ∧ (runEnds source result s.list || entrySpoken source s.list) = true then
        (s.noticeClass c).phase.afterCondition else (s.noticeClass c).phase } := by
  obtain _ | _ | i := source
  · simp [entryResolved, runEnds, entrySpoken, namedEntry]
  · simp [entryResolved, runEnds, entrySpoken, namedEntry]
  · rw [entryResolved_named]
    have hspoken : entrySpoken (.list (some i)) s.list = (s.list.entries[i]?).any (fun e : Entry => !e.quiet) := rfl
    rw [hspoken]
    cases runEnds (.list (some i)) result s.list
    · exact finishEntry_noticeClass ..
    · rw [if_pos rfl, listDone_noticeClass, finishEntry_noticeClass]
      by_cases hc : c = .list
      · cases (s.list.entries[i]?).any (fun e : Entry => !e.quiet) <;> simp [hc, afterCondition_idem]
      · simp [hc]

theorem entryResolved_notices : (entryResolved source result s).notices =
    { s.notices with classes := (entryResolved source result s).notices.classes } := by
  unfold entryResolved finishEntry
  dsimp only
  (repeat' split) <;> rfl

end Entry

/-! ## The line that a reading takes pieces from -/

section Line

variable (b : BranchId) (l : LineNo) (m : MeterId) (rd : Report) (s t : State)

/-- A line evaluated now is raised (R156). -/
def lineFalls : Bool :=
  decide ((s.stockLine b l).onHand < (s.stockLine b l).level) && !(s.stockLine b l).raised

theorem evaluateReorder_noticeClass (c : NoticeClass) : (evaluateReorder b l s).noticeClass c = { s.noticeClass c with
    phase := if c = .reorder ∧ lineFalls b l s = true then (s.noticeClass c).phase.afterCondition
      else (s.noticeClass c).phase } := by
  unfold evaluateReorder lineFalls
  dsimp only
  split
  · next h =>
    rw [decide_eq_true h]
    cases (s.stockLine b l).raised
    · exact Power.setConditionIf_noticeClass true .reorder c _
    · simp
  · next h =>
    have hset (u : State) (k : Stock) : (u.setStock k).noticeClass c = u.noticeClass c := rfl
    rw [decide_eq_false h]
    cases (s.stockLine b l).raised
    · simp
    · simp [hset, modStockLine]

theorem evaluateReorder_notices : (evaluateReorder b l s).notices =
    { s.notices with classes := (evaluateReorder b l s).notices.classes } := by
  unfold evaluateReorder
  dsimp only
  (repeat' split) <;> rfl

variable {s t} in
theorem evaluateReorder_stock_congr (h : t.stock = s.stock) :
    (evaluateReorder b l t).stock = (evaluateReorder b l s).stock := by
  have hline : t.stockLine b l = s.stockLine b l := congrArg (fun k : Stock => (k.lines.get b).get l) h
  unfold evaluateReorder
  dsimp only
  rw [hline]
  (repeat' split) <;> simp [modStockLine, h]

/-- Label consumption makes the linked line fall below its level (R151, R156). -/
def consumptionRaises (link : Option LineNo) (delta : Nat) : Bool :=
  link.any (fun l => decide (0 < delta) && lineFalls b l
    (modStockLine b l (fun x => { x.less delta with issues := raiseTo Config.maxCount x.issues delta }) s))

variable {s t} in
theorem consumptionRaises_congr (h : t.stock = s.stock) (link : Option LineNo) (delta : Nat) :
    consumptionRaises b t link delta = consumptionRaises b s link delta := by
  have hline (l : LineNo) (f : StockLine → StockLine) :
      (modStockLine b l f t).stockLine b l = (modStockLine b l f s).stockLine b l := by
    simp only [modStockLine, State.stockLine, State.setStock, h]
  simp only [consumptionRaises, lineFalls, hline]

variable {s t} in
theorem recordLabels_stock_congr (h : t.stock = s.stock) (link : Option LineNo) (delta : Nat) :
    (recordLabels b link delta t).stock = (recordLabels b link delta s).stock := by
  unfold recordLabels
  cases link with
  | none => exact h
  | some l =>
    dsimp only
    split
    · exact evaluateReorder_stock_congr _ _ (by simp [modStockLine, h])
    · exact h

theorem recordLabels_noticeClass (link : Option LineNo) (delta : Nat) (c : NoticeClass) :
    (recordLabels b link delta s).noticeClass c = { s.noticeClass c with
      phase := if c = .reorder ∧ consumptionRaises b s link delta = true then (s.noticeClass c).phase.afterCondition
        else (s.noticeClass c).phase } := by
  unfold recordLabels consumptionRaises
  cases link with
  | none => simp
  | some l =>
    dsimp only
    by_cases hd : 0 < delta
    · rw [if_pos hd, Option.any_some, decide_eq_true hd, Bool.true_and]
      exact evaluateReorder_noticeClass b l _ c
    · simp [hd]

/-- The reading makes the linked line fall below its level (R151, R156). -/
def readingRaises : Bool :=
  consumptionRaises (s.meter m).branch s (s.meter m).settings.link (rd.labels - (s.meter m).lastLabels).toNat

theorem acceptReading_noticeClass (c : NoticeClass) : (acceptReading m rd s).noticeClass c = { s.noticeClass c with
    phase := if c = .reorder ∧ readingRaises m rd s = true then (s.noticeClass c).phase.afterCondition
      else (s.noticeClass c).phase } := by
  have hkept : (modMeter m (fun x => x.accepted rd (supervisionExpiry s m))
      (recordUsage (s.meter m).branch (rd.ar - (s.meter m).arMirror) s)).noticeClass c = s.noticeClass c :=
    noticeClass_congr (by simp) c
  have hraises := consumptionRaises_congr (s.meter m).branch (s := s) (t := modMeter m
    (fun x => x.accepted rd (supervisionExpiry s m)) (recordUsage (s.meter m).branch (rd.ar - (s.meter m).arMirror) s))
    (by simp) (s.meter m).settings.link (rd.labels - (s.meter m).lastLabels).toNat
  rw [acceptReading, readingRaises, recordLabels_noticeClass, hkept, hraises]

theorem recordLabels_notices (link : Option LineNo) (delta : Nat) : (recordLabels b link delta s).notices =
    { s.notices with classes := (recordLabels b link delta s).notices.classes } := by
  unfold recordLabels
  (repeat' split)
  · exact evaluateReorder_notices ..
  · rfl
  · rfl

theorem acceptReading_notices : (acceptReading m rd s).notices =
    { s.notices with classes := (acceptReading m rd s).notices.classes } :=
  (recordLabels_notices ..).trans (by simp only [modMeter_notices, recordUsage_notices]; rfl)

theorem acceptReading_periods :
    (acceptReading m rd s).periods = (recordUsage (s.meter m).branch (rd.ar - (s.meter m).arMirror) s).periods := by
  unfold acceptReading recordLabels consumeLabels
  dsimp only
  (repeat' split) <;> simp

/-- What a reading takes from the stock depends on the stock and on three fields of the record. -/
structure ReadsAlike (m : MeterId) (s t : State) : Prop where
  stock : t.stock = s.stock
  branch : (t.meter m).branch = (s.meter m).branch
  settings : (t.meter m).settings = (s.meter m).settings
  labels : (t.meter m).lastLabels = (s.meter m).lastLabels

variable {m s t} in
theorem ReadsAlike.raises (h : ReadsAlike m s t) : readingRaises m rd t = readingRaises m rd s := by
  rw [readingRaises, h.branch, h.settings, h.labels]
  exact consumptionRaises_congr _ h.stock ..

variable {m s t} in
theorem ReadsAlike.stockAfter (h : ReadsAlike m s t) : (acceptReading m rd t).stock = (acceptReading m rd s).stock := by
  rw [acceptReading, acceptReading, h.branch, h.settings, h.labels]
  exact recordLabels_stock_congr _ (by simpa using h.stock) ..

end Line

/-! ## The pool's part -/

section Pool

variable (x : Nat) (s : State)

theorem recheckPool_noticeClass (c : NoticeClass) : (recheckPool s).noticeClass c = { s.noticeClass c with
    phase := if c = .pool ∧ s.pool.recorded.rank < (recheckPool s).pool.recorded.rank then
      (s.noticeClass c).phase.afterCondition else (s.noticeClass c).phase } := by
  rw [recheckPool_recorded]
  unfold recheckPool
  dsimp only
  have hset (u : State) (k : Pool) : (u.setPool k).noticeClass c = u.noticeClass c := rfl
  split
  · next h =>
    rw [hset]
    have := Power.setConditionIf_noticeClass true .pool c
      (s.setPool { s.pool with worst := if (s.noticeClass .pool).phase = .pending then
        s.pool.worst.moreConstrained s.pool.condition else s.pool.condition })
    simpa [h, setPoolCondition, hset] using this
  · next h => simp [h, hset]

theorem recheckPool_notices : (recheckPool s).notices = { s.notices with classes := (recheckPool s).notices.classes } := by
  unfold recheckPool
  dsimp only
  split <;> rfl

variable {s} in
/-- The condition worked out anew depends on the pool and on the phase of its notice. -/
theorem recheckPool_pool_congr {t : State} (hpool : t.pool = s.pool) (hnotices : t.notices = s.notices) :
    (recheckPool t).pool = (recheckPool s).pool := by
  have hphase : (t.noticeClass .pool).phase = (s.noticeClass .pool).phase :=
    congrArg NoticeEntry.phase (noticeClass_congr hnotices .pool)
  unfold recheckPool
  dsimp only
  rw [hpool]
  split
  · simp [setPoolCondition, hphase, hpool]
  · simp [hpool]

theorem poolConfirm_pool : (poolConfirm x s).pool = (recheckPool { s with
    pool := { s.pool with g := s.pool.g - x, i := min (s.pool.i + x) (2 ^ 48 - 1) } }).pool := by
  rw [poolConfirm, changePool, raiseFigure_eq]
  exact recheckPool_pool_congr rfl rfl

theorem poolRelease_pool : (poolRelease x s).pool = (recheckPool { s with
    pool := { s.pool with g := s.pool.g - x, p := min (s.pool.p + x) (2 ^ 48 - 1) } }).pool := by
  rw [poolRelease, changePool, raiseFigure_eq]
  exact recheckPool_pool_congr rfl rfl

/-- A pool change that keeps the recorded condition until it is worked out anew (R4, R5). -/
theorem changePool_noticeClass (k : Pool) (hit : Bool) (hrecorded : k.recorded = s.pool.recorded) (c : NoticeClass) :
    (changePool k hit s).noticeClass c = { s.noticeClass c with
      phase := if c = .pool ∧ s.pool.recorded.rank < (changePool k hit s).pool.recorded.rank then
        (s.noticeClass c).phase.afterCondition else (s.noticeClass c).phase } := by
  have h := recheckPool_noticeClass (markSaturated hit (s.setPool k)) c
  have hpool : (markSaturated hit (s.setPool k)).pool.recorded = s.pool.recorded := hrecorded
  rw [hpool] at h
  exact h

theorem changePool_notices (k : Pool) (hit : Bool) : (changePool k hit s).notices =
    { s.notices with classes := (changePool k hit s).notices.classes } :=
  recheckPool_notices _

end Pool

/-! ## What a resolution leaves, block by block -/

section Blocks

variable {s u : State} (m : MeterId) (source : GrantSource) (result : GrantResult)

/-- The three conditions that a resolution can set (R5, R127, R158). -/
theorem resolved_noticeClass {k : State} {raises : Bool} (c : NoticeClass)
    (hpool : k.noticeClass c = { s.noticeClass c with
      phase := if c = .pool ∧ s.pool.recorded.rank < k.pool.recorded.rank then
        (s.noticeClass c).phase.afterCondition else (s.noticeClass c).phase })
    (hread : u.noticeClass c = { k.noticeClass c with
      phase := if c = .reorder ∧ raises = true then (k.noticeClass c).phase.afterCondition else (k.noticeClass c).phase })
    (hlist : u.list = s.list) :
    (leaveDraining m (entryResolved source result u)).noticeClass c = { s.noticeClass c with
      phase :=
        if (c = .pool ∧ s.pool.recorded.rank < k.pool.recorded.rank) ∨
            (c = .list ∧ (runEnds source result s.list || entrySpoken source s.list) = true) then
          (s.noticeClass c).phase.afterCondition
        else if c = .reorder ∧ raises = true then (s.noticeClass c).phase.afterCondition
        else (s.noticeClass c).phase } := by
  have hleave : (leaveDraining m (entryResolved source result u)).noticeClass c =
    (entryResolved source result u).noticeClass c := rfl
  rw [hleave, entryResolved_noticeClass, hread, hpool, hlist]
  cases c <;> simp

theorem resolved_list (hlist : u.list = s.list) : (leaveDraining m (entryResolved source result u)).list =
    { s.list with
      entries := entriesAfter source result s.list.entries
      state := if runEnds source result s.list then .done else s.list.state } := by
  have h := entryResolved_list source result u
  rw [hlist] at h
  exact h

theorem slotsWithout_get (g : Grant) (slots : Vector (Option Slot) 8) (k : SlotId) :
    (slotsWithout g slots).get k = if g.phase = .offered k then none else slots.get k := by
  unfold slotsWithout
  cases g.phase with
  | doubtful => simp
  | offered j =>
    dsimp only
    rw [modifyAt_get]
    by_cases h : k = j
    · simp [h]
    · simp [h, Ne.symm h]

theorem modifyAt_same {α : Type} {n : Nat} (v : Vector α n) (i : Fin n) {f : α → α} (h : f (v.get i) = v.get i) :
    modifyAt v i f = v :=
  vector_ext_get fun j => by
    rw [modifyAt_get]
    split
    · next e => subst e; exact h
    · rfl

/-- The usage of a reading in the current bank, whether or not there is any (R38). -/
theorem recordUsage_periods (b : BranchId) (used : Nat) {t : State} {k : Periods} {x : Bool}
    (h : t.periods = { k with current := { k.current with saturated := x } }) : (recordUsage b used t).periods =
    { k with current := { k.current with
      branches := modifyAt k.current.branches b (fun y => { y with
        used := if used = 0 then y.used else min (y.used + used) (2 ^ 48 - 1) })
      saturated := x || decide (0 < used ∧ 2 ^ 48 - 1 < (k.current.branches.get b).used + used) } } := by
  rw [recordUsage_eq]
  by_cases hu : used = 0
  · subst hu
    rw [if_pos rfl, modifyAt_same _ _ (by simp), h]
    simp
  · have hpos : 0 < used := by omega
    simp only [hu, hpos, if_false, true_and, h]

/-- A count of a branch on top of the usage of the reading (R38, R162). -/
theorem addToBranchBank_periods {b : BranchId} {f g : BranchBank → BranchBank} {hit : BranchBank → Bool} {x : Bool}
    {t : State} {k : Periods} (h : t.periods = { k with current := { k.current with
      branches := modifyAt k.current.branches b f, saturated := x } }) :
    (addToBranchBank b g hit t).periods = { k with current := { k.current with
      branches := modifyAt k.current.branches b (fun y => g (f y))
      saturated := x || hit (f (k.current.branches.get b)) } } := by
  simp only [addToBranchBank, modCurrent, State.setPeriods, h, modifyAt_modifyAt, modifyAt_get_self]

end Blocks

section Confirmation

variable (s : State) (n : MeterId) (g : Grant) (claim : Claim) (rd : Report)

theorem readsAlike_credited : ReadsAlike n s (creditMeter n g.amount (poolConfirm g.amount s)) := by
  have hmeter := creditMeter_meter (poolConfirm g.amount s) n n g.amount
  rw [if_pos rfl, poolConfirm_meter] at hmeter
  exact ⟨by simp, by rw [hmeter], by rw [hmeter], by rw [hmeter]⟩

theorem poolConfirm_noticeClass (x : Nat) (c : NoticeClass) : (poolConfirm x s).noticeClass c = { s.noticeClass c with
    phase := if c = .pool ∧ s.pool.recorded.rank < (poolConfirm x s).pool.recorded.rank then
      (s.noticeClass c).phase.afterCondition else (s.noticeClass c).phase } := by
  refine changePool_noticeClass s _ _ ?_ c
  rfl

/-- The confirmation up to the entry that the grant names. -/
def banked : State :=
  bankApplied (s.meter n).branch g.amount (startHoldOff n (writeOutcome n g .applied claim (clearGrant n g
    (acceptReading n rd (creditMeter n g.amount (poolConfirm g.amount s))))))

theorem confirmed_eq : confirmed s n g claim rd = leaveDraining n (entryResolved g.source .applied (banked s n g claim rd)) :=
  rfl

theorem banked_notices : (banked s n g claim rd).notices =
    (acceptReading n rd (creditMeter n g.amount (poolConfirm g.amount s))).notices := by
  simp [banked]

theorem confirmed_noticeClass (c : NoticeClass) : (confirmed s n g claim rd).noticeClass c = { s.noticeClass c with
    phase :=
      if (c = .pool ∧ s.pool.recorded.rank < (confirmed s n g claim rd).pool.recorded.rank) ∨
          (c = .list ∧ (runEnds g.source .applied s.list || entrySpoken g.source s.list) = true) then
        (s.noticeClass c).phase.afterCondition
      else ((acceptReading n rd s).noticeClass c).phase } := by
  have hread := acceptReading_noticeClass n rd (creditMeter n g.amount (poolConfirm g.amount s)) c
  rw [(readsAlike_credited s n g).raises rd, ← noticeClass_congr (banked_notices s n g claim rd) c] at hread
  rw [confirmed_pool, acceptReading_noticeClass, confirmed_eq]
  exact resolved_noticeClass n g.source .applied c (poolConfirm_noticeClass s g.amount c) hread (by simp [banked])

theorem confirmed_periods : (confirmed s n g claim rd).periods = { s.periods with current := { s.periods.current with
    branches := modifyAt s.periods.current.branches (s.meter n).branch (fun k => { k with
      used := if rd.ar - (s.meter n).arMirror = 0 then k.used
        else min (k.used + (rd.ar - (s.meter n).arMirror)) (2 ^ 48 - 1)
      appliedCount := min (k.appliedCount + 1) (2 ^ 32 - 1)
      appliedAmount := min (k.appliedAmount + g.amount) (2 ^ 48 - 1) })
    saturated := s.periods.current.saturated ||
      decide (2 ^ 48 - 1 < s.pool.g ∨ s.pool.g < g.amount ∨ 2 ^ 48 - 1 < s.pool.i + g.amount ∨
        (0 < rd.ar - (s.meter n).arMirror ∧
          2 ^ 48 - 1 < (s.periods.current.branches.get (s.meter n).branch).used + (rd.ar - (s.meter n).arMirror)) ∨
        2 ^ 32 - 1 < (s.periods.current.branches.get (s.meter n).branch).appliedCount + 1 ∨
        2 ^ 48 - 1 < (s.periods.current.branches.get (s.meter n).branch).appliedAmount + g.amount) } } := by
  have hmeter := creditMeter_meter (poolConfirm g.amount s) n n g.amount
  rw [if_pos rfl, poolConfirm_meter] at hmeter
  have hhit (x y : Nat) : (((s.periods.current.saturated ||
        (figureHeld s.pool.g 0 g.amount || figureHeld s.pool.i g.amount 0)) ||
        decide (0 < rd.ar - (s.meter n).arMirror ∧
          2 ^ 48 - 1 < (s.periods.current.branches.get (s.meter n).branch).used + (rd.ar - (s.meter n).arMirror))) ||
        (passes Config.maxCount x 1 || passes Config.maxFigure y g.amount)) = (s.periods.current.saturated ||
      decide (2 ^ 48 - 1 < s.pool.g ∨ s.pool.g < g.amount ∨ 2 ^ 48 - 1 < s.pool.i + g.amount ∨
        (0 < rd.ar - (s.meter n).arMirror ∧
          2 ^ 48 - 1 < (s.periods.current.branches.get (s.meter n).branch).used + (rd.ar - (s.meter n).arMirror)) ∨
        2 ^ 32 - 1 < x + 1 ∨ 2 ^ 48 - 1 < y + g.amount)) := by
    rw [Bool.eq_iff_iff]
    simp only [Bool.or_eq_true, decide_eq_true_iff, figureHeld, Periods.passes_iff, maxFigure_eq, Periods.maxCount_eq,
      Nat.add_zero, Nat.not_lt_zero, or_false]
    tauto
  have hpool : (creditMeter n g.amount (poolConfirm g.amount s)).periods = { s.periods with current :=
      { s.periods.current with saturated := s.periods.current.saturated ||
        (figureHeld s.pool.g 0 g.amount || figureHeld s.pool.i g.amount 0) } } := changePool_periods ..
  have hused : (startHoldOff n (writeOutcome n g .applied claim (clearGrant n g (acceptReading n rd
      (creditMeter n g.amount (poolConfirm g.amount s)))))).periods = _ :=
    (by simp [acceptReading_periods, hmeter] : _ = (recordUsage (s.meter n).branch (rd.ar - (s.meter n).arMirror)
      (creditMeter n g.amount (poolConfirm g.amount s))).periods).trans (recordUsage_periods _ _ hpool)
  have hbanked : (confirmed s n g claim rd).periods = _ :=
    (by rw [confirmed_eq, leaveDraining_periods, entryResolved_periods]; rfl :
      _ = (bankApplied (s.meter n).branch g.amount _).periods).trans (addToBranchBank_periods hused)
  rw [hbanked, hhit]
  simp only [raiseTo_eq_min, Periods.maxCount_eq, maxFigure_eq]

theorem confirmed_branch (c : BranchId) : (confirmed s n g claim rd).branch c =
    if c = (s.meter n).branch then { s.branch c with pace := (s.branch c).pace - 1 } else s.branch c := by
  have hmeter := creditMeter_meter (poolConfirm g.amount s) n n g.amount
  rw [if_pos rfl, poolConfirm_meter] at hmeter
  have hbranch : ((writeOutcome n g .applied claim (clearGrant n g
      (acceptReading n rd (creditMeter n g.amount (poolConfirm g.amount s))))).meter n).branch = (s.meter n).branch := by
    rw [writeOutcome_meter, if_pos rfl, clearGrant_meter, if_pos rfl, acceptReading_meter, if_pos rfl, hmeter]
    rfl
  have hbranches : (writeOutcome n g .applied claim (clearGrant n g
      (acceptReading n rd (creditMeter n g.amount (poolConfirm g.amount s))))).branches = s.branches := by simp
  have hconfirmed : (confirmed s n g claim rd).branches = modifyAt s.branches (s.meter n).branch
      (fun x => { x with pace := x.pace - 1 }) := by
    rw [confirmed_eq, leaveDraining_branches, entryResolved_branches]
    simp only [banked, bankApplied_branches, startHoldOff, hbranch, modBranch_branches, modMeter_branches, hbranches]
  rw [State.branch, hconfirmed, modifyAt_get]
  by_cases h : c = (s.meter n).branch
  · rw [if_pos h, if_pos h, h]
    rfl
  · rw [if_neg h, if_neg h]
    rfl

theorem confirmed_engine : (confirmed s n g claim rd).engine =
    { s.engine with slots := slotsWithout g s.engine.slots } := by
  rw [confirmed_eq, leaveDraining_engine, entryResolved_engine]
  simp [banked]

theorem confirmed_notices : (confirmed s n g claim rd).notices =
    { s.notices with classes := (confirmed s n g claim rd).notices.classes } := by
  have hread := acceptReading_notices n rd (creditMeter n g.amount (poolConfirm g.amount s))
  have hpool : (creditMeter n g.amount (poolConfirm g.amount s)).notices = { s.notices with
    classes := (poolConfirm g.amount s).notices.classes } := changePool_notices ..
  rw [confirmed_eq, leaveDraining_notices, entryResolved_notices, banked_notices, hread, hpool]

/-- The hold-off that a confirmation starts (R34, R98). -/
theorem holdOffAfter_eq (r : Meter) (pace : Nat) : holdOffAfter s r pace =
    if r.state = .active ∨ r.state = .suspended then
      (if r.settings.holdOff * (if pace = 0 then 1 else 4) = 0 then none
        else some (s.timeBase + BitVec.ofNat 32 (r.settings.holdOff * (if pace = 0 then 1 else 4))))
    else r.holdOff := by
  have hlength : (if pace = 0 then r.settings.holdOff else 4 * r.settings.holdOff) =
      r.settings.holdOff * (if pace = 0 then 1 else 4) := by
    split <;> omega
  rw [holdOffAfter]
  dsimp only
  rw [hlength]
  rfl

theorem supervisionExpiry_eq : supervisionExpiry s n = s.timeBase + BitVec.ofNat 32 (3600 * (s.meter n).settings.hours) := by
  rw [supervisionExpiry, Nat.mul_comm]
  rfl

theorem confirmed_stock : (confirmed s n g claim rd).stock = (acceptReading n rd s).stock := by
  rw [confirmed_eq, leaveDraining_stock, entryResolved_stock, ← (readsAlike_credited s n g).stockAfter rd]
  simp [banked]

/-- What a confirmation leaves as it was. -/
theorem confirmed_frame : confirmed s n g claim rd = { s with
    pool := (confirmed s n g claim rd).pool, meters := (confirmed s n g claim rd).meters
    branches := (confirmed s n g claim rd).branches, engine := (confirmed s n g claim rd).engine
    list := (confirmed s n g claim rd).list, stock := (confirmed s n g claim rd).stock
    periods := (confirmed s n g claim rd).periods
    notices := { s.notices with classes := (confirmed s n g claim rd).notices.classes } } := by
  refine state_ext ?_ ?_ rfl rfl ?_ ?_ rfl ?_ ?_ rfl rfl rfl rfl ?_ (confirmed_notices ..) ?_ ?_ ?_ <;>
    simp [confirmed]

end Confirmation

/-- Settles O18: the state up to the restart is the confirmation's, given block by block. -/
theorem confirmationCreditsTheMeter : Obligations.ConfirmationCreditsTheMeter := by
  unfold Obligations.ConfirmationCreditsTheMeter
  intro n g claim rd s _
  refine ⟨confirmed s n g claim rd, ?_, ?_⟩
  · rw [confirmGrant_eq, afterSlotFreed_eq]
  · intro r b met length used bank entry entries ends spoken
    have hentries : entriesAfter g.source .applied s.list.entries = entries :=
      entriesAfter_eq g.source .applied s.list.entries
    have hends : runEnds g.source .applied s.list = ends := by
      rw [runEnds, hentries]
      rfl
    have hspoken : entrySpoken g.source s.list = spoken := rfl
    have hlist := resolved_list (s := s) n g.source .applied (u := banked s n g claim rd) (by simp [banked])
    have hphase := confirmed_noticeClass s n g claim rd
    rw [hentries, hends] at hlist
    rw [hends, hspoken] at hphase
    refine ⟨?_, fun o ho => (confirmed_meter ..).trans (if_neg ho), (confirmed_branch ..).trans (if_pos rfl),
      fun c hc => (confirmed_branch ..).trans (if_neg hc), ?_, fun k => ?_, ?_, confirmed_periods .., hlist,
      confirmed_stock .., hphase, ?_⟩
    · rw [confirmed_meter, if_pos rfl, supervisionExpiry_eq]
      dsimp only
      rw [holdOffAfter_eq]
      rfl
    · rw [confirmed_pool, poolConfirm_pool]
    · rw [confirmed_engine]
      exact slotsWithout_get ..
    · rw [confirmed_engine]
    · exact confirmed_frame ..

section Release

variable (s : State) (n : MeterId) (g : Grant) (claim : Claim) (rd : Option Report)

theorem poolRelease_noticeClass (x : Nat) (c : NoticeClass) : (poolRelease x s).noticeClass c = { s.noticeClass c with
    phase := if c = .pool ∧ s.pool.recorded.rank < (poolRelease x s).pool.recorded.rank then
      (s.noticeClass c).phase.afterCondition else (s.noticeClass c).phase } := by
  refine changePool_noticeClass s _ _ ?_ c
  rfl

/-- The pool and the allowance with the amount back (R95, R49). -/
def returned : State :=
  restoreAllowance (s.meter n).branch g (poolRelease g.amount s)

/-- The release up to the entry that the grant names. -/
def reversed : State :=
  bankReversed (s.meter n).branch (writeOutcome n g .reversed claim (clearGrant n g (acceptOptional n rd (returned s n g))))

theorem released_eq : released s n g claim rd = leaveDraining n (entryResolved g.source .reversed (reversed s n g claim rd)) :=
  rfl

theorem returned_meter (m : MeterId) : (returned s n g).meter m = s.meter m :=
  meter_congr (by simp [returned]) m

theorem readsAlike_returned : ReadsAlike n s (returned s n g) where
  stock := by simp [returned]
  branch := by rw [returned_meter]
  settings := by rw [returned_meter]
  labels := by rw [returned_meter]

/-- The reading of a release makes the linked line fall below its level (R151, R156). -/
def optionRaises : Bool := rd.any (fun x => readingRaises n x s)

theorem acceptOptional_noticeClass (c : NoticeClass) : (acceptOptional n rd s).noticeClass c = { s.noticeClass c with
    phase := if c = .reorder ∧ optionRaises s n rd = true then (s.noticeClass c).phase.afterCondition
      else (s.noticeClass c).phase } := by
  cases rd with
  | none => simp [acceptOptional, optionRaises]
  | some x => exact acceptReading_noticeClass n x s c

theorem optionRaises_returned : optionRaises (returned s n g) n rd = optionRaises s n rd := by
  cases rd with
  | none => rfl
  | some x => exact (readsAlike_returned s n g).raises x

theorem acceptOptional_notices : (acceptOptional n rd s).notices =
    { s.notices with classes := (acceptOptional n rd s).notices.classes } := by
  cases rd with
  | none => rfl
  | some x => exact acceptReading_notices ..

theorem reversed_notices : (reversed s n g claim rd).notices = (acceptOptional n rd (returned s n g)).notices := by
  simp [reversed]

theorem released_noticeClass (c : NoticeClass) : (released s n g claim rd).noticeClass c = { s.noticeClass c with
    phase :=
      if (c = .pool ∧ s.pool.recorded.rank < (released s n g claim rd).pool.recorded.rank) ∨
          (c = .list ∧ (runEnds g.source .reversed s.list || entrySpoken g.source s.list) = true) then
        (s.noticeClass c).phase.afterCondition
      else ((acceptOptional n rd s).noticeClass c).phase } := by
  have hread := acceptOptional_noticeClass (returned s n g) n rd c
  have hreturned : (returned s n g).noticeClass c = (poolRelease g.amount s).noticeClass c :=
    noticeClass_congr (by simp [returned]) c
  rw [optionRaises_returned, hreturned, ← noticeClass_congr (reversed_notices s n g claim rd) c] at hread
  rw [released_pool, acceptOptional_noticeClass, released_eq]
  exact resolved_noticeClass n g.source .reversed c (poolRelease_noticeClass s g.amount c) hread
    (by cases rd <;> simp [reversed, acceptOptional, returned])

theorem released_periods : (released s n g claim rd).periods = { s.periods with current := { s.periods.current with
    branches := modifyAt s.periods.current.branches (s.meter n).branch (fun k => { k with
      used := if rd.elim 0 (fun x => x.ar - (s.meter n).arMirror) = 0 then k.used
        else min (k.used + rd.elim 0 (fun x => x.ar - (s.meter n).arMirror)) (2 ^ 48 - 1)
      reversed := min (k.reversed + 1) (2 ^ 32 - 1) })
    saturated := s.periods.current.saturated ||
      decide (2 ^ 48 - 1 < s.pool.g ∨ s.pool.g < g.amount ∨ 2 ^ 48 - 1 < s.pool.p + g.amount ∨
        (0 < rd.elim 0 (fun x => x.ar - (s.meter n).arMirror) ∧
          2 ^ 48 - 1 < (s.periods.current.branches.get (s.meter n).branch).used +
            rd.elim 0 (fun x => x.ar - (s.meter n).arMirror)) ∨
        2 ^ 32 - 1 < (s.periods.current.branches.get (s.meter n).branch).reversed + 1) } } := by
  have hread : (acceptOptional n rd (returned s n g)).periods =
      (recordUsage (s.meter n).branch (rd.elim 0 (fun x => x.ar - (s.meter n).arMirror)) (returned s n g)).periods := by
    cases rd with
    | none => rfl
    | some x =>
      rw [acceptOptional, acceptReading_periods, returned_meter]
      rfl
  generalize rd.elim 0 (fun x => x.ar - (s.meter n).arMirror) = used at hread ⊢
  have hhit (x : Nat) : (((s.periods.current.saturated ||
        (figureHeld s.pool.g 0 g.amount || figureHeld s.pool.p g.amount 0)) ||
        decide (0 < used ∧ 2 ^ 48 - 1 < (s.periods.current.branches.get (s.meter n).branch).used + used)) ||
        passes Config.maxCount x 1) = (s.periods.current.saturated ||
      decide (2 ^ 48 - 1 < s.pool.g ∨ s.pool.g < g.amount ∨ 2 ^ 48 - 1 < s.pool.p + g.amount ∨
        (0 < used ∧ 2 ^ 48 - 1 < (s.periods.current.branches.get (s.meter n).branch).used + used) ∨
        2 ^ 32 - 1 < x + 1)) := by
    rw [Bool.eq_iff_iff]
    simp only [Bool.or_eq_true, decide_eq_true_iff, figureHeld, Periods.passes_iff, maxFigure_eq, Periods.maxCount_eq,
      Nat.add_zero, Nat.not_lt_zero, or_false]
    tauto
  have hpool : (returned s n g).periods = { s.periods with current :=
      { s.periods.current with saturated := s.periods.current.saturated ||
        (figureHeld s.pool.g 0 g.amount || figureHeld s.pool.p g.amount 0) } } :=
    (restoreAllowance_periods ..).trans (changePool_periods ..)
  have hused : (writeOutcome n g .reversed claim (clearGrant n g (acceptOptional n rd (returned s n g)))).periods = _ :=
    (by rw [writeOutcome_periods, clearGrant_periods, hread] :
      _ = (recordUsage (s.meter n).branch used (returned s n g)).periods).trans (recordUsage_periods _ _ hpool)
  have hbanked : (released s n g claim rd).periods = _ :=
    (by rw [released_eq, leaveDraining_periods, entryResolved_periods]; rfl :
      _ = (bankReversed (s.meter n).branch _).periods).trans (addToBranchBank_periods hused)
  rw [hbanked, hhit]
  simp only [raiseTo_eq_min, Periods.maxCount_eq]

theorem released_branch (c : BranchId) : (released s n g claim rd).branch c =
    if c = (s.meter n).branch then { s.branch c with
      allowance := if g.source = .request then
          (s.branch c).allowance.map (fun a => { a with remaining := min (a.remaining + g.amount) a.period })
        else (s.branch c).allowance }
    else s.branch c := by
  have hbranches : (released s n g claim rd).branches = (returned s n g).branches := by
    rw [released_eq, leaveDraining_branches, entryResolved_branches]
    cases rd <;> simp [reversed, acceptOptional]
  rw [State.branch, hbranches, returned, restoreAllowance]
  cases g.source with
  | request =>
    rw [if_pos rfl]
    refine (modBranch_branch (poolRelease g.amount s) (s.meter n).branch c _).trans ?_
    have hbranch (b : BranchId) : (poolRelease g.amount s).branch b = s.branch b :=
      congrArg (fun v : Vector Branch 48 => v.get b) (poolRelease_branches s g.amount)
    by_cases h : c = (s.meter n).branch
    · rw [if_pos h, if_pos h, hbranch, h]
    · rw [if_neg h, if_neg h, hbranch]
  | list e =>
    rw [if_neg (GrantSource.noConfusion : GrantSource.list e ≠ .request), ite_self]
    exact congrArg (fun v : Vector Branch 48 => v.get c) (poolRelease_branches s g.amount)

theorem released_engine : (released s n g claim rd).engine =
    { s.engine with slots := slotsWithout g s.engine.slots } := by
  rw [released_eq, leaveDraining_engine, entryResolved_engine]
  cases rd <;> simp [reversed, acceptOptional, returned]

theorem released_notices : (released s n g claim rd).notices =
    { s.notices with classes := (released s n g claim rd).notices.classes } := by
  have hread := acceptOptional_notices (returned s n g) n rd
  have hpool : (returned s n g).notices = { s.notices with classes := (poolRelease g.amount s).notices.classes } :=
    (restoreAllowance_notices ..).trans (changePool_notices ..)
  rw [released_eq, leaveDraining_notices, entryResolved_notices, reversed_notices, hread, hpool]

theorem released_stock : (released s n g claim rd).stock = (acceptOptional n rd s).stock := by
  rw [released_eq, leaveDraining_stock, entryResolved_stock]
  cases rd with
  | none => simp [reversed, acceptOptional, returned]
  | some x =>
    refine Eq.trans ?_ ((readsAlike_returned s n g).stockAfter x)
    simp [reversed, acceptOptional]

/-- What a release leaves as it was. -/
theorem released_frame : released s n g claim rd = { s with
    pool := (released s n g claim rd).pool, meters := (released s n g claim rd).meters
    branches := (released s n g claim rd).branches, engine := (released s n g claim rd).engine
    list := (released s n g claim rd).list, stock := (released s n g claim rd).stock
    periods := (released s n g claim rd).periods
    notices := { s.notices with classes := (released s n g claim rd).notices.classes } } := by
  refine state_ext ?_ ?_ rfl rfl ?_ ?_ rfl ?_ ?_ rfl rfl rfl rfl ?_ (released_notices ..) ?_ ?_ ?_ <;>
    cases rd <;> simp [released, acceptOptional]

end Release

/-- Settles O19: the state up to the restart is the release's, given block by block. -/
theorem releaseReturnsTheAmount : Obligations.ReleaseReturnsTheAmount := by
  unfold Obligations.ReleaseReturnsTheAmount
  intro n g claim rd s _
  refine ⟨released s n g claim rd, ?_, ?_⟩
  · rw [releaseGrant_eq, afterSlotFreed_eq]
  · intro b read r used bank entry entries ends spoken
    have hread : read = acceptOptional n rd s := by
      cases rd <;> rfl
    have hr : r = rd.elim (s.meter n) fun x => (s.meter n).accepted x (supervisionExpiry s n) := by
      cases rd with
      | none => rfl
      | some x => exact (acceptReading_meter s n n x).trans (if_pos rfl)
    have hentries : entriesAfter g.source .reversed s.list.entries = entries :=
      entriesAfter_eq g.source .reversed s.list.entries
    have hends : runEnds g.source .reversed s.list = ends := by
      rw [runEnds, hentries]
      rfl
    have hspoken : entrySpoken g.source s.list = spoken := rfl
    have hlist := resolved_list (s := s) n g.source .reversed (u := reversed s n g claim rd)
      (by cases rd <;> simp [reversed, acceptOptional, returned])
    have hphase := released_noticeClass s n g claim rd
    rw [hentries, hends] at hlist
    rw [hends, hspoken] at hphase
    rw [hread]
    refine ⟨?_, fun o ho => (released_meter ..).trans (if_neg ho), (released_branch ..).trans (if_pos rfl),
      fun c hc => (released_branch ..).trans (if_neg hc), ?_, fun k => ?_, ?_, released_periods .., hlist,
      released_stock .., hphase, released_frame ..⟩
    · rw [released_meter, if_pos rfl, hr]
      rfl
    · rw [released_pool, poolRelease_pool]
    · rw [released_engine]
      exact slotsWithout_get ..
    · rw [released_engine]

end Sys2Proof.Proofs.Resolution

/-!
The statement about the bytes of a frame: what is received of a frame as it is written.
-/

namespace Sys2Proof.Proofs.Frames

open Sys2Proof.Machine Sys2Proof.Proofs.Steps

/-! ## Bytes of a big-endian field -/

theorem beBytes_two (v : Nat) : beBytes 2 v = [BitVec.ofNat 8 (v / 256), BitVec.ofNat 8 v] := by
  simp [beBytes]

theorem toNat_of_two {v : Nat} (h : v < 2 ^ 16) : (BitVec.ofNat 8 (v / 256)).toNat * 256 + (BitVec.ofNat 8 v).toNat = v := by
  rw [BitVec.toNat_ofNat, BitVec.toNat_ofNat]
  omega

/-- The two check bytes, shifted in one after the other, give the check again (R193). -/
theorem shiftIn_two (c : Word16) :
    ((((0 : Word16) <<< 8) ||| (BitVec.ofNat 8 (c.toNat / 256)).setWidth 16) <<< 8) |||
      (BitVec.ofNat 8 c.toNat).setWidth 16 = c := by
  have hc : c.toNat < 2 ^ 16 := c.isLt
  have hhigh : c.toNat / 256 % 2 ^ 8 % 2 ^ 16 = c.toNat / 256 := by omega
  have hlow : c.toNat % 2 ^ 8 % 2 ^ 16 = c.toNat % 2 ^ 8 := by omega
  have hfirst (x : Word16) : ((0 : Word16) <<< 8) ||| x = x := by simp
  refine BitVec.eq_of_toNat_eq ?_
  rw [hfirst, BitVec.toNat_or, BitVec.toNat_shiftLeft, BitVec.toNat_setWidth,
    BitVec.toNat_setWidth, BitVec.toNat_ofNat, BitVec.toNat_ofNat, hhigh, hlow, Nat.shiftLeft_eq,
    Nat.mod_eq_of_lt (by omega), ← Nat.shiftLeft_eq, ← Nat.shiftLeft_add_eq_or_of_lt (by omega), Nat.shiftLeft_eq]
  omega

/-! ## What the bytes received add up to -/

/-- Bytes received one after the other, with good stop bits. -/
def received (now : Word32) (f : RxProgress) (xs : List Byte) : RxProgress :=
  xs.foldl (fun f b => f.push b true now) f

section Received

variable (now : Word32) (f : RxProgress) (xs ys : List Byte)

theorem received_append : received now f (xs ++ ys) = received now (received now f xs) ys :=
  List.foldl_append ..

theorem received_count : (received now f xs).count = f.count + xs.length := by
  induction xs generalizing f with
  | nil => rfl
  | cons b xs ih =>
    have hpush : (f.push b true now).count = f.count + 1 := rfl
    exact (ih _).trans (by rw [hpush, List.length_cons]; omega)

theorem received_badStop : (received now f xs).badStop = f.badStop := by
  induction xs generalizing f with
  | nil => rfl
  | cons b xs ih => exact (ih _).trans (Bool.or_false _)

theorem received_lMax : (received now f xs).lMax = f.lMax := by
  induction xs generalizing f with
  | nil => rfl
  | cons b xs ih => exact ih _

/-- Only the first L_max bytes are kept (R195). -/
theorem received_kept : (received now f xs).kept = f.kept ++ xs.take (f.lMax - f.count) := by
  induction xs generalizing f with
  | nil => simp [received]
  | cons b xs ih =>
    refine (ih (f.push b true now)).trans ?_
    have hcount : (f.push b true now).count = f.count + 1 := rfl
    have hkept : (f.push b true now).kept = if f.count < f.lMax then f.kept ++ [b] else f.kept := rfl
    have hmax : (f.push b true now).lMax = f.lMax := rfl
    rw [hcount, hkept, hmax]
    by_cases h : f.count < f.lMax
    · obtain ⟨k, hk⟩ : ∃ k, f.lMax - f.count = k + 1 := ⟨f.lMax - f.count - 1, by omega⟩
      rw [if_pos h, hk, List.take_succ_cons, (by omega : f.lMax - (f.count + 1) = k), List.append_assoc]
      rfl
    · rw [if_neg h, (by omega : f.lMax - f.count = 0), (by omega : f.lMax - (f.count + 1) = 0)]
      simp

/-- The length stands once its two bytes have come (R193). -/
theorem received_length (h : 3 ≤ f.count) : (received now f xs).length = f.length := by
  induction xs generalizing f with
  | nil => rfl
  | cons b xs ih =>
    have hcount : (f.push b true now).count = f.count + 1 := rfl
    have hpush : (f.push b true now).length = f.length := by
      have h1 : f.count ≠ 1 := by omega
      have h2 : f.count ≠ 2 := by omega
      simp [RxProgress.push, h1, h2]
    exact (ih (f.push b true now) (by omega)).trans hpush

/-- The bytes up to the stated end go into the running check, and no check byte has come (R193). -/
theorem received_checked (h : 3 ≤ f.count) (hend : f.count + xs.length ≤ f.length + 3) :
    (received now f xs).crc = xs.foldl crcByte f.crc ∧ (received now f xs).check = f.check := by
  induction xs generalizing f with
  | nil => exact ⟨rfl, rfl⟩
  | cons b xs ih =>
    rw [List.length_cons] at hend
    have hbefore : ¬ f.length + 3 ≤ f.count := by omega
    have hcount : (f.push b true now).count = f.count + 1 := rfl
    have hlength : (f.push b true now).length = f.length := received_length now f [b] h
    have hcrc : (f.push b true now).crc = crcByte f.crc b := by simp [RxProgress.push, hbefore]
    have hcheck : (f.push b true now).check = f.check := by simp [RxProgress.push, hbefore]
    obtain ⟨hthen, hstill⟩ := ih (f.push b true now) (by omega) (by omega)
    rw [hcrc] at hthen
    rw [hcheck] at hstill
    exact ⟨hthen, hstill⟩

/-- A byte after the stated end is a check byte (R193). -/
theorem push_check (b : Byte) (h : 3 ≤ f.count) (hend : f.length + 3 ≤ f.count) :
    (f.push b true now).crc = f.crc ∧ (f.push b true now).check = (f.check <<< 8) ||| b.setWidth 16 := by
  simp [RxProgress.push, h, hend]

end Received

/-! ## The frame -/

section Frame

variable (lMax : Nat) (now : Word32) (kind tag : Byte) (body : List Byte)

/-- The bytes that the check covers (R193). -/
def checkedBytes : List Byte :=
  BitVec.ofNat 8 ((body.length + 2) / 256) :: BitVec.ofNat 8 (body.length + 2) :: kind :: tag :: body

/-- The bytes after the start marker (R193). -/
def restBytes : List Byte :=
  checkedBytes kind tag body ++ [BitVec.ofNat 8 ((checkOf (checkedBytes kind tag body)).toNat / 256),
    BitVec.ofNat 8 (checkOf (checkedBytes kind tag body)).toNat]

theorem frameBytes_eq : frameBytes kind tag body = 0xA5 :: restBytes kind tag body := by
  rw [frameBytes, beBytes_two, beBytes_two]
  rfl

theorem restBytes_length : (restBytes kind tag body).length = body.length + 6 := by
  simp [restBytes, checkedBytes]

/-- A frame with its two length bytes received. -/
def measured : RxProgress :=
  received now (RxProgress.begin lMax now) [BitVec.ofNat 8 ((body.length + 2) / 256), BitVec.ofNat 8 (body.length + 2)]

theorem measured_count : (measured lMax now body).count = 3 := rfl

theorem measured_length (h : body.length + 2 < 2 ^ 16) : (measured lMax now body).length = body.length + 2 :=
  toNat_of_two h

theorem restBytes_eq : restBytes kind tag body =
    [BitVec.ofNat 8 ((body.length + 2) / 256), BitVec.ofNat 8 (body.length + 2)] ++ ((kind :: tag :: body) ++
      [BitVec.ofNat 8 ((checkOf (checkedBytes kind tag body)).toNat / 256),
        BitVec.ofNat 8 (checkOf (checkedBytes kind tag body)).toNat]) := rfl

/-- The last byte is known for what it is, and the length is never short (R193, R194). -/
theorem taken_judged (h : body.length + 2 < 2 ^ 16) {n : Nat} (hn : n < body.length + 6) :
    let g := received now (RxProgress.begin lMax now) ((restBytes kind tag body).take n)
    g.atLast = (n + 1 == body.length + 6) ∧ g.shortBy ((restBytes kind tag body)[n]?.getD 0) = false := by
  intro g
  have hcount : g.count = n + 1 := by
    have htaken : ((restBytes kind tag body).take n).length = n := by
      rw [List.length_take, restBytes_length]
      omega
    exact (received_count ..).trans (by rw [htaken, Nat.add_comm]; rfl)
  obtain _ | _ | k := n
  · simp [RxProgress.atLast, RxProgress.shortBy, hcount]
  · have hlong : ¬ g.length + ((restBytes kind tag body)[1]?.getD 0).toNat < 2 := by
      have hsum : g.length + ((restBytes kind tag body)[1]?.getD 0).toNat = body.length + 2 := toNat_of_two h
      omega
    refine ⟨?_, ?_⟩
    · simp [RxProgress.atLast, hcount]
    · rw [RxProgress.shortBy, decide_eq_false hlong, Bool.and_false]
  · have hlength : g.length = body.length + 2 :=
      (received_length now (measured lMax now body) _ (Nat.le_refl 3)).trans (measured_length lMax now body h)
    refine ⟨?_, ?_⟩
    · rw [Bool.eq_iff_iff]
      simp [RxProgress.atLast, hcount, hlength]
    · simp [RxProgress.shortBy, hcount]

/-- The check that comes with the frame is the check over its bytes (R193, R195). -/
theorem frame_good (h : body.length + 2 < 2 ^ 16) :
    (received now (RxProgress.begin lMax now) (restBytes kind tag body)).good = true := by
  have hlength := measured_length lMax now body h
  obtain ⟨hcrc, hcheck⟩ := received_checked now (measured lMax now body) (kind :: tag :: body) (Nat.le_refl 3)
    (by rw [hlength, measured_count, List.length_cons, List.length_cons]; omega)
  have hstart : (measured lMax now body).check = 0 := rfl
  let content := received now (measured lMax now body) (kind :: tag :: body)
  have hcount : content.count = body.length + 5 := by
    rw [received_count, measured_count, List.length_cons, List.length_cons]
    omega
  have hcontent : content.length = body.length + 2 := (received_length now _ _ (Nat.le_refl 3)).trans hlength
  have hcovered : content.crc = checkOf (checkedBytes kind tag body) := hcrc
  rw [hstart] at hcheck
  let x := BitVec.ofNat 8 ((checkOf (checkedBytes kind tag body)).toNat / 256)
  let y := BitVec.ofNat 8 (checkOf (checkedBytes kind tag body)).toNat
  have hone : (content.push x true now).count = body.length + 6 := congrArg (· + 1) hcount
  have hstill : (content.push x true now).length = body.length + 2 :=
    (received_length now content [x] (by omega)).trans hcontent
  obtain ⟨hcrc1, hcheck1⟩ := push_check now content x (by omega) (by omega)
  obtain ⟨hcrc2, hcheck2⟩ := push_check now (content.push x true now) y (by omega) (by omega)
  have hfinal : received now (RxProgress.begin lMax now) (restBytes kind tag body) =
      (content.push x true now).push y true now := by
    rw [restBytes_eq, received_append, received_append]
    rfl
  have hstop := received_badStop now (RxProgress.begin lMax now) (restBytes kind tag body)
  rw [RxProgress.good, hstop, hfinal, hcrc2, hcheck2, hcrc1, hcheck1, hcheck, shiftIn_two, hcovered, beq_self_eq_true]
  rfl

theorem frame_eq (h : body.length + 2 < 2 ^ 16) (hmax : 5 ≤ lMax) :
    (received now (RxProgress.begin lMax now) (restBytes kind tag body)).frame =
      { kind := kind, tag := tag, body := body.take (lMax - 5), length := body.length + 2
        oversize := decide (lMax < body.length + 7) } := by
  obtain ⟨k, hk⟩ : ∃ k, lMax = k + 5 := ⟨lMax - 5, by omega⟩
  have hlength : (received now (RxProgress.begin lMax now) (restBytes kind tag body)).length = body.length + 2 :=
    (received_length now (measured lMax now body) _ (Nat.le_refl 3)).trans (measured_length lMax now body h)
  have hlMax := received_lMax now (RxProgress.begin lMax now) (restBytes kind tag body)
  have hkept : (received now (RxProgress.begin lMax now) (restBytes kind tag body)).kept = 0xA5 ::
      BitVec.ofNat 8 ((body.length + 2) / 256) :: BitVec.ofNat 8 (body.length + 2) :: kind :: tag ::
      (body ++ [BitVec.ofNat 8 ((checkOf (checkedBytes kind tag body)).toNat / 256),
        BitVec.ofNat 8 (checkOf (checkedBytes kind tag body)).toNat]).take k := by
    rw [received_kept, restBytes_eq, hk]
    rfl
  rw [RxProgress.frame, hkept, hlength, hlMax, hk]
  have hbody (tail : List Byte) : ((body ++ tail).take k).take body.length = body.take k := by
    rw [List.take_take, Nat.min_comm, ← List.take_take, List.take_left]
  simp only [List.drop_succ_cons, List.drop_zero, Nat.add_sub_cancel, hbody]
  rfl

end Frame

/-- Settles O40: the bytes are followed through the three parts of the frame, length, content and check. -/
theorem framesAreReadAsTheyAreWritten : Obligations.FramesAreReadAsTheyAreWritten := by
  unfold Obligations.FramesAreReadAsTheyAreWritten
  intro kind tag body lMax now h hmax
  refine ⟨restBytes kind tag body, frameBytes_eq .., restBytes_length .., fun n hn => ?_, frame_good lMax now kind tag body h,
    frame_eq lMax now kind tag body h hmax⟩
  rw [restBytes_length] at hn ⊢
  exact taken_judged lMax now kind tag body h hn

end Sys2Proof.Proofs.Frames

/-!
The statement about the notices: their conditions, their bodies, and the class queued at an opportunity.
-/

namespace Sys2Proof.Proofs.Notices

open Sys2Proof.Machine Sys2Proof.Proofs.Steps

section Queuing

variable (s : State) (p : Port)

theorem opportunity_iff (h : s.powered = true) (c : NoticeClass) : opportunity s p c = true ↔
    s.powered = true ∧ (s.noticeClass c).phase = .pending ∧ (s.noticeClass c).enabled = true ∧
      (s.noticeClass c).route = p ∧ (s.line p).queue.length < 14 := by
  have hplaces : Config.queuePlaces = 16 := rfl
  have hfree : 2 < (s.line p).free ↔ (s.line p).queue.length < 14 := by
    rw [LineIf.free, hplaces]
    omega
  simp only [opportunity, Bool.and_eq_true, beq_iff_eq, decide_eq_true_iff, hfree, h, true_and, and_assoc]

/-- The classes stand in code order (R203). -/
theorem all_split (c : NoticeClass) : ∃ lower higher, NoticeClass.all = lower ++ c :: higher ∧
    ∀ d ∈ lower, d.idx < c.idx := by
  refine ⟨NoticeClass.all.take c.idx.val, NoticeClass.all.drop (c.idx.val + 1), ?_, ?_⟩
  · cases c <;> rfl
  · cases c <;> decide

theorem nextNotice_eq_some {c : NoticeClass} (hc : opportunity s p c = true)
    (hlower : ∀ d : NoticeClass, d.idx < c.idx → ¬ opportunity s p d = true) : nextNotice s p = some c := by
  obtain ⟨lower, higher, hall, hbelow⟩ := all_split c
  rw [nextNotice, List.find?_eq_some_iff_append]
  exact ⟨hc, lower, higher, hall, fun d hd => by simpa using hlower d (hbelow d hd)⟩

theorem queueNotice_eq (c : NoticeClass) : queueNotice c p s = State.setLine { s with
      notices := { s.notices with classes := modifyAt s.notices.classes c.idx (fun e => { e with phase := .queued p }) }
      retireList := if c = .retire then
          s.retireList.map (fun e => { e with
            sampled := ((s.retireList.take 16).map RetireEntry.meter).contains e.meter })
        else s.retireList } p
      { s.line p with queue := (s.line p).queue ++ [.notice c (noticeBody s c) (noticeCarries s c)] } := by
  unfold queueNotice
  dsimp only
  by_cases hc : c = .retire
  · rw [if_pos hc, if_pos hc]
    cases p <;> rfl
  · rw [if_neg hc, if_neg hc]
    cases p <;> rfl

end Queuing

/-! ## The bodies -/

section Bodies

variable (s : State)

theorem periodNoticeBody_eq : periodNoticeBody s =
    [[.u32 s.periods.closing.stamp.toNat, .u8 s.periods.closing.spanned, flag s.periods.collected,
        flag s.periods.closing.saturated],
      s.periods.closing.poolAtClose.elim [.u8 0] (fun x => [.u8 1, .u48 x]),
      [flag (decide (1 < s.periods.closing.spanned)), .u32 s.periods.current.stamp.toNat]].flatten := by
  have hclose : poolAtCloseFields s.periods.closing =
      s.periods.closing.poolAtClose.elim [.u8 0] (fun x => [.u8 1, .u48 x]) := by
    rw [poolAtCloseFields]
    cases s.periods.closing.poolAtClose <;> rfl
  rw [periodNoticeBody, hclose]
  simp

theorem reorderNoticeBody_eq : reorderNoticeBody s =
    [[.u8 (s.stock.reorder.take 16).length], (s.stock.reorder.take 16).flatMap (reorderFields s),
      [.u16 (s.stock.reorder.length - (s.stock.reorder.take 16).length)]].flatten := by
  have hpage : reorderPage s = s.stock.reorder.take 16 := rfl
  rw [reorderNoticeBody, hpage]
  simp

theorem silentNoticeBody_eq : silentNoticeBody s =
    [[.u8 (s.silentList.take 32).length], (s.silentList.take 32).flatMap (fun e =>
      [.u8 e.meter.val, .u32 e.time.toNat, .u8 (s.meter e.meter).state.code])].flatten := by
  have hpage : silentPage s = s.silentList.take 32 := rfl
  rw [silentNoticeBody, hpage]
  simp

theorem retireNoticeBody_eq : retireNoticeBody s =
    [[.u8 (s.retireList.take 16).length], (s.retireList.take 16).flatMap (fun e =>
      [.u8 e.meter.val, .u8 e.branch.val, .u48 e.finalAr, .u48 e.swept, .s64 e.delta, .u32 e.time.toNat,
        flag e.unreported])].flatten := by
  have hpage : retirePage s = s.retireList.take 16 := rfl
  rw [retireNoticeBody, hpage]
  simp

end Bodies

/-- Settles O41: the condition, the bodies by class, and the lowest ripe class in code order. -/
theorem noticesAreQueued : Obligations.NoticesAreQueued := by
  unfold Obligations.NoticesAreQueued
  refine ⟨fun c s => ?_, fun s => ?_, fun p s => ?_⟩
  · change modNotice c _ s = modNotice c _ s
    refine congrArg (fun f => modNotice c f s) (funext fun e => ?_)
    obtain ⟨enabled, route, phase⟩ := e
    cases phase <;> rfl
  · refine ⟨rfl, rfl, rfl, reorderNoticeBody_eq s, silentNoticeBody_eq s, rfl, periodNoticeBody_eq s,
      retireNoticeBody_eq s, rfl, rfl, rfl, fun c hs hr ht => ?_⟩
    cases c with
    | silent => exact absurd rfl hs
    | reorder => exact absurd rfl hr
    | retire => exact absurd rfl ht
    | started => rfl
    | fault => rfl
    | pool => rfl
    | list => rfl
    | period => rfl
  · intro ripe
    refine ⟨fun hnone => ?_, fun c hc hlower => ?_⟩
    · by_cases hp : s.powered = true
      · have hnext : nextNotice s p = none :=
          List.find?_eq_none.mpr fun c _ h => hnone c ((opportunity_iff s p hp c).mp h)
        exact congrArg Host.Outcome.next ((Lines.whenPowered_on _ hp).trans (by rw [hnext]))
      · exact congrArg Host.Outcome.next (Lines.whenPowered_off _ (by simpa using hp))
    · obtain ⟨hp, -⟩ := id hc
      have hnext : nextNotice s p = some c := nextNotice_eq_some s p ((opportunity_iff s p hp c).mpr hc)
        fun d hd h => hlower d hd ((opportunity_iff s p hp d).mp h)
      rw [← queueNotice_eq]
      exact congrArg Host.Outcome.next ((Lines.whenPowered_on _ hp).trans (by rw [hnext]))

end Sys2Proof.Proofs.Notices

/-!
The statement about the rings: who is present, who is a member of the high ring, and what a search finds.
-/

namespace Sys2Proof.Proofs.Rings

open Sys2Proof.Machine Sys2Proof.Proofs.Steps

/-! ## The order of a ring -/

section Order

variable {n : Nat} (start : Nat)

/-- The turn of a position in a ring searched from a pointer. -/
def turn (n start pos : Nat) : Nat :=
  (pos + n - start) % n

theorem turn_of_le {pos : Nat} (h : start ≤ pos) (hpos : pos < n) : turn n start pos = pos - start := by
  rw [turn, (by omega : pos + n - start = pos - start + n), Nat.add_mod_right, Nat.mod_eq_of_lt (by omega)]

theorem turn_of_lt {pos : Nat} (h : pos < start) (hpos : start ≤ n) : turn n start pos = pos + n - start := by
  rw [turn, Nat.mod_eq_of_lt (by omega)]

theorem le_of_mem_drop {x : Fin n} (h : x ∈ (List.finRange n).drop start) : start ≤ x.val := by
  obtain ⟨i, hi, rfl⟩ := List.mem_drop_iff_getElem.mp h
  simp

theorem lt_of_mem_take {x : Fin n} (h : x ∈ (List.finRange n).take start) : x.val < start := by
  obtain ⟨i, hi, rfl⟩ := List.mem_take_iff_getElem.mp h
  simp only [List.getElem_finRange, Fin.val_cast]
  omega

theorem mem_ringFrom (x : Fin n) : x ∈ ringFrom n start := by
  have h : x ∈ (List.finRange n).take start ++ (List.finRange n).drop start := by
    rw [List.take_append_drop]
    exact List.mem_finRange x
  exact List.mem_append.mpr (List.mem_append.mp h).symm

/-- A ring is listed by turns (R63, R64). -/
theorem ringFrom_pairwise (hstart : start ≤ n) :
    (ringFrom n start).Pairwise (fun x y => turn n start x.val < turn n start y.val) := by
  have hsorted := List.pairwise_lt_finRange n
  have hdrop : ((List.finRange n).drop start).Pairwise (· < ·) := hsorted.sublist (List.drop_sublist ..)
  have htake : ((List.finRange n).take start).Pairwise (· < ·) := hsorted.sublist (List.take_sublist ..)
  refine List.pairwise_append.mpr ⟨hdrop.imp_of_mem fun hx hy hxy => ?_, htake.imp_of_mem fun hx hy hxy => ?_,
    fun x hx y hy => ?_⟩
  · rw [turn_of_le start (le_of_mem_drop start hx) (Fin.isLt _), turn_of_le start (le_of_mem_drop start hy) (Fin.isLt _)]
    have hx' := le_of_mem_drop start hx
    have hlt := Fin.lt_def.mp hxy
    omega
  · rw [turn_of_lt start (lt_of_mem_take start hx) hstart, turn_of_lt start (lt_of_mem_take start hy) hstart]
    have hlt := Fin.lt_def.mp hxy
    omega
  · rw [turn_of_le start (le_of_mem_drop start hx) x.isLt, turn_of_lt start (lt_of_mem_take start hy) hstart]
    have hx' := le_of_mem_drop start hx
    have hn := x.isLt
    omega

/-- What a search of a ring finds has the first turn. -/
theorem findSome?_first {α : Type} {f : Fin n → Option α} {x : α} (hstart : start ≤ n)
    (h : (ringFrom n start).findSome? f = some x) : ∃ pos : Fin n, f pos = some x ∧
      ∀ other : Fin n, (f other).isSome = true → other ≠ pos → turn n start pos.val < turn n start other.val := by
  obtain ⟨earlier, pos, later, hlist, hfound, hearlier⟩ := List.findSome?_eq_some_iff.mp h
  refine ⟨pos, hfound, fun other hother hne => ?_⟩
  have hsorted := ringFrom_pairwise start hstart
  have hmem := mem_ringFrom start other
  rw [hlist] at hsorted hmem
  obtain hin | hin := List.mem_append.mp hmem
  · rw [hearlier other hin] at hother
    cases hother
  · obtain rfl | hin := List.mem_cons.mp hin
    · exact absurd rfl hne
    · exact (List.pairwise_cons.mp (List.pairwise_append.mp hsorted).2.1).1 other hin

theorem find?_first {p : Fin n → Bool} {x : Fin n} (hstart : start ≤ n) (h : (ringFrom n start).find? p = some x) :
    p x = true ∧ ∀ other : Fin n, p other = true → turn n start x.val ≤ turn n start other.val := by
  refine ⟨List.find?_some h, fun other hother => ?_⟩
  rw [List.find?_eq_findSome?_guard] at h
  obtain ⟨pos, hpos, hfirst⟩ := findSome?_first start hstart h
  obtain rfl : pos = x := (Option.guard_eq_some_iff.mp hpos).1
  by_cases hne : other = pos
  · rw [hne]
  · exact Nat.le_of_lt (hfirst other (by simpa [Option.guard] using hother) hne)

end Order

/-! ## Presence and membership -/

section Presence

variable (s : State)

/-- The meter's request waits to be served (R59). -/
def Waits (n : MeterId) (q : PendingRequest) : Prop :=
  (s.meter n).pendingReq = some q ∧ (s.meter n).state = .active ∧ (s.meter n).holdOff = none

theorem eligible_iff (n : MeterId) : eligible s n = true ↔ ∃ q, Waits s n q := by
  simp only [eligible, Waits, Bool.and_eq_true, Option.isSome_iff_exists, beq_iff_eq, Option.isNone_iff_eq_none]
  exact ⟨fun ⟨⟨⟨q, hq⟩, ha⟩, hh⟩ => ⟨q, hq, ha, hh⟩, fun ⟨q, hq, ha, hh⟩ => ⟨⟨⟨q, hq⟩, ha⟩, hh⟩⟩

theorem urgent_iff (n : MeterId) : (eligible s n && mappedHigh s n) = true ↔
    ∃ q, Waits s n q ∧ s.urgencyMap.get q.urgency = .high := by
  rw [Bool.and_eq_true, eligible_iff, mappedHigh]
  constructor
  · rintro ⟨⟨q, hq, hrest⟩, hhigh⟩
    rw [hq, Option.any_some, beq_iff_eq] at hhigh
    exact ⟨q, ⟨hq, hrest⟩, hhigh⟩
  · rintro ⟨q, ⟨hq, hrest⟩, hhigh⟩
    refine ⟨⟨q, hq, hrest⟩, ?_⟩
    rw [hq, Option.any_some, beq_iff_eq]
    exact hhigh

theorem present_branch {r : Requester} (h : r.val < 48) : present s r = branchPresent s ⟨r.val, h⟩ := by
  rw [present, requesterBranch, dif_pos h]

theorem present_list {r : Requester} (h : ¬ r.val < 48) : present s r = listPresent s := by
  rw [present, requesterBranch, dif_neg h]

theorem highMember_branch {r : Requester} (h : r.val < 48) : highMember s r =
    (present s r && ((s.branch ⟨r.val, h⟩).cls == .high || (oldestUrgent s ⟨r.val, h⟩).isSome)) := by
  rw [highMember, requesterBranch, dif_pos h]

theorem highMember_list {r : Requester} (h : ¬ r.val < 48) : highMember s r = (present s r && s.list.cls == .high) := by
  rw [highMember, requesterBranch, dif_neg h]

theorem branchPresent_iff (b : BranchId) : branchPresent s b = true ↔ (s.branch b).configured = true ∧
    (s.branch b).suspended = false ∧ ∃ n ∈ (s.branch b).order, ∃ q, Waits s n q := by
  simp only [branchPresent, oldestEligible, Bool.and_eq_true, Bool.not_eq_true', List.find?_isSome, eligible_iff, and_assoc]

theorem nextWaiting_isSome_iff : (nextWaiting s).isSome = true ↔
    ∃ e, s.list.entries[s.list.next]? = some e ∧ e.outcome = .waiting := by
  simp only [nextWaiting, Option.isSome_iff_exists, Option.filter_eq_some_iff, beq_iff_eq]

theorem listPresent_iff : listPresent s = true ↔
    s.list.state = .running ∧ ∃ e, s.list.entries[s.list.next]? = some e ∧ e.outcome = .waiting := by
  rw [listPresent, Bool.and_eq_true, beq_iff_eq, nextWaiting_isSome_iff]

theorem oldestUrgent_isSome_iff (b : BranchId) : (oldestUrgent s b).isSome = true ↔
    ∃ n ∈ (s.branch b).order, ∃ q, Waits s n q ∧ s.urgencyMap.get q.urgency = .high := by
  simp only [oldestUrgent, List.find?_isSome, urgent_iff]

theorem present_of_highMember {r : Requester} (h : highMember s r = true) : present s r = true :=
  (Bool.and_eq_true_iff.mp h).1

theorem lowOnly_iff (r : Requester) : lowOnly s r = true ↔ present s r = true ∧ highMember s r = false := by
  simp [lowOnly]

end Presence

/-! ## The search -/

section Search

variable (s : State)

theorem highPosition_member {r : Requester} (h : highMember s r = true) :
    highPosition s ⟨r.val, by omega⟩ =
      some { requester := r, ring := .high, high := highAfter r, low := s.arbiter.low } := by
  have hr : r.val < 49 := r.isLt
  rw [highPosition, dif_pos hr]
  exact if_pos h

theorem highPosition_of_lt {pos : Fin 50} {x : Pick} (hpos : pos.val < 49) (h : highPosition s pos = some x) :
    highMember s ⟨pos.val, hpos⟩ = true ∧
      x = { requester := ⟨pos.val, hpos⟩, ring := .high, high := highAfter ⟨pos.val, hpos⟩, low := s.arbiter.low } := by
  rw [highPosition, dif_pos hpos] at h
  dsimp only at h
  split at h
  · next hmember => exact ⟨hmember, (Option.some.inj h).symm⟩
  · cases h

theorem highPosition_last {pos : Fin 50} (hpos : ¬ pos.val < 49) : highPosition s pos =
    (lowSearch s (lowOnly s)).map (fun q => { requester := q, ring := .low, high := 0, low := lowAfter q }) := by
  rw [highPosition, dif_neg hpos]

theorem lowSearch_isSome_iff (ok : Requester → Bool) : (lowSearch s ok).isSome = true ↔ ∃ r : Requester, ok r = true := by
  rw [lowSearch, List.find?_isSome]
  exact ⟨fun ⟨r, _, hr⟩ => ⟨r, hr⟩, fun ⟨r, hr⟩ => ⟨r, mem_ringFrom _ r, hr⟩⟩

theorem lowAfter_val (q : Requester) : (lowAfter q).val = (q.val + 1) % 49 := by
  have hq : q.val < 49 := q.isLt
  unfold lowAfter
  split
  · next h => exact (Nat.mod_eq_of_lt h).symm
  · have hlast : q.val = 48 := by omega
    rw [hlast]
    rfl

theorem requesters_any_iff (ok : Requester → Bool) : requesters.any ok = true ↔ ∃ r : Requester, ok r = true := by
  simp [requesters]

theorem ringSearch_high (h : ∃ r : Requester, highMember s r = true) :
    ringSearch s = (ringFrom 50 s.arbiter.high.val).findSome? (highPosition s) :=
  if_pos ((requesters_any_iff _).mpr h)

theorem ringSearch_low (h : ¬ ∃ r : Requester, highMember s r = true) : ringSearch s = (lowSearch s (present s)).map
    (fun q => { requester := q, ring := .low, high := s.arbiter.high, low := lowAfter q }) :=
  if_neg fun hany => h ((requesters_any_iff _).mp hany)

theorem ringSearch_eq_none_iff : ringSearch s = none ↔ ∀ r : Requester, present s r = false := by
  by_cases h : ∃ r : Requester, highMember s r = true
  · obtain ⟨r, hr⟩ := id h
    have hpresent := present_of_highMember s hr
    rw [ringSearch_high s h]
    constructor
    · intro hnone
      have := List.findSome?_eq_none_iff.mp hnone ⟨r.val, by omega⟩ (mem_ringFrom ..)
      rw [highPosition_member s hr] at this
      cases this
    · intro hnone
      rw [hnone r] at hpresent
      cases hpresent
  · rw [ringSearch_low s h, Option.map_eq_none_iff, ← Option.not_isSome_iff_eq_none, lowSearch_isSome_iff]
    simp

theorem lowSearch_first {ok : Requester → Bool} {q : Requester} (h : lowSearch s ok = some q) : ok q = true ∧
    ∀ other : Requester, ok other = true → turn 49 s.arbiter.low.val q.val ≤ turn 49 s.arbiter.low.val other.val :=
  find?_first _ (Nat.le_of_lt s.arbiter.low.isLt) h

end Search

/-- Settles O42: presence and membership by requester, and the search by the ring that finds. -/
theorem ringsAreSearchedFromThePointers : Obligations.RingsAreSearchedFromThePointers := by
  unfold Obligations.RingsAreSearchedFromThePointers
  intro s waits
  refine ⟨fun r => ?_, ?_⟩
  · by_cases h : r.val < 48
    · rw [dif_pos h]
      refine ⟨?_, ?_⟩
      · rw [present_branch s h]
        exact branchPresent_iff s _
      · rw [highMember_branch s h, Bool.and_eq_true, Bool.or_eq_true, beq_iff_eq, oldestUrgent_isSome_iff]
        exact Iff.rfl
    · rw [dif_neg h]
      refine ⟨?_, ?_⟩
      · rw [present_list s h]
        exact listPresent_iff s
      · rw [highMember_list s h, Bool.and_eq_true, beq_iff_eq]
  · intro turnHigh turnLow
    refine ⟨ringSearch_eq_none_iff s, fun x hx => ?_⟩
    by_cases h : ∃ r : Requester, highMember s r = true
    · rw [if_pos h]
      rw [ringSearch_high s h] at hx
      obtain ⟨pos, hpos, hfirst⟩ := findSome?_first s.arbiter.high.val (Nat.le_of_lt s.arbiter.high.isLt) hx
      have hmember {r : Requester} (hr : highMember s r = true) (hne : r.val ≠ pos.val) :
          turnHigh pos.val < turnHigh r.val :=
        hfirst ⟨r.val, by omega⟩ (by rw [highPosition_member s hr]; rfl) fun e => hne (congrArg Fin.val e)
      by_cases hlast : pos.val < 49
      · obtain ⟨hhigh, rfl⟩ := highPosition_of_lt s hlast hpos
        refine .inl ⟨rfl, hhigh, rfl, rfl, fun r hr => ?_, fun ⟨q, hq, hlow⟩ => ?_⟩
        · by_cases hne : r.val = pos.val
          · exact Nat.le_of_eq (congrArg turnHigh hne.symm)
          · exact Nat.le_of_lt (hmember hr hne)
        · refine hfirst 49 ?_ fun e => absurd hlast (by rw [← e]; decide)
          rw [highPosition_last s (by decide), Option.isSome_map, lowSearch_isSome_iff]
          exact ⟨q, (lowOnly_iff s q).mpr ⟨hq, hlow⟩⟩
      · have hpos49 : pos.val = 49 := by omega
        rw [highPosition_last s hlast] at hpos
        obtain ⟨q, hq, rfl⟩ := Option.map_eq_some_iff.mp hpos
        obtain ⟨hok, hlowest⟩ := lowSearch_first s hq
        obtain ⟨hpresent, hnot⟩ := (lowOnly_iff s q).mp hok
        refine .inr ⟨rfl, hpresent, hnot, rfl, lowAfter_val q, fun r hr => ?_, fun other hother hothernot =>
          hlowest other ((lowOnly_iff s other).mpr ⟨hother, hothernot⟩)⟩
        calc turnHigh 49 = turnHigh pos.val := congrArg turnHigh hpos49.symm
          _ < turnHigh r.val := hmember hr (by omega)
    · rw [if_neg h]
      rw [ringSearch_low s h] at hx
      obtain ⟨q, hq, rfl⟩ := Option.map_eq_some_iff.mp hx
      obtain ⟨hpresent, hlowest⟩ := lowSearch_first s hq
      exact ⟨rfl, hpresent, rfl, lowAfter_val q, hlowest⟩

end Sys2Proof.Proofs.Rings

/-!
The statement about SELECTION: its six conditions, the holder that goes on, and the requester that a search finds.
-/

namespace Sys2Proof.Proofs.Selection

open Sys2Proof.Machine Sys2Proof.Proofs.Steps Sys2Proof.Proofs.Rings

/-! ## When the arbiter selects -/

section Conditions

variable (s : State)

theorem freeSlot?_isSome_iff : (freeSlot? s).isSome = true ↔ ∃ k : SlotId, s.engine.slots.get k = none := by
  simp [freeSlot?, List.find?_isSome]

theorem selectable_iff : selectable s = true ↔
    s.monitor.state = .inService ∧ s.engine.state = .active ∧ (∃ k : SlotId, s.engine.slots.get k = none) ∧
      s.operations.queue.length ≤ 13 ∧ s.pool.engagement ≤ s.pool.p - s.pool.floor ∧
      ∃ r : Requester, present s r = true := by
  have hplaces : Config.selectionPlaces = 3 ∧ Config.queuePlaces = 16 := ⟨rfl, rfl⟩
  have hfree : Config.selectionPlaces ≤ s.operations.free ↔ s.operations.queue.length ≤ 13 := by
    rw [LineIf.free, hplaces.1, hplaces.2]
    omega
  simp only [selectable, Bool.and_eq_true, beq_iff_eq, decide_eq_true_iff, freeSlot?_isSome_iff, hfree,
    requesters_any_iff, and_assoc]
  exact Iff.rfl

end Conditions

/-! ## The request that a branch is served -/

section Requests

variable (s : State)

/-- The oldest request that the rule of R65 takes for a branch chosen from a ring. -/
def foundRequest (b : BranchId) (ring : Ring) : Option MeterId :=
  (s.branch b).order.find? (fun n =>
    (s.meter n).pendingReq.isSome && (s.meter n).state == .active && (s.meter n).holdOff.isNone &&
      (ring == .low || (s.branch b).cls == .high ||
        (s.meter n).pendingReq.any (fun q => s.urgencyMap.get q.urgency == .high)))

theorem requestFor_eq (ring : Ring) (b : BranchId) : requestFor s ring b = foundRequest s b ring := by
  have hlow : ∀ p : MeterId → Bool, (∀ n, p n = true) → oldestEligible s b =
      (s.branch b).order.find? (fun n =>
        (s.meter n).pendingReq.isSome && (s.meter n).state == .active && (s.meter n).holdOff.isNone && p n) :=
    fun p hp => by simp only [hp, Bool.and_true]; rfl
  unfold requestFor foundRequest
  cases ring with
  | low => exact hlow _ fun n => rfl
  | high =>
    cases (s.branch b).cls with
    | low => rfl
    | high => exact hlow _ fun n => rfl

theorem batchOn_eq (r : Requester) :
    batchOn s r = if h : r.val < 48 then (s.branch ⟨r.val, h⟩).batch else s.list.batch := by
  unfold batchOn requesterBranch
  split <;> split at * <;> simp_all

theorem serve_branch {r : Requester} (h : r.val < 48) (ring : Ring) : serve r ring s =
    (foundRequest s ⟨r.val, h⟩ ring).elim s (fun n => serveRequest n s) := by
  have hbranch : requesterBranch r = some ⟨r.val, h⟩ := dif_pos h
  rw [← requestFor_eq, serve, hbranch]
  cases hfound : requestFor s ring ⟨r.val, h⟩ <;> simp [hfound]

theorem serve_list {r : Requester} (h : ¬ r.val < 48) (ring : Ring) : serve r ring s = serveList s := by
  rw [serve, requesterBranch, dif_neg h]

theorem findsRequest_iff (r : Requester) (ring : Ring) : findsRequest s r ring = true ↔
    if h : r.val < 48 then (foundRequest s ⟨r.val, h⟩ ring).isSome = true
    else ∃ e, s.list.entries[s.list.next]? = some e ∧ e.outcome = .waiting := by
  by_cases h : r.val < 48
  · rw [dif_pos h, findsRequest, requesterBranch, dif_pos h, ← requestFor_eq]
  · rw [dif_neg h, findsRequest, requesterBranch, dif_neg h, ← nextWaiting_isSome_iff]

end Requests

/-! ## A holder that is not served again -/

section Holder

variable (s : State)

theorem continuingHolder_eq_some_iff (r : Requester) (ring : Ring) : continuingHolder s = some (r, ring) ↔
    s.arbiter.holder = some (r, ring) ∧ present s r = true ∧ batchOn s r = true ∧
      s.arbiter.counter < s.engine.batchLimit ∧ findsRequest s r ring = true := by
  simp only [continuingHolder, Option.filter_eq_some_iff, Bool.and_eq_true, decide_eq_true_iff, and_assoc]

/-- The arbiter without a batch holder. -/
def freed : State :=
  { s with arbiter := { s.arbiter with holder := none, counter := 0 } }

theorem listHoldsBatch_iff : listHoldsBatch s = true ↔ s.arbiter.holder.map Prod.fst = some 48 := by
  unfold listHoldsBatch
  cases s.arbiter.holder with
  | none => simp
  | some h => simp [listRequester]

theorem giveUpBatch_eq : giveUpBatch s =
    if s.list.state = .halting ∧ s.arbiter.holder.map Prod.fst = some 48 then
      setCondition .list { freed s with list := { s.list with state := .halted } }
    else freed s := by
  unfold giveUpBatch
  dsimp only
  exact if_congr (by rw [listHoldsBatch_iff]; exact and_comm) rfl rfl

variable {s} in
/-- What a search finds depends on who is present, on the high ring and on the pointers. -/
theorem ringSearch_congr {t : State} (hpresent : ∀ r, present t r = present s r)
    (hhigh : ∀ r, highMember t r = highMember s r) (harbiter : t.arbiter.high = s.arbiter.high ∧ t.arbiter.low = s.arbiter.low) :
    ringSearch t = ringSearch s := by
  obtain ⟨hupper, hlower⟩ := harbiter
  have hpresent' : present t = present s := funext hpresent
  have hhigh' : highMember t = highMember s := funext hhigh
  have hlow : lowOnly t = lowOnly s := funext fun r => by rw [lowOnly, lowOnly, hpresent', hhigh']
  have hposition : highPosition t = highPosition s := funext fun pos => by
    simp only [highPosition, lowSearch, hhigh', hlow, hlower]
  simp only [ringSearch, lowSearch, hhigh', hpresent', hposition, hupper, hlower]

theorem ringSearch_freed : ringSearch (freed s) = ringSearch s :=
  ringSearch_congr (fun _ => rfl) (fun _ => rfl) ⟨rfl, rfl⟩

/-- A HALTING list is no more present than a HALTED one (R118). -/
theorem ringSearch_halted (h : s.list.state = .halting) :
    ringSearch (setCondition .list { freed s with list := { s.list with state := .halted } }) = ringSearch s := by
  have hpresent (r : Requester) :
      present (setCondition .list { freed s with list := { s.list with state := .halted } }) r = present s r := by
    by_cases hr : r.val < 48
    · rw [present_branch _ hr, present_branch _ hr]
      rfl
    · rw [present_list _ hr, present_list _ hr, listPresent, listPresent, h]
      rfl
  refine ringSearch_congr hpresent (fun r => ?_) ⟨rfl, rfl⟩
  rw [highMember, highMember, hpresent]
  rfl

theorem ringSearch_giveUpBatch : ringSearch (giveUpBatch s) = ringSearch s := by
  rw [giveUpBatch_eq]
  split
  · next h => exact ringSearch_halted s h.1
  · exact ringSearch_freed s

theorem batchOn_giveUpBatch (r : Requester) : batchOn (giveUpBatch s) r = batchOn s r := by
  rw [giveUpBatch_eq]
  split <;> rfl

theorem select_of_continuing {r : Requester} {ring : Ring} (h : continuingHolder s = some (r, ring)) :
    select s = serve r ring (s.setArbiter { s.arbiter with counter := s.arbiter.counter + 1 }) := by
  rw [select, h]

theorem select_of_search {x : Pick} (h : continuingHolder s = none) (hx : ringSearch s = some x) :
    select s = serve x.requester x.ring ((giveUpBatch s).setArbiter
      { high := x.high, low := x.low
        holder := if batchOn s x.requester then some (x.requester, x.ring) else none
        counter := if batchOn s x.requester then 1 else 0 }) := by
  rw [select, h]
  dsimp only
  rw [ringSearch_giveUpBatch, hx, ← batchOn_giveUpBatch s]
  rfl

end Holder

/-- Settles O43: the holder that goes on, or the requester that the rings give. -/
theorem selectionPicksARequester : Obligations.SelectionPicksARequester := by
  unfold Obligations.SelectionPicksARequester
  intro s six found batches served
  have hserved (r : Requester) (ring : Ring) (a : Arbiter) (v : State) :
      serve r ring (v.setArbiter a) = served r ring a v := by
    by_cases h : r.val < 48
    · refine (serve_branch (v.setArbiter a) h ring).trans ?_
      refine Eq.trans ?_ (dif_pos h).symm
      have hfound : foundRequest (v.setArbiter a) ⟨r.val, h⟩ ring = found ⟨r.val, h⟩ ring v := rfl
      rw [hfound]
      cases found ⟨r.val, h⟩ ring v <;> rfl
    · have hlist : served r ring a v = serveList { v with arbiter := a } := dif_neg h
      exact (serve_list (v.setArbiter a) h ring).trans hlist.symm
  have hbatches (r : Requester) : batchOn s r = batches r := batchOn_eq s r
  refine ⟨fun h => ?_, fun hp hsix => ?_⟩
  · obtain hoff | hnot := h
    · exact congrArg Host.Outcome.next (Lines.whenPowered_off _ hoff)
    · refine congrArg Host.Outcome.next ?_
      have hrefused : ¬ selectable s = true := fun h => hnot ((selectable_iff s).mp h)
      by_cases hp : s.powered = true
      · exact (Lines.whenPowered_on _ hp).trans (if_neg hrefused)
      · exact Lines.whenPowered_off _ (by simpa using hp)
  · intro goesOn
    have hselect : exec .selection s = .next (select s) :=
      congrArg Host.Outcome.next ((Lines.whenPowered_on _ hp).trans (if_pos ((selectable_iff s).mpr hsix)))
    have hgoes (r : Requester) (ring : Ring) : continuingHolder s = some (r, ring) ↔ goesOn r ring := by
      rw [continuingHolder_eq_some_iff, hbatches, findsRequest_iff]
      exact Iff.rfl
    rw [hselect]
    refine ⟨fun r ring h => ?_, fun hnone => ?_⟩
    · rw [select_of_continuing s ((hgoes r ring).mpr h), hserved]
    · intro free v
      have hholder : continuingHolder s = none :=
        Option.eq_none_iff_forall_ne_some.mpr fun h hh => hnone h.1 h.2 ((hgoes h.1 h.2).mp hh)
      obtain ⟨-, -, -, -, -, r, hr⟩ := id hsix
      obtain ⟨x, hx⟩ : ∃ x, ringSearch s = some x := Option.ne_none_iff_exists'.mp fun h => by
        have := (ringSearch_eq_none_iff s).mp h r
        rw [hr] at this
        cases this
      refine ⟨x, hx, ?_⟩
      rw [select_of_search s hholder hx, hserved, giveUpBatch_eq, hbatches]
      rfl

end Sys2Proof.Proofs.Selection

/-!
The statement about the service of a pending request: the amount, the refusal SHORT and the reservation.
-/

namespace Sys2Proof.Proofs.Grants

open Sys2Proof.Machine Sys2Proof.Proofs.Steps Sys2Proof.Proofs.PoolUnit

/-! ## The raw amount and the cause (R75 to R79) -/

section Amount

variable (t : Terms)

theorem leastOf_le_of_eq {x y : Nat} {o : Option Nat} (h : o = some y) : leastOf x o ≤ y := by
  subst h
  exact Nat.min_le_right x y

theorem leastOf_cases (x : Nat) (o : Option Nat) : leastOf x o = x ∨ o = some (leastOf x o) := by
  cases o with
  | none => exact .inl rfl
  | some y =>
    obtain h | h := Nat.le_total x y
    · exact .inl (Nat.min_eq_left h)
    · exact .inr (congrArg some (Nat.min_eq_right h).symm)

/-- The raw amount is within every term. -/
theorem raw_le : t.raw ≤ t.q ∧ t.raw ≤ t.headroom ∧ t.raw ≤ t.available ∧ (∀ a, t.allowance = some a → t.raw ≤ a) ∧
    ∀ c, t.ration = some c → t.raw ≤ c := by
  have hration : t.raw ≤ leastOf (min (min t.q t.headroom) t.available) t.allowance := leastOf_le _ _
  have hthree : t.raw ≤ min (min t.q t.headroom) t.available := hration.trans (leastOf_le _ _)
  refine ⟨by omega, by omega, by omega, fun a h => hration.trans (leastOf_le_of_eq h), fun c h => leastOf_le_of_eq h⟩

/-- The raw amount is one of the terms. -/
theorem raw_cases : t.raw = t.q ∨ t.raw = t.headroom ∨ t.raw = t.available ∨ t.allowance = some t.raw ∨
    t.ration = some t.raw := by
  obtain h | h := leastOf_cases (leastOf (min (min t.q t.headroom) t.available) t.allowance) t.ration
  · have hraw : t.raw = leastOf (min (min t.q t.headroom) t.available) t.allowance := h
    obtain h | h := leastOf_cases (min (min t.q t.headroom) t.available) t.allowance
    · rw [← hraw] at h
      omega
    · rw [← hraw] at h
      exact .inr (.inr (.inr (.inl h)))
  · exact .inr (.inr (.inr (.inr h)))

theorem binds_iff (h : t.raw ≠ t.q) (x : Nat) : t.binds x = true ↔ t.raw = x := by
  obtain ⟨hle, -⟩ := raw_le t
  rw [Terms.binds, Bool.and_eq_true, decide_eq_true_iff, decide_eq_true_iff]
  omega

theorem any_binds_iff (h : t.raw ≠ t.q) (o : Option Nat) : o.any t.binds = true ↔ o = some t.raw := by
  cases o with
  | none => simp
  | some x => rw [Option.any_some, binds_iff t h, Option.some.injEq, eq_comm]

theorem not_binds (h : t.raw = t.q) (x : Nat) : t.binds x = false := by
  rw [Terms.binds, Bool.and_eq_false_iff, decide_eq_false_iff_not, decide_eq_false_iff_not]
  omega

/-- The cause of a refusal SHORT is the first term that binds (R78, R79). -/
theorem cause_eq : t.cause =
    if t.raw = t.q then .minimum
    else if t.raw = t.headroom then .ceiling
    else if t.allowance = some t.raw then .allowance
    else if t.raw = t.available then .pool
    else .ration := by
  by_cases h : t.raw = t.q
  · have hany (o : Option Nat) : o.any t.binds = false := by
      cases o with
      | none => rfl
      | some x => exact not_binds t h x
    simp only [Terms.cause, not_binds t h, hany, if_pos h, Bool.false_eq_true, if_false]
  · have hlast : t.raw ≠ t.headroom → t.allowance ≠ some t.raw → t.raw ≠ t.available → t.ration = some t.raw := by
      have := raw_cases t
      tauto
    simp only [Terms.cause, binds_iff t h, any_binds_iff t h, if_neg h]
    split_ifs with h1 h2 h3 h4
    · rfl
    · rfl
    · rfl
    · rfl
    · exact absurd (hlast h1 h2 h3) h4

end Amount

/-! ## The reservation (R81, R82) -/

section Reservation

variable (m : MeterId) (x : Nat) (source : GrantSource) (s : State)

theorem poolReserve_eq : poolReserve x s = recheckPool { s with
    pool := { s.pool with p := s.pool.p - x, g := min (s.pool.g + x) (2 ^ 48 - 1) }
    periods := { s.periods with current := { s.periods.current with
      saturated := s.periods.current.saturated ||
        decide (2 ^ 48 - 1 < s.pool.p ∨ s.pool.p < x ∨ 2 ^ 48 - 1 < s.pool.g + x) } } } := by
  refine congrArg recheckPool ?_
  have hhit : (figureHeld s.pool.p 0 x || figureHeld s.pool.g x 0) =
      decide (2 ^ 48 - 1 < s.pool.p ∨ s.pool.p < x ∨ 2 ^ 48 - 1 < s.pool.g + x) := by
    rw [Bool.eq_iff_iff]
    simp only [Bool.or_eq_true, decide_eq_true_iff, figureHeld, Periods.passes_iff, maxFigure_eq, Nat.add_zero,
      Nat.not_lt_zero, or_false, or_assoc]
  rw [← hhit, ← raiseFigure_eq]
  rfl

variable {s} in
/-- What an offer adds to a state whose engine, time base and queue are those of another. -/
theorem offerGrant_frame {w : State} {k : SlotId} (hslot : freeSlot? s = some k)
    (hserial : takenSerial w = takenSerial s) (hengine : w.engine = s.engine) (htime : w.timeBase = s.timeBase)
    (hqueue : w.operations = s.operations) : offerGrant m x source w =
      { modMeter m (fun y => { y with
          grant := some { serial := takenSerial s, amount := x, phase := .offered k, source := source } }) w with
        engine := { s.engine with
          nextSerial := if takenSerial s = 65535 then 1 else takenSerial s + 1
          slots := modifyAt s.engine.slots k (fun _ => some
            { serial := takenSerial s, meter := m, amount := x
              expiry := s.timeBase + BitVec.ofNat 32 s.engine.window }) }
        operations := { s.operations with
          queue := s.operations.queue ++ [.grantOffer m (takenSerial s) x s.engine.window] } } := by
  have hfree : freeSlot? w = some k := (freeSlot?_congr (by rw [hengine])).trans hslot
  rw [offerGrant_eq hfree, placed, newGrant, expiryAfter, hserial, htime, hengine, ← hqueue]
  rfl

/-- The lowest free slot (R86). -/
theorem freeSlot?_of_lowest {k : SlotId} (hk : s.engine.slots.get k = none)
    (hlower : ∀ j : SlotId, j < k → s.engine.slots.get j ≠ none) : freeSlot? s = some k := by
  obtain ⟨j, hj⟩ := Option.isSome_iff_exists.mp ((Selection.freeSlot?_isSome_iff s).mpr ⟨k, hk⟩)
  obtain ⟨hfree, earlier, later, hlist, hearlier⟩ := List.find?_eq_some_iff_append.mp hj
  have hsorted := List.pairwise_lt_finRange 8
  have hmem := List.mem_finRange k
  rw [hlist] at hsorted hmem
  obtain hin | hin := List.mem_append.mp hmem
  · exact absurd (hearlier k hin) (by simp [hk])
  · obtain rfl | hin := List.mem_cons.mp hin
    · exact hj
    · have hlt : j < k := (List.pairwise_cons.mp (List.pairwise_append.mp hsorted).2.1).1 k hin
      exact absurd (Option.isNone_iff_eq_none.mp hfree) (hlower j hlt)

end Reservation

/-! ## The service of a request (R75 to R83) -/

section Service

variable (n : MeterId) (x : Nat) (s : State)

theorem serveRequest_eq {q : PendingRequest} (h : (s.meter n).pendingReq = some q) : serveRequest n s =
    if roundDown (s.meter n).settings.step (branchTerms s n q.q).raw = 0 ∨
        roundDown (s.meter n).settings.step (branchTerms s n q.q).raw < (s.meter n).settings.minimum then
      refuseShort n (branchTerms s n q.q).cause s
    else reserveForRequest n (roundDown (s.meter n).settings.step (branchTerms s n q.q).raw) s := by
  rw [serveRequest, h]

theorem refuseShort_eq (cause : Cause) : refuseShort n cause s =
    let u := removeRequest n s
    { u with
      branches := modifyAt u.branches (s.meter n).branch (fun y => { y with pace := 15 })
      periods := { s.periods with current := { s.periods.current with
        branches := modifyAt s.periods.current.branches (s.meter n).branch (fun y => { y with
          short := min (y.short + 1) (2 ^ 32 - 1) })
        saturated := s.periods.current.saturated ||
          decide (2 ^ 32 - 1 < (s.periods.current.branches.get (s.meter n).branch).short + 1) } }
      operations := { s.operations with queue := s.operations.queue ++ [.refillRefused n cause] } } := by
  simp only [refuseShort, bankShort, raiseTo_eq_min, passes]
  rfl

/-- A request removed after a change that keeps the record (R81). -/
theorem removeRequest_of_branch {w : State} {b : BranchId} (h : (w.meter n).branch = b) : removeRequest n w =
    modMeter n (fun y => { y with pendingReq := none })
      (modBranch b (fun y => { y with order := y.order.filter (fun m => m != n) }) w) := by
  rw [removeRequest, h]

/-- The figures, the allowance and the request behind a reservation (R81). -/
def prepared : State :=
  removeRequest n (consumeAllowance (s.meter n).branch x (poolReserve x s))

theorem consumeAllowance_meter (b : BranchId) (m : MeterId) :
    (consumeAllowance b x (poolReserve x s)).meter m = s.meter m :=
  meter_congr (by simp [consumeAllowance]) m

theorem prepared_eq : prepared n x s = modMeter n (fun y => { y with pendingReq := none })
    (modBranch (s.meter n).branch (fun y => { y with order := y.order.filter (fun m => m != n) })
      (modBranch (s.meter n).branch (fun y => { y with
          allowance := y.allowance.map (fun a => { a with remaining := a.remaining - x }) }) (poolReserve x s))) :=
  removeRequest_of_branch n (by rw [consumeAllowance_meter])

theorem takenSerial_prepared : takenSerial (prepared n x s) = takenSerial s := by
  refine takenSerial_congr (by simp [prepared, consumeAllowance]) fun m => ?_
  rw [prepared, removeRequest_meter, consumeAllowance_meter, consumeAllowance_meter]
  split
  · next e => rw [e]
  · rfl

theorem reserveForRequest_eq {k : SlotId} (hslot : freeSlot? s = some k) : reserveForRequest n x s =
    { modMeter n (fun y => { y with
        grant := some { serial := takenSerial s, amount := x, phase := .offered k, source := .request } })
        (prepared n x s) with
      engine := { s.engine with
        nextSerial := if takenSerial s = 65535 then 1 else takenSerial s + 1
        slots := modifyAt s.engine.slots k (fun _ => some
          { serial := takenSerial s, meter := n, amount := x
            expiry := s.timeBase + BitVec.ofNat 32 s.engine.window }) }
      operations := { s.operations with
        queue := s.operations.queue ++ [.grantOffer n (takenSerial s) x s.engine.window] } } :=
  offerGrant_frame n x .request hslot (takenSerial_prepared n x s) (by simp [consumeAllowance])
    (by simp [consumeAllowance]) (by simp [consumeAllowance])

end Service

/-- Settles O44: the first free serial, and the two outcomes of a request by the terms of the branch form. -/
theorem requestsAreGrantedOrRefused : Obligations.RequestsAreGrantedOrRefused := by
  unfold Obligations.RequestsAreGrantedOrRefused
  refine ⟨fun s h => takenSerial_eq s h, fun n q k s hq hk hlower => ⟨(branchTerms s n q.q).raw, ?_⟩⟩
  intro r b v head rations cap left x dropped
  have hslot := freeSlot?_of_lowest s hk hlower
  have hx : roundDown (s.meter n).settings.step (branchTerms s n q.q).raw = x := Nat.mul_comm ..
  have hserve := serveRequest_eq n s hq
  rw [hx] at hserve
  have hration (c : Nat) : (branchTerms s n q.q).ration = some c ↔ rations = true ∧ c = cap := by
    have hcap : (branchTerms s n q.q).ration =
        if 0 < s.pool.threshold ∧ v < s.pool.threshold then some cap else none := rfl
    rw [hcap, decide_eq_true_iff]
    split
    · next h => simp [h, eq_comm]
    · next h => simp [h]
  obtain ⟨hleq, hlehead, hlev, hleft, hcap⟩ := raw_le (branchTerms s n q.q)
  refine ⟨⟨hleq, hlehead, hlev, hleft, fun h => hcap cap ((hration cap).mpr ⟨h, rfl⟩)⟩, ?_, fun hshort => ?_,
    fun h0 hmin => ?_⟩
  · have hcases := raw_cases (branchTerms s n q.q)
    rw [hration] at hcases
    exact hcases
  · intro cause bank u
    have hcause : (branchTerms s n q.q).cause = cause := cause_eq _
    rw [hserve, if_pos hshort, refuseShort_eq, hcause]
    rfl
  · intro serial u
    have hu : prepared n x s = u := by
      rw [prepared_eq, poolReserve_eq]
    rw [hserve, if_neg (fun hor => hor.elim h0 hmin.not_gt), reserveForRequest_eq n x s hslot, hu]

end Sys2Proof.Proofs.Grants

/-!
The statement about the service of the List Unit: the outcome of its next entry, and the end of the run.
-/

namespace Sys2Proof.Proofs.ListService

open Sys2Proof.Machine Sys2Proof.Proofs.Steps Sys2Proof.Proofs.PoolUnit Sys2Proof.Proofs.Faults Sys2Proof.Proofs.Resolution
  Sys2Proof.Proofs.Grants

/-! ## The outcome of the next entry (R119 to R121) -/

section Outcome

variable (e : Entry) (s : State)

/-- The raw amount of the list form (R79). -/
def entryRaw : Nat :=
  min e.q (min ((s.meter e.meter).settings.ceiling - (s.meter e.meter).drMirror) (s.pool.p - s.pool.floor))

/-- The amount of the list form (R76, R79). -/
def entryAmount : Nat :=
  (s.meter e.meter).settings.step * (entryRaw e s / (s.meter e.meter).settings.step)

/-- The cause of a SHORT entry (R79). -/
def entryCause : Cause :=
  if entryRaw e s = e.q then .minimum
  else if entryRaw e s = (s.meter e.meter).settings.ceiling - (s.meter e.meter).drMirror then .ceiling
  else .pool

/-- The outcome that a service gives the entry (R119 to R121). -/
def servedOutcome : EntryOutcome :=
  if (s.meter e.meter).state ≠ .active then .skippedState (s.meter e.meter).state
  else if (s.meter e.meter).grant ≠ none then .skippedBusy
  else if entryAmount e s = 0 then .short (entryCause e s)
  else .offered

/-- The entry ends the meter's pending request (R120). -/
def supersedes : Bool :=
  (s.meter e.meter).state == .active && (s.meter e.meter).grant.isNone && (s.meter e.meter).pendingReq.isSome

/-- The entries after the service (R118). -/
def servedEntries : List Entry :=
  s.list.entries.modify s.list.next (fun y => { y with
    outcome := servedOutcome e s
    serial := if servedOutcome e s = .offered then some (takenSerial s) else y.serial })

/-- A SHORT entry halts the list (R121). -/
def shortHalts : Bool :=
  entryAmount e s == 0 && servedOutcome e s == .short (entryCause e s) && e.stopOnShort &&
    (servedEntries e s).any (fun y => y.outcome == .waiting)

/-- The state with the pending request ended (R120). -/
def relieved : State :=
  if supersedes e s then enqueue .operations (.refillRefused e.meter .superseded) (removeRequest e.meter s) else s

/-- The terms of the list form, read with the request ended or not. -/
theorem listTerms_eq {t : State} (hpool : t.pool = s.pool) (hsettings : (t.meter e.meter).settings = (s.meter e.meter).settings)
    (hmirror : (t.meter e.meter).drMirror = (s.meter e.meter).drMirror) :
    (listTerms t e.meter e.q).raw = entryRaw e s ∧ (listTerms t e.meter e.q).cause = entryCause e s := by
  have hterms : listTerms t e.meter e.q = listTerms s e.meter e.q := by
    simp only [listTerms, headroomOf, hpool, hsettings, hmirror]
  have hraw : (listTerms s e.meter e.q).raw = entryRaw e s := Nat.min_assoc ..
  refine ⟨by rw [hterms, hraw], ?_⟩
  have hnone : (listTerms s e.meter e.q).allowance = none ∧ (listTerms s e.meter e.q).ration = none := ⟨rfl, rfl⟩
  have hone := raw_cases (listTerms s e.meter e.q)
  rw [hnone.1, hnone.2, hraw] at hone
  rw [hterms, cause_eq, hnone.1, hraw, entryCause]
  have hlast : entryRaw e s ≠ e.q → entryRaw e s ≠ (s.meter e.meter).settings.ceiling - (s.meter e.meter).drMirror →
      entryRaw e s = (listTerms s e.meter e.q).available := by
    intro hq hhead
    obtain h | h | h | h | h := hone
    · exact absurd h hq
    · exact absurd h hhead
    · exact h
    · cases h
    · cases h
  by_cases hq : entryRaw e s = e.q
  · rw [if_pos hq]
    exact if_pos hq
  · by_cases hhead : entryRaw e s = (s.meter e.meter).settings.ceiling - (s.meter e.meter).drMirror
    · rw [if_neg hq, if_pos hhead]
      exact (if_neg hq).trans (if_pos hhead)
    · rw [if_neg hq, if_neg hhead]
      exact (if_neg hq).trans ((if_neg hhead).trans ((if_neg (by simp)).trans (if_pos (hlast hq hhead))))

theorem relieved_meter (m : MeterId) : (relieved e s).meter m = if m = e.meter then
    { s.meter m with pendingReq := if supersedes e s then none else (s.meter m).pendingReq } else s.meter m := by
  unfold relieved
  cases supersedes e s
  · simp
  · refine Eq.trans (b := (removeRequest e.meter s).meter m) (meter_congr (by simp) m) ?_
    rw [removeRequest_meter]
    split
    · next h => rw [h]; rfl
    · rfl

theorem relieved_branch (b : BranchId) : (relieved e s).branch b = { s.branch b with
    order := if supersedes e s = true ∧ (s.meter e.meter).branch = b then
      (s.branch b).order.filter (fun m => m != e.meter) else (s.branch b).order } := by
  unfold relieved
  cases supersedes e s
  · simp
  · rw [if_pos rfl]
    have hb : (enqueue .operations (.refillRefused e.meter .superseded) (removeRequest e.meter s)).branch b =
      (removeRequest e.meter s).branch b := rfl
    rw [hb, removeRequest_branch]
    by_cases h : b = (s.meter e.meter).branch
    · subst h
      simp
    · simp [h, Ne.symm h]

theorem relieved_operations : (relieved e s).operations = { s.operations with queue := s.operations.queue ++
    (if supersedes e s = true then [.refillRefused e.meter .superseded] else []) } := by
  unfold relieved
  cases supersedes e s
  · simp
  · rfl

/-- What ending the request leaves as it was. -/
theorem relieved_frame : relieved e s = { s with
    meters := (relieved e s).meters, branches := (relieved e s).branches, operations := (relieved e s).operations } := by
  unfold relieved
  split <;> rfl

/-! ## The entry processed, by its outcome -/

theorem relieved_of_not (h : supersedes e s = false) : relieved e s = s :=
  if_neg (by simp [h])

theorem supersede_eq_relieved (hactive : (s.meter e.meter).state = .active) (hgrant : (s.meter e.meter).grant = none) :
    supersede e.meter s = relieved e s := by
  have hsupersedes : supersedes e s = (s.meter e.meter).pendingReq.isSome := by
    simp [supersedes, hactive, hgrant]
  rw [relieved, hsupersedes, supersede]

theorem finishEntry_modified (i : Nat) {outcome : EntryOutcome} (h : servedOutcome e s = outcome) (ho : outcome ≠ .offered)
    {t : State} (hlist : t.list = s.list) (hi : s.list.next = i) :
    (finishEntry i outcome t).list = { s.list with entries := servedEntries e s } := by
  rw [finishEntry_list, hlist, servedEntries, h, hi]
  simp only [if_neg ho]

/-- The state with the outcome of the entry set. -/
def finished : State :=
  finishEntry s.list.next (servedOutcome e s) (relieved e s)

theorem servedOutcome_ne_waiting : servedOutcome e s ≠ .waiting := by
  unfold servedOutcome
  split_ifs <;> simp

variable {e s} in
/-- The entries that wait after the service are those behind it (R118, R121). -/
theorem servedEntries_waiting (he : s.list.entries[s.list.next]? = some e)
    (hbefore : ∀ y ∈ s.list.entries.take s.list.next, y.outcome ≠ .waiting) :
    (servedEntries e s).any (fun y => y.outcome == .waiting) =
      (s.list.entries.drop (s.list.next + 1)).any (fun y => y.outcome == .waiting) := by
  obtain ⟨hi, -⟩ := List.getElem?_eq_some_iff.mp he
  have htaken : (s.list.entries.take s.list.next).any (fun y => y.outcome == .waiting) = false := by
    simpa using hbefore
  have hserved : (servedOutcome e s == .waiting) = false := by
    simpa using servedOutcome_ne_waiting e s
  rw [servedEntries, List.modify_eq_take_cons_drop hi, List.any_append, List.any_cons, htaken, hserved,
    Bool.false_or, Bool.false_or]

theorem relieved_list : (relieved e s).list = s.list := by
  rw [relieved_frame]

theorem relieved_pool : (relieved e s).pool = s.pool := by
  rw [relieved_frame]

theorem relieved_meter_self : (relieved e s).meter e.meter = { s.meter e.meter with
    pendingReq := if supersedes e s then none else (s.meter e.meter).pendingReq } :=
  (relieved_meter ..).trans (if_pos rfl)

theorem shortHalts_of_ne (h : servedOutcome e s ≠ .short (entryCause e s)) : shortHalts e s = false := by
  simp [shortHalts, h]

variable {e s} in
/-- An entry that no amount is worked out for (R119). -/
theorem processEntry_of_skipped (h : (s.meter e.meter).state ≠ .active ∨ (s.meter e.meter).grant ≠ none) :
    processEntry s.list.next e s = finished e s ∧ shortHalts e s = false := by
  have hnone : supersedes e s = false := by
    obtain h | h := h
    · simp [supersedes, h]
    · rw [supersedes, Option.isNone_eq_false_iff.mpr (Option.isSome_iff_ne_none.mpr h), Bool.and_false, Bool.false_and]
  rw [finished, relieved_of_not e s hnone]
  by_cases hactive : (s.meter e.meter).state = .active
  · have hgrant := h.resolve_left (fun hn => hn hactive)
    have hserved : servedOutcome e s = .skippedBusy := (if_neg (fun hn => hn hactive)).trans (if_pos hgrant)
    refine ⟨?_, shortHalts_of_ne e s (by rw [hserved]; simp)⟩
    rw [hserved, processEntry, if_neg (fun hn => hn hactive), if_pos (Option.isSome_iff_ne_none.mpr hgrant)]
  · have hserved : servedOutcome e s = .skippedState (s.meter e.meter).state := if_pos hactive
    refine ⟨?_, shortHalts_of_ne e s (by rw [hserved]; simp)⟩
    rw [hserved, processEntry, if_pos hactive]

variable {e s} in
/-- An entry that an amount is worked out for (R120, R121). -/
theorem processEntry_of_computed (hactive : (s.meter e.meter).state = .active)
    (hgrant : (s.meter e.meter).grant = none) : processEntry s.list.next e s =
    if entryAmount e s = 0 then entryShort s.list.next e (entryCause e s) (relieved e s)
    else reserveForEntry s.list.next e.meter (entryAmount e s) (relieved e s) := by
  have hself := relieved_meter_self e s
  obtain ⟨hraw, hcause⟩ := listTerms_eq e s (relieved_pool e s) (by rw [hself]) (by rw [hself])
  have hstep : ((relieved e s).meter e.meter).settings.step = (s.meter e.meter).settings.step := by rw [hself]
  have hnone : ¬ (s.meter e.meter).grant.isSome = true := by simp [hgrant]
  have hamount : roundDown (s.meter e.meter).settings.step (entryRaw e s) = entryAmount e s := Nat.mul_comm ..
  rw [processEntry, if_neg (fun hn => hn hactive), if_neg hnone, supersede_eq_relieved e s hactive hgrant, computeEntry]
  rw [hraw, hcause, hstep, hamount]

variable {e s} in
/-- The service of an entry that is not OFFERED (R119, R121). -/
theorem processEntry_of_not_offered (he : s.list.entries[s.list.next]? = some e)
    (hbefore : ∀ y ∈ s.list.entries.take s.list.next, y.outcome ≠ .waiting) (ho : servedOutcome e s ≠ .offered) :
    processEntry s.list.next e s = if shortHalts e s then haltList (finished e s) else finished e s := by
  by_cases hskipped : (s.meter e.meter).state ≠ .active ∨ (s.meter e.meter).grant ≠ none
  · obtain ⟨hprocessed, hhalts⟩ := processEntry_of_skipped hskipped
    rw [hprocessed, hhalts]
    rfl
  · have hactive : (s.meter e.meter).state = .active := not_not.mp fun h => hskipped (.inl h)
    have hgrant : (s.meter e.meter).grant = none := not_not.mp fun h => hskipped (.inr h)
    have hcomputed : servedOutcome e s = if entryAmount e s = 0 then .short (entryCause e s) else .offered :=
      (if_neg (fun hn => hn hactive)).trans (if_neg (fun hn => hn hgrant))
    have hzero : entryAmount e s = 0 := by
      by_contra h
      exact ho (hcomputed.trans (if_neg h))
    have hserved : servedOutcome e s = .short (entryCause e s) := hcomputed.trans (if_pos hzero)
    have hhalts : (e.stopOnShort = true ∧
        ((relieved e s).list.entries.drop (s.list.next + 1)).any (fun y => y.outcome == .waiting) = true) ↔
        shortHalts e s = true := by
      rw [shortHalts, servedEntries_waiting he hbefore, hzero, hserved, relieved_list]
      simp
    rw [processEntry_of_computed hactive hgrant, if_pos hzero, entryShort, finished, hserved]
    exact if_congr hhalts rfl rfl

variable {e s} in
/-- The service of an entry that is OFFERED (R82). -/
theorem processEntry_of_offered (ho : servedOutcome e s = .offered) :
    processEntry s.list.next e s = reserveForEntry s.list.next e.meter (entryAmount e s) (relieved e s) := by
  have hactive : (s.meter e.meter).state = .active := by
    by_contra h
    rw [servedOutcome, if_pos h] at ho
    cases ho
  have hgrant : (s.meter e.meter).grant = none := by
    by_contra h
    rw [servedOutcome, if_neg (fun hn => hn hactive), if_pos h] at ho
    cases ho
  have hamount : entryAmount e s ≠ 0 := by
    intro h
    rw [servedOutcome, if_neg (fun hn => hn hactive), if_neg (fun hn => hn hgrant), if_pos h] at ho
    cases ho
  rw [processEntry_of_computed hactive hgrant, if_neg hamount]

end Outcome

/-! ## The end of the run (R122) -/

section EndRun

variable (s : State)

theorem endRun_list : (endRun s).list = { s.list with
    state := if anyWaiting s then s.list.state else if anyOffered s then .drainingList else .done } := by
  unfold endRun
  cases anyWaiting s
  · cases anyOffered s <;> rfl
  · rfl

theorem endRun_noticeClass (c : NoticeClass) : (endRun s).noticeClass c = { s.noticeClass c with
    phase := if c = .list ∧ (!anyWaiting s && !anyOffered s) = true then (s.noticeClass c).phase.afterCondition
      else (s.noticeClass c).phase } := by
  unfold endRun
  cases anyWaiting s
  · cases anyOffered s
    · refine (listDone_noticeClass s c).trans ?_
      simp
    · have hset : (setListState .drainingList s).noticeClass c = s.noticeClass c := rfl
      simp [hset]
  · simp

end EndRun

/-! ## What a service does not reach -/

section Unserved

variable (s : State)

/-- The fields that no service of the list changes. -/
def unserved :=
  (s.powered, s.timeBase, s.silentList, s.retireList, s.urgencyMap, s.arbiter, s.stock, s.monitor, s.audit, s.pending,
    s.notices.cause, s.notices.completed)

theorem unserved_relieved (e : Entry) : unserved (relieved e s) = unserved s := by
  rw [relieved_frame]
  rfl

theorem unserved_finishEntry (i : Nat) (outcome : EntryOutcome) : unserved (finishEntry i outcome s) = unserved s := by
  unfold finishEntry
  dsimp only
  split <;> rfl

theorem unserved_haltList : unserved (haltList s) = unserved s := rfl

theorem unserved_poolReserve (x : Nat) : unserved (poolReserve x s) = unserved s := by
  have hnotices : (poolReserve x s).notices = { s.notices with classes := (poolReserve x s).notices.classes } :=
    changePool_notices ..
  have hcause : (poolReserve x s).notices.cause = s.notices.cause :=
    (congrArg Notices.cause hnotices :)
  have hcompleted : (poolReserve x s).notices.completed = s.notices.completed :=
    (congrArg Notices.completed hnotices :)
  simp only [unserved, hcause, hcompleted, poolReserve_powered, poolReserve_timeBase, poolReserve_silentList, poolReserve_retireList,
    poolReserve_urgencyMap, poolReserve_arbiter, poolReserve_stock, poolReserve_monitor, poolReserve_audit,
    poolReserve_pending]

theorem unserved_endRun : unserved (endRun s) = unserved s := by
  unfold endRun
  cases anyWaiting s
  · cases anyOffered s <;> rfl
  · rfl

variable {s} in
theorem frame_of_unserved {u : State} (h : unserved u = unserved s) : u = { s with
    pool := u.pool, meters := u.meters, branches := u.branches, engine := u.engine, list := u.list
    operations := u.operations, periods := u.periods
    notices := { s.notices with classes := u.notices.classes } } := by
  simp only [unserved, Prod.mk.injEq] at h
  obtain ⟨hpowered, htime, hsilent, hretire, hmap, harbiter, hstock, hmonitor, haudit, hpending, hcause, hcompleted⟩ := h
  have hnotices : u.notices = ⟨u.notices.classes, s.notices.cause, s.notices.completed⟩ := by
    rw [← hcause, ← hcompleted]
  exact state_ext hpowered htime rfl rfl hsilent hretire rfl hmap harbiter rfl rfl hstock rfl hmonitor hnotices rfl haudit
    hpending

end Unserved

/-! ## The two ways of a service -/

section Service

variable {e : Entry} {s : State} {k : SlotId}

/-- An entry of a list that the service reserves for (R82). -/
theorem reserveForEntry_eq (hslot : freeSlot? s = some k) (x : Nat) :
    reserveForEntry s.list.next e.meter x (relieved e s) =
      modEntry s.list.next (fun y => { y with outcome := .offered, serial := some (takenSerial s) })
        { modMeter e.meter (fun y => { y with
            grant := some { serial := takenSerial s, amount := x, phase := .offered k, source := .list (some s.list.next) } })
            (poolReserve x (relieved e s)) with
          engine := { s.engine with
            nextSerial := if takenSerial s = 65535 then 1 else takenSerial s + 1
            slots := modifyAt s.engine.slots k (fun _ => some
              { serial := takenSerial s, meter := e.meter, amount := x
                expiry := s.timeBase + BitVec.ofNat 32 s.engine.window }) }
          operations := { (relieved e s).operations with
            queue := (relieved e s).operations.queue ++ [.grantOffer e.meter (takenSerial s) x s.engine.window] } } := by
  have hengine : (relieved e s).engine = s.engine := by rw [relieved_frame]
  have htime : (relieved e s).timeBase = s.timeBase := by rw [relieved_frame]
  have hserial : takenSerial (relieved e s) = takenSerial s :=
    takenSerial_congr (by rw [hengine]) fun m => by
      rw [relieved_meter]
      split <;> rfl
  have hfree : freeSlot? (relieved e s) = some k := (freeSlot?_congr (by rw [hengine])).trans hslot
  rw [reserveForEntry, offerGrant_frame e.meter x (.list (some s.list.next)) hfree (takenSerial_poolReserve _ x) (by simp)
    (by simp) (by simp), hserial, hengine, htime]

/-- The list and the conditions at the end of a service, from those of the entry processed (R118, R122). -/
theorem served_list {w : State} (hw : w.list = { s.list with
      entries := servedEntries e s, state := if shortHalts e s then .halted else s.list.state }) :
    (endRun (advanceEntry w)).list = { s.list with
      entries := servedEntries e s
      next := s.list.next + 1
      state := if shortHalts e s then .halted
        else if (servedEntries e s).any (fun y => y.outcome == .waiting) then s.list.state
        else if (servedEntries e s).any (fun y => y.outcome == .offered) then .drainingList else .done } := by
  have hlist : (advanceEntry w).list = { w.list with next := w.list.next + 1 } := rfl
  have hhalts : shortHalts e s = true → (servedEntries e s).any (fun y => y.outcome == .waiting) = true :=
    fun h => (Bool.and_eq_true_iff.mp h).2
  rw [endRun_list, anyWaiting, anyOffered, hlist, hw]
  cases hwaits : (servedEntries e s).any (fun y => y.outcome == .waiting) with
  | true => cases shortHalts e s <;> rfl
  | false =>
    cases hh : shortHalts e s with
    | true => exact absurd (hhalts hh) (by simp [hwaits])
    | false => rfl

theorem served_noticeClass {w : State} {spoken : Bool} {drops : Prop} [Decidable drops] (hw : w.list = { s.list with
      entries := servedEntries e s, state := if shortHalts e s then .halted else s.list.state }) (c : NoticeClass)
    (hc : w.noticeClass c = { s.noticeClass c with
      phase := if (c = .list ∧ (shortHalts e s || spoken) = true) ∨ (c = .pool ∧ drops) then
        (s.noticeClass c).phase.afterCondition else (s.noticeClass c).phase }) :
    (endRun (advanceEntry w)).noticeClass c = { s.noticeClass c with
      phase :=
        if (c = .list ∧ (shortHalts e s ||
              (!(servedEntries e s).any (fun y => y.outcome == .waiting) &&
                !(servedEntries e s).any (fun y => y.outcome == .offered)) || spoken) = true) ∨
            (c = .pool ∧ drops) then
          (s.noticeClass c).phase.afterCondition
        else (s.noticeClass c).phase } := by
  have hclass : (advanceEntry w).noticeClass c = w.noticeClass c := rfl
  have hlist : (advanceEntry w).list = { w.list with next := w.list.next + 1 } := rfl
  rw [endRun_noticeClass, anyWaiting, anyOffered, hlist, hw, hclass, hc]
  generalize (!(servedEntries e s).any (fun y => y.outcome == .waiting) &&
    !(servedEntries e s).any (fun y => y.outcome == .offered)) = done
  by_cases hcl : c = .list
  · subst hcl
    cases done <;> cases shortHalts e s <;> cases spoken <;> simp [afterCondition_idem]
  · simp [hcl]

theorem serveList_eq (he : s.list.entries[s.list.next]? = some e) (hw : e.outcome = .waiting) :
    serveList s = endRun (advanceEntry (processEntry s.list.next e s)) := by
  have hnext : nextWaiting s = some e := Option.filter_eq_some_iff.mpr ⟨he, by simp [hw]⟩
  rw [serveList, hnext]

/-! ### An entry that is not OFFERED -/

/-- The entry processed, when no grant is reserved for it. -/
def passedOver (e : Entry) (s : State) : State :=
  if shortHalts e s then haltList (finished e s) else finished e s

theorem passedOver_list (ho : servedOutcome e s ≠ .offered) : (passedOver e s).list = { s.list with
    entries := servedEntries e s, state := if shortHalts e s then .halted else s.list.state } := by
  have hfinished : (finished e s).list = { s.list with entries := servedEntries e s } :=
    finishEntry_modified e s s.list.next rfl ho (relieved_list e s) rfl
  unfold passedOver
  cases shortHalts e s
  · exact hfinished
  · exact congrArg (fun l : ListUnit => { l with state := .halted }) hfinished

theorem passedOver_noticeClass (he : s.list.entries[s.list.next]? = some e) (c : NoticeClass) :
    (passedOver e s).noticeClass c = { s.noticeClass c with
      phase := if (c = .list ∧ (shortHalts e s || !e.quiet) = true) then (s.noticeClass c).phase.afterCondition
        else (s.noticeClass c).phase } := by
  have hrelieved : (relieved e s).noticeClass c = s.noticeClass c := noticeClass_congr (by rw [relieved_frame]) c
  have hspoken : ((relieved e s).list.entries[s.list.next]?).any (fun y : Entry => !y.quiet) = !e.quiet := by
    rw [relieved_list, he]
    rfl
  have hfinished := finishEntry_noticeClass (relieved e s) s.list.next (servedOutcome e s) c
  rw [hrelieved, hspoken] at hfinished
  have hhalts := Power.setConditionIf_noticeClass (shortHalts e s) .list c (finished e s)
  have hpassed : (passedOver e s).noticeClass c =
      (if shortHalts e s then setCondition .list (finished e s) else finished e s).noticeClass c := by
    unfold passedOver
    cases shortHalts e s <;> rfl
  rw [hpassed, hhalts, finished, hfinished]
  by_cases hc : c = .list
  · subst hc
    cases shortHalts e s <;> cases e.quiet <;> simp [afterCondition_idem]
  · simp [hc]

theorem unserved_passedOver : unserved (passedOver e s) = unserved s := by
  have hfinished : unserved (finished e s) = unserved s :=
    (unserved_finishEntry ..).trans (unserved_relieved ..)
  unfold passedOver
  cases shortHalts e s
  · exact hfinished
  · exact (unserved_haltList _).trans hfinished

/-- An entry passed over leaves the other blocks as the end of the pending request left them. -/
theorem passedOver_kept : (passedOver e s).pool = s.pool ∧ (passedOver e s).engine = s.engine ∧
    (passedOver e s).periods = s.periods ∧ (passedOver e s).meters = (relieved e s).meters ∧
    (passedOver e s).branches = (relieved e s).branches ∧ (passedOver e s).operations = (relieved e s).operations := by
  have hpool : (relieved e s).pool = s.pool := relieved_pool e s
  have hengine : (relieved e s).engine = s.engine := by rw [relieved_frame]
  have hperiods : (relieved e s).periods = s.periods := by rw [relieved_frame]
  unfold passedOver finished
  cases shortHalts e s <;> simp [hpool, hengine, hperiods]

/-! ### An entry that is OFFERED -/

/-- The entry processed, when a grant is reserved for it in a slot. -/
def reserved (e : Entry) (s : State) (k : SlotId) : State :=
  modEntry s.list.next (fun y => { y with outcome := .offered, serial := some (takenSerial s) })
    { modMeter e.meter (fun y => { y with
        grant := some { serial := takenSerial s, amount := entryAmount e s, phase := .offered k
                        source := .list (some s.list.next) } })
        (poolReserve (entryAmount e s) (relieved e s)) with
      engine := { s.engine with
        nextSerial := if takenSerial s = 65535 then 1 else takenSerial s + 1
        slots := modifyAt s.engine.slots k (fun _ => some
          { serial := takenSerial s, meter := e.meter, amount := entryAmount e s
            expiry := s.timeBase + BitVec.ofNat 32 s.engine.window }) }
      operations := { (relieved e s).operations with queue := (relieved e s).operations.queue ++
        [.grantOffer e.meter (takenSerial s) (entryAmount e s) s.engine.window] } }

theorem shortHalts_of_offered (ho : servedOutcome e s = .offered) : shortHalts e s = false :=
  shortHalts_of_ne e s (by rw [ho]; simp)

theorem reserved_list (ho : servedOutcome e s = .offered) : (reserved e s k).list = { s.list with
    entries := servedEntries e s, state := if shortHalts e s then .halted else s.list.state } := by
  have hlist : (poolReserve (entryAmount e s) (relieved e s)).list = s.list :=
    (poolReserve_list ..).trans (relieved_list e s)
  have hentries : servedEntries e s = s.list.entries.modify s.list.next
      (fun y => { y with outcome := .offered, serial := some (takenSerial s) }) := by
    rw [servedEntries, ho]
    simp only [if_pos]
  rw [shortHalts_of_offered ho, hentries]
  let offers (y : Entry) : Entry := { y with outcome := .offered, serial := some (takenSerial s) }
  exact congrArg (fun l : ListUnit => { l with entries := l.entries.modify s.list.next offers }) hlist

theorem reserved_pool : (reserved e s k).pool = (recheckPool { s with
    pool := { s.pool with p := s.pool.p - entryAmount e s, g := min (s.pool.g + entryAmount e s) (2 ^ 48 - 1) } }).pool := by
  have hpool : (reserved e s k).pool = (poolReserve (entryAmount e s) (relieved e s)).pool := rfl
  rw [hpool, poolReserve_eq]
  refine recheckPool_pool_congr ?_ ?_
  · rw [relieved_pool]
  · exact (congrArg State.notices (relieved_frame e s) :)

theorem reserved_noticeClass (c : NoticeClass) : (reserved e s k).noticeClass c = { s.noticeClass c with
    phase := if c = .pool ∧ s.pool.recorded.rank < (reserved e s k).pool.recorded.rank then
      (s.noticeClass c).phase.afterCondition else (s.noticeClass c).phase } := by
  have hclass : (reserved e s k).noticeClass c = (poolReserve (entryAmount e s) (relieved e s)).noticeClass c := rfl
  have hpool : (reserved e s k).pool = (poolReserve (entryAmount e s) (relieved e s)).pool := rfl
  have hrelieved : (relieved e s).noticeClass c = s.noticeClass c := noticeClass_congr (by rw [relieved_frame]) c
  have hreserve : (poolReserve (entryAmount e s) (relieved e s)).noticeClass c = { (relieved e s).noticeClass c with
      phase := if c = .pool ∧ (relieved e s).pool.recorded.rank <
          (poolReserve (entryAmount e s) (relieved e s)).pool.recorded.rank then
        ((relieved e s).noticeClass c).phase.afterCondition else ((relieved e s).noticeClass c).phase } := by
    refine changePool_noticeClass _ _ _ ?_ c
    rfl
  rw [hclass, hpool, hreserve, hrelieved, relieved_pool]

theorem reserved_meter (m : MeterId) : (reserved e s k).meter m = if m = e.meter then
    { s.meter m with
      pendingReq := if supersedes e s then none else (s.meter m).pendingReq
      grant := some { serial := takenSerial s, amount := entryAmount e s, phase := .offered k
                      source := .list (some s.list.next) } }
    else s.meter m := by
  have hmeter (n : MeterId) : (poolReserve (entryAmount e s) (relieved e s)).meter n = (relieved e s).meter n :=
    meter_congr (by simp) n
  refine (modMeter_meter (poolReserve (entryAmount e s) (relieved e s)) e.meter m _).trans ?_
  rw [hmeter, hmeter, relieved_meter, relieved_meter]
  by_cases h : m = e.meter
  · subst h
    simp only [if_true]
  · rw [if_neg h, if_neg h, if_neg h]

theorem reserved_branch (b : BranchId) : (reserved e s k).branch b = (relieved e s).branch b :=
  congrArg (fun v : Vector Branch 48 => v.get b) (poolReserve_branches (relieved e s) (entryAmount e s))

theorem reserved_periods : (reserved e s k).periods = { s.periods with current := { s.periods.current with
    saturated := s.periods.current.saturated || decide (2 ^ 48 - 1 < s.pool.p ∨ s.pool.p < entryAmount e s ∨
      2 ^ 48 - 1 < s.pool.g + entryAmount e s) } } := by
  have hperiods : (reserved e s k).periods = (poolReserve (entryAmount e s) (relieved e s)).periods := rfl
  have hrelieved : (relieved e s).periods = s.periods := by rw [relieved_frame]
  rw [hperiods, poolReserve_eq, recheckPool_periods, relieved_pool, hrelieved]

theorem unserved_reserved : unserved (reserved e s k) = unserved s :=
  calc unserved (reserved e s k) = unserved (poolReserve (entryAmount e s) (relieved e s)) := rfl
    _ = unserved (relieved e s) := unserved_poolReserve ..
    _ = unserved s := unserved_relieved ..

/-- An OFFERED entry leaves its meter with no request, superseded or not there (R120). -/
theorem request_of_offered (ho : servedOutcome e s = .offered) :
    (if supersedes e s then none else (s.meter e.meter).pendingReq) = none := by
  have hactive : (s.meter e.meter).state = .active := by
    by_contra h
    rw [servedOutcome, if_pos h] at ho
    cases ho
  have hgrant : (s.meter e.meter).grant = none := by
    by_contra h
    rw [servedOutcome, if_neg (fun hn => hn hactive), if_pos h] at ho
    cases ho
  rw [supersedes, hactive, hgrant]
  cases (s.meter e.meter).pendingReq <;> rfl

theorem serveList_of_not_offered (he : s.list.entries[s.list.next]? = some e) (hw : e.outcome = .waiting)
    (hbefore : ∀ y ∈ s.list.entries.take s.list.next, y.outcome ≠ .waiting) (ho : servedOutcome e s ≠ .offered) :
    serveList s = endRun (advanceEntry (passedOver e s)) := by
  rw [serveList_eq he hw, processEntry_of_not_offered he hbefore ho]
  rfl

theorem serveList_of_offered (he : s.list.entries[s.list.next]? = some e) (hw : e.outcome = .waiting)
    (hslot : freeSlot? s = some k) (ho : servedOutcome e s = .offered) :
    serveList s = endRun (advanceEntry (reserved e s k)) := by
  rw [serveList_eq he hw, processEntry_of_offered ho, reserveForEntry_eq hslot]
  rfl

theorem unserved_serve (w : State) : unserved (endRun (advanceEntry w)) = unserved w :=
  (unserved_endRun _).trans rfl

theorem endRun_advance_noticesKept {w : State} (h : unserved w = unserved s) :
    endRun (advanceEntry w) = { s with
      pool := (endRun (advanceEntry w)).pool, meters := (endRun (advanceEntry w)).meters
      branches := (endRun (advanceEntry w)).branches, engine := (endRun (advanceEntry w)).engine
      list := (endRun (advanceEntry w)).list, operations := (endRun (advanceEntry w)).operations
      periods := (endRun (advanceEntry w)).periods
      notices := { s.notices with classes := (endRun (advanceEntry w)).notices.classes } } :=
  frame_of_unserved ((unserved_serve w).trans h)

theorem endRun_advance_blocks (w : State) : (endRun (advanceEntry w)).pool = w.pool ∧
    (endRun (advanceEntry w)).engine = w.engine ∧ (endRun (advanceEntry w)).periods = w.periods ∧
    (endRun (advanceEntry w)).operations = w.operations ∧
    (∀ m, (endRun (advanceEntry w)).meter m = w.meter m) ∧ ∀ b, (endRun (advanceEntry w)).branch b = w.branch b :=
  ⟨endRun_pool _, endRun_engine _, endRun_periods _, endRun_operations _, fun m => meter_congr (endRun_meters _) m,
    fun b => congrArg (fun v : Vector Branch 48 => v.get b) (endRun_branches _)⟩

end Service

/-- Settles O45: the entry is passed over or reserved for, and the run goes on or ends. -/
theorem listEntriesAreServed : Obligations.ListEntriesAreServed := by
  unfold Obligations.ListEntriesAreServed
  intro e k s he hw hk hlower i r v head raw x cause outcome entries waits offers halts done sup hbefore
  refine ⟨serveList s, rfl, ?_⟩
  by_cases ho : servedOutcome e s = .offered
  · have hoffered : outcome = .offered := ho
    have hslot := freeSlot?_of_lowest s hk hlower
    have hlist := served_list (reserved_list (k := k) ho)
    have hclass (c : NoticeClass) := served_noticeClass (spoken := false)
      (drops := s.pool.recorded.rank < (reserved e s k).pool.recorded.rank) (reserved_list (k := k) ho) c
      ((reserved_noticeClass c).trans (by simp [shortHalts_of_offered ho]))
    have hframe := endRun_advance_noticesKept (s := s) (unserved_reserved (e := e) (k := k))
    obtain ⟨hpool, hengine, hperiods, hoperations, hmeter, hbranch⟩ := endRun_advance_blocks (reserved e s k)
    rw [← serveList_of_offered he hw hslot ho] at hlist hclass hframe hpool hengine hperiods hoperations hmeter hbranch
    refine ⟨hlist, fun c => ?_, fun hn => absurd ho hn, fun _ => ⟨hpool.trans reserved_pool, hperiods.trans reserved_periods,
      ?_, hengine⟩, fun m hm => (hmeter m).trans ((reserved_meter m).trans (if_neg hm)), ⟨?_, fun b => ?_⟩, hframe⟩
    · have hspoken : (outcome != .offered && !e.quiet) = false := by
        rw [hoffered]
        rfl
      rw [hclass c, ← hpool]
      refine congrArg (fun ph => { s.noticeClass c with phase := ph }) ?_
      refine if_congr (or_congr ?_ ?_) rfl rfl
      · rw [hspoken]
        exact Iff.rfl
      · exact and_congr_right fun _ => (and_iff_right ho).symm
    · refine (hmeter e.meter).trans ((reserved_meter e.meter).trans ((if_pos rfl).trans ?_))
      rw [request_of_offered ho]
      rfl
    · have hreserved : (reserved e s k).operations = { (relieved e s).operations with
        queue := (relieved e s).operations.queue ++
          [.grantOffer e.meter (takenSerial s) (entryAmount e s) s.engine.window] } := rfl
      rw [hoperations, hreserved, relieved_operations, if_pos hoffered]
      rfl
    · exact (hbranch b).trans ((reserved_branch b).trans (relieved_branch e s b))
  · have hpassed : outcome ≠ .offered := ho
    have hlist := served_list (passedOver_list ho)
    have hclass (c : NoticeClass) := served_noticeClass (spoken := !e.quiet) (drops := False) (passedOver_list ho) c
      ((passedOver_noticeClass he c).trans (by simp))
    have hframe := endRun_advance_noticesKept (s := s) (unserved_passedOver (e := e))
    obtain ⟨hpool, hengine, hperiods, hoperations, hmeter, hbranch⟩ := endRun_advance_blocks (passedOver e s)
    rw [← serveList_of_not_offered he hw hbefore ho] at hlist hclass hframe hpool hengine hperiods hoperations hmeter hbranch
    obtain ⟨hpool', hengine', hperiods', hmeters', hbranches', hoperations'⟩ := passedOver_kept (e := e) (s := s)
    refine ⟨hlist, fun c => ?_, fun _ => ⟨hpool.trans hpool', hengine.trans hengine', hperiods.trans hperiods', ?_⟩,
      fun h => absurd h ho, fun m hm => ?_, ⟨?_, fun b => ?_⟩, hframe⟩
    · have hspoken : (outcome != .offered && !e.quiet) = !e.quiet := by
        have hne : (outcome != .offered) = true := by simpa using hpassed
        rw [hne, Bool.true_and]
      rw [hclass c]
      refine congrArg (fun ph => { s.noticeClass c with phase := ph }) ?_
      refine if_congr (or_congr ?_ ?_) rfl rfl
      · rw [hspoken]
        exact Iff.rfl
      · exact and_congr_right fun _ => ⟨False.elim, fun h => ho h.1⟩
    · exact (hmeter e.meter).trans ((meter_congr hmeters' e.meter).trans (relieved_meter_self e s))
    · exact (hmeter m).trans ((meter_congr hmeters' m).trans ((relieved_meter e s m).trans (if_neg hm)))
    · rw [hoperations, hoperations', relieved_operations, if_neg hpassed, List.append_nil]
      rfl
    · have hb : (passedOver e s).branch b = (relieved e s).branch b :=
        congrArg (fun v : Vector Branch 48 => v.get b) hbranches'
      exact (hbranch b).trans (hb.trans (relieved_branch e s b))

end Sys2Proof.Proofs.ListService
